-- ==== Sys2Proof/Word.lean ====
section
/-! DEFINITION. The words of the UT4810 and its small index types (spec/00_scope.md, 4; spec/12_formats_and_codes.md). -/

namespace Sys2Proof

/-- A byte of a line, of a transaction or of a response. -/
abbrev Byte := BitVec 8

/-- A signalling nibble. -/
abbrev Nibble := BitVec 4

/-- A circuit tag (R5). -/
abbrev Tag := BitVec 12

/-- A counter of the part, 0 to 65535 (00, 4). -/
abbrev Counter := BitVec 16

/-- The id of a circuit record (R1). -/
abbrev RecId := Fin 256

/-- The number of a tributary, detector, keyer or contact line. -/
abbrev Idx8 := Fin 8

end Sys2Proof
end

