-- ==== Sys2Proof/Syntax.lean ====
section
/-! DEFINITION. The commands of the UT4810: one constructor per row of spec/opcode_table.json. -/

namespace Sys2Proof

/-- The two trunks (00, 4). -/
inductive Trunk where
  | a | b
deriving DecidableEq, Repr

/-- What the outside brings to one station frame: which receive clocks were present in it (R52, R94), whether edges
arrived on REF (R70), and the choices of log 4 and log 6. Bit n of a mask is the tributary or detector n. -/
structure FrameIn where
  tribClock : BitVec 8
  trunkAClock : Bool
  trunkBClock : Bool
  refEdges : Bool
  /-- detectors whose frame event is left to a command of its own (log 4) -/
  deferDet : BitVec 8
  /-- tributaries whose station-paced transmit frame is left to TRIB_TRANSMIT_FRAME (log 4) -/
  deferTx : BitVec 8
  /-- the detectors' frame events are taken before this frame's restart notices and far-end acceptances (R140, R145) -/
  unitsFirst : Bool
  /-- this frame's repeat slips are taken before a map flip of the same station frame (R81) -/
  slipsFirst : Bool
deriving DecidableEq, Repr

/-- What the station wiring brings to a contact line: a level, and whether the wiring at that level overpowers a drive of the
line (R156, log 12). -/
structure Wiring where
  level : Bool
  overpowers : Bool
deriving DecidableEq, Repr

/-- The commands. A serial command carries the complete parameter bytes that followed its command code (R162). A
tributary or trunk line event carries the bits, highest first as sent, that were received up to it (log 7). -/
inductive Instr where
  | transactionStart
  | emptyTransaction
  | unknownCommand (code : Byte) (params : List Byte)
  | nop (params : List Byte)
  | fetch (params : List Byte)
  | softReset (params : List Byte)
  | readFlags (params : List Byte)
  | nextAttention (params : List Byte)
  | setMask (params : List Byte)
  | clearCounters (params : List Byte)
  | openRecord (params : List Byte)
  | discard (params : List Byte)
  | setEnd (params : List Byte)
  | setField (params : List Byte)
  | activate (params : List Byte)
  | suspend (params : List Byte)
  | resume (params : List Byte)
  | retire (params : List Byte)
  | revoke (params : List Byte)
  | query (params : List Byte)
  | queryStaged (params : List Byte)
  | cursor (params : List Byte)
  | nextRecord (params : List Byte)
  | commit (params : List Byte)
  | abortCommit (params : List Byte)
  | mapQuery (params : List Byte)
  | tribConfig (params : List Byte)
  | tribStatus (params : List Byte)
  | timingConfig (params : List Byte)
  | timingStatus (params : List Byte)
  | trunkConfig (params : List Byte)
  | trunkStatus (params : List Byte)
  | recentre (params : List Byte)
  | detBind (params : List Byte)
  | detUnbind (params : List Byte)
  | detConfig (params : List Byte)
  | detStatus (params : List Byte)
  | keyBind (params : List Byte)
  | keyUnbind (params : List Byte)
  | keyConfig (params : List Byte)
  | keyTest (params : List Byte)
  | keyStatus (params : List Byte)
  | lineConfig (params : List Byte)
  | lineWrite (params : List Byte)
  | lineRead (params : List Byte)
  | alarmMask (params : List Byte)
  | hardwareReset
  | resetRelease
  | stationFrame (inp : FrameIn)
  | stationMultiframeStart
  | mapFlip
  | retireHoldExpiry (id : RecId)
  | tribClockLoss (t : Idx8)
  | tribCandidateFound (t : Idx8) (bits : List Bool)
  | tribAlignmentConfirmed (t : Idx8) (bits : List Bool)
  | tribConfirmationFailed (t : Idx8) (bits : List Bool)
  | tribFrameReceived (t : Idx8) (bits : List Bool)
  | tribAlignmentLoss (t : Idx8) (bits : List Bool)
  | aisWindowEnd (t : Idx8) (bits : List Bool)
  | tribRemoteAlarmChange (t : Idx8) (bits : List Bool)
  | mfAlignmentLoss (t : Idx8) (bits : List Bool)
  | tribTransmitFrame (t : Idx8)
  | refActivityLoss
  | acquisitionComplete
  | holdoverExpiry
  | wtrExpiry
  | trunkClockLoss (k : Trunk)
  | trunkCandidateFound (k : Trunk) (bits : List Bool)
  | trunkAlignmentConfirmed (k : Trunk) (bits : List Bool) (overhead : List Byte)
  | trunkConfirmationFailed (k : Trunk) (bits : List Bool)
  | trunkFrameJudged (k : Trunk) (header : List Byte)
  | trunkAlignmentLoss (k : Trunk) (word seq : Byte)
  | trunkFrameHandedOn (k : Trunk) (payload : List Byte) (beforeRead : Bool)
  | windowLoss (k : Trunk)
  | windowReturn (k : Trunk)
  | anchorFrameArrival (k : Trunk) (payload : List Byte) (beforeRead : Bool)
  | detectorUnblock (d : Idx8)
  | detectorCommandRecognised (d : Idx8)
  | detectorRelease (d : Idx8)
  | trailExpiry (d : Idx8)
  | detectorUnavailable (d : Idx8)
  | lineRequestQualified (k : Idx8)
  | keyerCommandEnd (k : Idx8)
  | lockoutExpiry (k : Idx8)
  | testRemainderExpiry (k : Idx8)
  | lineLevelChange (n : Idx8) (wiring : Wiring)
deriving DecidableEq, Repr

end Sys2Proof
end

