-- ==== Sys2Proof/WellFormed.lean ====
section
/-! DEFINITION. Which commands the outside can bring: the operand lengths of the events, and the codes outside the
command table (12, 12.2). A serial command may carry any number of parameter bytes; the part itself refuses a wrong
count with LENGTH (R164). -/

namespace Sys2Proof

/-- The command codes of 12.2. -/
def commandCodes : List Byte :=
  [0x00, 0x01, 0x02, 0x03, 0x04, 0x05, 0x06, 0x10, 0x11, 0x12, 0x13, 0x14, 0x15, 0x16, 0x17, 0x18, 0x19, 0x1A, 0x1B,
    0x1C, 0x20, 0x21, 0x22] ++
  [0x30, 0x31, 0x38, 0x39, 0x40, 0x41, 0x42, 0x50, 0x51, 0x52, 0x53, 0x58, 0x59, 0x5A, 0x5B, 0x5C, 0x60, 0x61, 0x62, 0x63]

/-- Payload cells of a trunk frame; its header; the rest of its overhead (R84). -/
def payloadCells : Nat := 248
def headerCells : Nat := 8
def overheadRest : Nat := 6

/-- An event's operands have the lengths that its rule gives; UNKNOWN_COMMAND carries a code that is no command. -/
def Instr.wf : Instr → Bool
  | .unknownCommand code _ => !commandCodes.contains code
  | .trunkAlignmentConfirmed _ _ overhead => overhead.length == overheadRest
  | .trunkFrameJudged _ header => header.length == headerCells
  | .trunkFrameHandedOn _ payload _ => payload.length == payloadCells
  | .anchorFrameArrival _ payload _ => payload.length == payloadCells
  | _ => true

end Sys2Proof
end

