-- ==== Sys2Proof/Decode.lean ====
section
/-! DEFINITION. From words to commands. The rows of spec/opcode_table.json give no bits, so decodeTableWord answers
none (log 24). decodeTransaction reads a serial transaction's bytes by the command codes of 12.2, and transactionBytes writes
them. -/

namespace Sys2Proof

/-- No row of the table gives bits (log 24). -/
def decodeTableWord (_nbits _w : Nat) : Option Instr := none

/-- The command that a transaction's complete bytes are: the first is the command code, the rest its parameters
(R162, 12.2). -/
def decodeTransaction : List Byte → Instr
  | [] => .emptyTransaction
  | code :: ps =>
    match code.toNat with
    | 0x00 => .nop ps
    | 0x01 => .fetch ps
    | 0x02 => .softReset ps
    | 0x03 => .readFlags ps
    | 0x04 => .nextAttention ps
    | 0x05 => .setMask ps
    | 0x06 => .clearCounters ps
    | 0x10 => .openRecord ps
    | 0x11 => .discard ps
    | 0x12 => .setEnd ps
    | 0x13 => .setField ps
    | 0x14 => .activate ps
    | 0x15 => .suspend ps
    | 0x16 => .resume ps
    | 0x17 => .retire ps
    | 0x18 => .revoke ps
    | 0x19 => .query ps
    | 0x1A => .queryStaged ps
    | 0x1B => .cursor ps
    | 0x1C => .nextRecord ps
    | 0x20 => .commit ps
    | 0x21 => .abortCommit ps
    | 0x22 => .mapQuery ps
    | 0x30 => .tribConfig ps
    | 0x31 => .tribStatus ps
    | 0x38 => .timingConfig ps
    | 0x39 => .timingStatus ps
    | 0x40 => .trunkConfig ps
    | 0x41 => .trunkStatus ps
    | 0x42 => .recentre ps
    | 0x50 => .detBind ps
    | 0x51 => .detUnbind ps
    | 0x52 => .detConfig ps
    | 0x53 => .detStatus ps
    | 0x58 => .keyBind ps
    | 0x59 => .keyUnbind ps
    | 0x5A => .keyConfig ps
    | 0x5B => .keyTest ps
    | 0x5C => .keyStatus ps
    | 0x60 => .lineConfig ps
    | 0x61 => .lineWrite ps
    | 0x62 => .lineRead ps
    | 0x63 => .alarmMask ps
    | _ => .unknownCommand code ps

/-- The complete bytes of the transaction that a serial command is (R162, 12.2). -/
def transactionBytes : Instr → Option (List Byte)
  | .emptyTransaction => some []
  | .unknownCommand code ps => if commandCodes.contains code then none else some (code :: ps)
  | .nop ps => some (0x00 :: ps)
  | .fetch ps => some (0x01 :: ps)
  | .softReset ps => some (0x02 :: ps)
  | .readFlags ps => some (0x03 :: ps)
  | .nextAttention ps => some (0x04 :: ps)
  | .setMask ps => some (0x05 :: ps)
  | .clearCounters ps => some (0x06 :: ps)
  | .openRecord ps => some (0x10 :: ps)
  | .discard ps => some (0x11 :: ps)
  | .setEnd ps => some (0x12 :: ps)
  | .setField ps => some (0x13 :: ps)
  | .activate ps => some (0x14 :: ps)
  | .suspend ps => some (0x15 :: ps)
  | .resume ps => some (0x16 :: ps)
  | .retire ps => some (0x17 :: ps)
  | .revoke ps => some (0x18 :: ps)
  | .query ps => some (0x19 :: ps)
  | .queryStaged ps => some (0x1A :: ps)
  | .cursor ps => some (0x1B :: ps)
  | .nextRecord ps => some (0x1C :: ps)
  | .commit ps => some (0x20 :: ps)
  | .abortCommit ps => some (0x21 :: ps)
  | .mapQuery ps => some (0x22 :: ps)
  | .tribConfig ps => some (0x30 :: ps)
  | .tribStatus ps => some (0x31 :: ps)
  | .timingConfig ps => some (0x38 :: ps)
  | .timingStatus ps => some (0x39 :: ps)
  | .trunkConfig ps => some (0x40 :: ps)
  | .trunkStatus ps => some (0x41 :: ps)
  | .recentre ps => some (0x42 :: ps)
  | .detBind ps => some (0x50 :: ps)
  | .detUnbind ps => some (0x51 :: ps)
  | .detConfig ps => some (0x52 :: ps)
  | .detStatus ps => some (0x53 :: ps)
  | .keyBind ps => some (0x58 :: ps)
  | .keyUnbind ps => some (0x59 :: ps)
  | .keyConfig ps => some (0x5A :: ps)
  | .keyTest ps => some (0x5B :: ps)
  | .keyStatus ps => some (0x5C :: ps)
  | .lineConfig ps => some (0x60 :: ps)
  | .lineWrite ps => some (0x61 :: ps)
  | .lineRead ps => some (0x62 :: ps)
  | .alarmMask ps => some (0x63 :: ps)
  | _ => none

end Sys2Proof
end

