-- ==== Sys2Proof/Config.lean ====
section
/-! DEFINITION. The fixed numbers of the part. -/

namespace Sys2Proof.Config

/-- Station frames of a station multiframe, and sequence numbers of a trunk (R68, R84). -/
def frames : Nat := 248

/-- Consecutive frames without a clock, or without REF edges, that make a loss (R52, R70, R94). -/
def absentFrames : Nat := 4

/-- Consecutive errored words that end the alignment of a tributary (R54). -/
def tribErroredWords : Nat := 3

/-- Consecutive errored words, and consecutive sequence errors, that end the alignment of a trunk (R96). -/
def trunkErroredWords : Nat := 4
def trunkSequenceErrors : Nat := 2

/-- Bits of an AIS window, and the zeros from which AIS is off (R55). -/
def aisWindow : Nat := 512
def aisZeros : Nat := 3

/-- Set or clear remote-alarm bits in a row that turn the indicator (R56). -/
def remoteAlarmRun : Nat := 3

/-- Frames that a deskew store and an elastic store hold (R79, R103). -/
def deskewFrames : Nat := 64
def elasticFrames : Nat := 2

/-- Missing reads that take a trunk out of its window, present reads that bring it back (R105). -/
def missingReads : Nat := 3
def presentReads : Nat := 8

/-- Distances that are ahead of the read position run from 0 to 183 (R103). -/
def aheadLimit : Nat := 184

/-- The MATCH and MISMATCH runs stop here (R109). -/
def matchTop : Nat := 2
def mismatchTop : Nat := 3

/-- HOLDOVER lasts this many station multiframe starts (R71). -/
def holdoverStarts : Nat := 1936

/-- Station multiframe starts of an acquisition (R72). -/
def acquisitionStarts : Nat := 2

/-- Longest KEY TEST (R153). -/
def testFrames : Nat := 8000

/-- The vacant nibble of the trunk, and of a tributary after reset (R48, R89). -/
def trunkVacantNibble : Nibble := 9

end Sys2Proof.Config
end

