-- ==== Sys2Proof/Machine/State.lean ====
section
/-! DEFINITION. The state of the part, block by block (00, 1.2), and its value after a hardware reset. -/

namespace Sys2Proof.Machine

/-- One value for each trunk. -/
structure Pair (α : Type) where
  a : α
  b : α
deriving DecidableEq, Repr

/-- End X or end Y of a record; as a direction, toward X or toward Y. -/
inductive Side where
  | x | y
deriving DecidableEq, Repr

/-- One value for each end, or for each direction. -/
structure Both (α : Type) where
  x : α
  y : α
deriving DecidableEq, Repr

/-! ### Circuit table (01, 02) -/

/-- R1. -/
inductive RecState where
  | free | draft | active | suspended | retiring
deriving DecidableEq, Repr

/-- R2. -/
inductive RecClass where
  | protection | voice | data
deriving DecidableEq, Repr

/-- The port of an end (R3). -/
inductive Port where
  | trib (t : Idx8)
  | trunk
deriving DecidableEq, Repr

/-- A set end: a port and its ordered slots or cells (R3). -/
structure End where
  port : Port
  list : List Nat
deriving DecidableEq, Repr

/-- R4. -/
inductive StagedOp where
  | activate | suspend | resume | remap | retire
deriving DecidableEq, Repr

/-- R5. -/
inductive PathPolicy where
  | auto | lock | forceA | forceB
deriving DecidableEq, Repr

/-- R6. -/
inductive Density where
  | none | lowBit | substitute
deriving DecidableEq, Repr

/-- R6. -/
inductive Loopback where
  | none | loopX | loopY
deriving DecidableEq, Repr

/-- R6. -/
inductive Inject where
  | none | towardX | towardY
deriving DecidableEq, Repr

/-- R7, R116. -/
inductive Health where
  | normal | unprotected | faulted
deriving DecidableEq, Repr

/-- The selected path (R7, R113). -/
inductive PathSel where
  | a | b | none | notApplicable
deriving DecidableEq, Repr

/-- R111. -/
inductive CopyStatus where
  | good | misrouted | down
deriving DecidableEq, Repr

/-- R7, R97. -/
inductive FarStatus where
  | ok | sourceFail | sinkFail | conditioned | test | unknown
deriving DecidableEq, Repr

/-- The settable fields of R5 and R6. `fixed` is the signalling source FIXED. -/
structure Fields where
  txTag : Tag
  expTag : Tag
  policy : PathPolicy
  prefer : Trunk
  cond : Both Byte
  density : Density
  fixed : Both Bool
  nib : Both Nibble
  faultNib : Nibble
  loopback : Loopback
  testCode : Byte
  inject : Inject
  hold : Nibble
  attention : Bool
deriving DecidableEq, Repr

/-- The tag check of one copy (R109). -/
structure TagCheck where
  read : Bool
  mismatch : Bool
  matchRun : Nat
  mismatchRun : Nat
  misroute : Bool
deriving DecidableEq, Repr

/-- A circuit record (R1 to R9). The bound detector and keyer are views of the units' bindings (R7). `failed` is the
source state FAILED of each direction. -/
structure Record where
  state : RecState
  cls : RecClass
  ends : Both (Option End)
  staged : Option StagedOp
  stagedEnds : Both (Option End)
  fields : Fields
  health : Health
  failed : Both Bool
  selected : PathSel
  copy : Pair CopyStatus
  far : FarStatus
  holdRemaining : Nibble
  slips : Counter
  switches : Counter
  misroutes : Counter
  tag : Pair TagCheck
  lastPath : Option Trunk
  farCand : Option FarStatus
deriving DecidableEq, Repr

/-- An owned entry of a slot map (R29). -/
structure Entry where
  owner : RecId
  side : Side
  pos : Nat
deriving DecidableEq, Repr

/-- A slot map: entry 32·t + n of `slots` is slot n of tributary t (R29). -/
structure SlotMap where
  slots : Vector (Option Entry) 256
  cells : Vector (Option Entry) 248
deriving DecidableEq, Repr

/-- The circuit table with its maps, its pending commit, its epoch and its cursor. -/
structure CircuitTable where
  records : Vector Record 256
  activeMap : SlotMap
  nextMap : SlotMap
  commitPending : Bool
  epoch : Counter
  cursor : RecId
  endLock : Bool
deriving DecidableEq, Repr

/-! ### Tributary ports (03, 04) -/

/-- R48. -/
structure TribConfig where
  enable : Bool
  signalling : Bool
  loopTiming : Bool
  autoRa : Bool
  forceRa : Bool
  vacantCode : Byte
  vacantNibble : Nibble
deriving DecidableEq, Repr

/-- The alignment states of 3.3 and 5.4. -/
inductive Align where
  | off | noSignal | search | confirm | aligned
deriving DecidableEq, Repr

/-- A position of a received signalling table (R60, R118). -/
structure SigEntry where
  nib : Nibble
  cand : Option Nibble
deriving DecidableEq, Repr

/-- An elastic store: unread frames, oldest first, and the frame last read (R79, R82). A frame is 32 slots; in a
transmit store `none` marks a vacant slot (log 28). -/
structure Elastic (α : Type) where
  unread : List (List α)
  last : Option (List α)
deriving DecidableEq, Repr

/-- The receive alignment work of a tributary port (R52 to R56, R59). -/
structure TribRx where
  align : Align
  absence : Nat
  /-- the bits kept for the search and the confirmation (R53) -/
  kept : List Bool
  /-- the bits of the line frame in reception while ALIGNED -/
  part : List Bool
  /-- the line frame in reception is odd (R46) -/
  odd : Bool
  errorRun : Nat
  ais : Bool
  aisBits : Nat
  aisZeros : Nat
  remote : Bool
  setRun : Nat
  clearRun : Nat
  mfAligned : Bool
  mfNext : Nat
  mfWrong : Nat
deriving DecidableEq, Repr

/-- The counters of R65. -/
structure TribCounters where
  alignErrors : Counter
  losses : Counter
  repeatSlips : Counter
  deleteSlips : Counter
  txSlips : Counter
deriving DecidableEq, Repr

/-- A tributary port with its elastic stores. A position of `txSig` without a nibble carries the port's vacant nibble (R51,
log 28). -/
structure Trib where
  cfg : TribConfig
  rx : TribRx
  sig : Vector SigEntry 30
  store : Elastic Byte
  txStore : Elastic (Option Byte)
  txCount : BitVec 4
  txSig : Vector (Option Nibble) 30
  delivered : List (Option Byte)
  lineOut : List Byte
  /-- the remote-alarm bit that is on the line: of the last odd frame, or of a frame of ones (R63, log 16) -/
  lineRemote : Bool
  counters : TribCounters
  /-- a transmit frame is due, left to TRIB_TRANSMIT_FRAME (log 4) -/
  txDue : Bool
deriving DecidableEq, Repr

/-! ### Station timing unit (04) -/

/-- R69. -/
inductive Source where
  | trib (t : Idx8)
  | trunk (k : Trunk)
  | ref
deriving DecidableEq, Repr

/-- R71 to R74. -/
inductive StuState where
  | freeRun | acquiring | locked | holdover
deriving DecidableEq, Repr

/-- The station timing unit. `begun` to `retiredNow` are the model's marks of the multiframe start at hand; `retiredNow`
holds the records that its flip made RETIRING, and those that have expired at it ahead of the start (log 5). -/
structure Stu where
  list : List Source
  revertive : Bool
  wtrTime : Nat
  state : StuState
  selected : Option Source
  acquisition : Nat
  memory : Bool
  holdover : Nat
  wtrTarget : Option Source
  wtrCount : Nat
  refActive : Bool
  refIdle : Nat
  count : Nat
  started : Bool
  begun : Bool
  flipClosed : Bool
  stuTaken : Bool
  retiredNow : List RecId
deriving DecidableEq, Repr

/-! ### Trunk ports and path selector (05, 06) -/

/-- One trunk port. -/
structure TrunkPort where
  enable : Bool
  align : Align
  absence : Nat
  clock : Bool
  kept : List Bool
  cand : Nat
  expected : Nat
  errorRun : Nat
  seqRun : Nat
  /-- the frame in reception: its number and its positions 0 to 7 (R97) -/
  inRx : Option (Nat × List Byte)
  farEpoch : Byte
  farClock : StuState
  farRdi : Bool
  alignErrors : Counter
  seqErrors : Counter
  jumps : Counter
  windowLosses : Counter
  lineOut : List Byte
deriving DecidableEq, Repr

/-- The trunk ports and their common configuration (R91). -/
structure TrunkPorts where
  port : Pair TrunkPort
  skew : Nat
  vacantCode : Byte
deriving DecidableEq, Repr

/-- A frame of a deskew store (R97, R103). -/
structure DFrame where
  seq : Nat
  tag : Tag
  status : FarStatus
  nibbles : List Nibble
  cells : List Byte
deriving DecidableEq, Repr

/-- R105. -/
inductive DeskewState where
  | unanchored | inWindow | outOfWindow
deriving DecidableEq, Repr

/-- R106. -/
inductive Hold where
  | none
  | awaiting
  | until (q : Nat)
deriving DecidableEq, Repr

/-- The path selector's state of one trunk. -/
structure Deskew where
  frames : List DFrame
  state : DeskewState
  missing : Nat
  present : Nat
  hold : Hold
deriving DecidableEq, Repr

/-- The path selector's state besides the records' path items. -/
structure PathSelector where
  deskew : Pair Deskew
  readPos : Nat
  anchored : Bool
  sig : Vector SigEntry 248
deriving DecidableEq, Repr

/-! ### Detectors and keyers (08) -/

/-- R135. -/
inductive DetState where
  | unbound | blocked | guard | pending | command | trail
deriving DecidableEq, Repr

/-- The configuration of a detector (R135, R138). -/
structure DetConfig where
  guard : Byte
  c1 : Byte
  c2 : Byte
  dual : Bool
  p : Nat
  r : Nat
  m : Nat
  u : Nat
deriving DecidableEq, Repr

/-- A command detector. -/
structure Detector where
  binding : Option (RecId × Side)
  cfg : DetConfig
  state : DetState
  persist : Nat
  release : Nat
  prolong : Nat
  unknown : Nat
  prev : Option Byte
  commands : Counter
  blockedEvents : Counter
  /-- a byte handed over and left to a command of its own (log 4) -/
  handed : Option Byte
deriving DecidableEq, Repr

/-- R148. -/
inductive KeyState where
  | unbound | guard | command | lockout
deriving DecidableEq, Repr

/-- The configuration of a keyer (R148, R150). -/
structure KeyConfig where
  guard : Byte
  c1 : Byte
  c2 : Byte
  dual : Bool
  kmin : Nat
  g : Nat
  q : Nat
deriving DecidableEq, Repr

/-- The record of a keyer's last frame event (R148). -/
structure KeyEvent where
  level : Bool
  request : Bool
  byte : Option Byte
  delivered : Bool
deriving DecidableEq, Repr

/-- A command keyer. -/
structure Keyer where
  binding : Option (RecId × Side)
  cfg : KeyConfig
  state : KeyState
  qual : Nat
  duration : Nat
  lockout : Nat
  test : Nat
  sent : Counter
  last : KeyEvent
  /-- the last command byte was an odd frame of its COMMAND (log 19) -/
  oddFrame : Bool
  /-- the frame event of the coming station frame has been taken (log 4) -/
  taken : Bool
  /-- a KEY_IN line was gained since the last frame event, so the run counts from the next one (R157) -/
  gained : Bool
deriving DecidableEq, Repr

/-! ### Contact lines (09) -/

/-- R155. -/
inductive LineFunction where
  | input | output | keyIn | cmdOut | alarmOut
deriving DecidableEq, Repr

/-- A contact line. `wire` is the level the station wiring sets, `overpowers` that it overpowers a drive (R156, log 12). -/
structure Line where
  function : LineFunction
  activeLow : Bool
  unit : Idx8
  latch : Bool
  wire : Bool
  overpowers : Bool
deriving DecidableEq, Repr

structure ContactLines where
  lines : Vector Line 8
  alarmMask : BitVec 5
deriving DecidableEq, Repr

/-! ### Command port and attention unit (10) -/

/-- The outcomes of 12.3. -/
inductive Code where
  | ok | busy | unread | length | unknown | range | state | conflict | incomplete | inuse | staged | notStaged
  | notPending | empty | busyUnit
deriving DecidableEq, Repr

/-- The transaction in progress: none, one with the status byte latched at its fall, or one begun while RESET was
asserted or discarded by it (R162, R163, R169). -/
inductive Sel where
  | idle
  | active (status : Byte)
  | ignored
deriving DecidableEq, Repr

structure CommandPort where
  last : Code
  response : Option (List Byte)
  sel : Sel
  sdo : List Byte
deriving DecidableEq, Repr

structure Attention where
  queue : List RecId
  flags : BitVec 13
  mask : BitVec 13
  queueEnable : Bool
deriving DecidableEq, Repr

/-- The whole part, and the queue of the commands that wait (log 1). -/
structure State where
  ct : CircuitTable
  tribs : Vector Trib 8
  stu : Stu
  trunks : TrunkPorts
  ps : PathSelector
  dets : Vector Detector 8
  keyers : Vector Keyer 8
  clu : ContactLines
  cp : CommandPort
  au : Attention
  /-- the RESET pin is asserted (R169) -/
  inReset : Bool
  pending : List Instr
deriving DecidableEq, Repr

/-- Nothing stops the part: every command answers a next state (log 22). Nobody raises a fault; safe. -/
inductive Fault
deriving DecidableEq, Repr

/-- Why a command has no meaning. -/
inductive Refusal where
  /-- the arm of `exec` is not written yet; raised by `exec` alone; safe -/
  | notModelled (mnemonic : String)
deriving DecidableEq, Repr

/-! ### Values after reset -/

/-- The default fields (R5, R6). -/
def Fields.default : Fields where
  txTag := 0
  expTag := 0
  policy := .auto
  prefer := .a
  cond := ⟨0xFF, 0xFF⟩
  density := .none
  fixed := ⟨false, false⟩
  nib := ⟨0, 0⟩
  faultNib := 0xF
  loopback := .none
  testCode := 0
  inject := .none
  hold := 2
  attention := true

/-- A tag check with nothing collected (R109). -/
def TagCheck.clear : TagCheck := ⟨false, false, 0, 0, false⟩

/-- The FREE record (R9). -/
def Record.freeRecord : Record where
  state := .free
  cls := .data
  ends := ⟨none, none⟩
  staged := none
  stagedEnds := ⟨none, none⟩
  fields := .default
  health := .normal
  failed := ⟨false, false⟩
  selected := .notApplicable
  copy := ⟨.down, .down⟩
  far := .unknown
  holdRemaining := 0
  slips := 0
  switches := 0
  misroutes := 0
  tag := ⟨.clear, .clear⟩
  lastPath := none
  farCand := none

/-- A map with every entry vacant (R29). -/
def SlotMap.vacant : SlotMap := ⟨Vector.replicate 256 none, Vector.replicate 248 none⟩

/-- R9, R27, R45. -/
def CircuitTable.reset : CircuitTable :=
  ⟨Vector.replicate 256 .freeRecord, .vacant, .vacant, false, 0, 0, false⟩

/-- A signalling position with nothing accepted (R60, R118). -/
def SigEntry.clear : SigEntry := ⟨0xF, none⟩

/-- R48. -/
def TribConfig.reset : TribConfig := ⟨false, false, false, true, false, 0xFF, 9⟩

/-- R67; the line frame number and the multiframe number are log 29. -/
def TribRx.reset : TribRx where
  align := .off
  absence := 0
  kept := []
  part := []
  odd := false
  errorRun := 0
  ais := false
  aisBits := 0
  aisZeros := 0
  remote := false
  setRun := 0
  clearRun := 0
  mfAligned := false
  mfNext := 0
  mfWrong := 0

/-- A store with no unread frame and no frame kept. -/
def Elastic.empty {α : Type} : Elastic α := ⟨[], none⟩

/-- A line frame of ones (R62, R85). -/
def onesFrame (n : Nat) : List Byte := List.replicate n 0xFF

/-- Every slot vacant (R67, log 18). -/
def vacantFrame : List (Option Byte) := List.replicate 32 none

/-- R67; the remote-alarm bit is that of the ones sent (log 16). -/
def Trib.reset : Trib where
  cfg := .reset
  rx := .reset
  sig := Vector.replicate 30 .clear
  store := .empty
  txStore := .empty
  txCount := 0
  txSig := Vector.replicate 30 (some 9)
  delivered := vacantFrame
  lineOut := onesFrame 32
  lineRemote := true
  counters := ⟨0, 0, 0, 0, 0⟩
  txDue := false

/-- R78. -/
def Stu.reset : Stu where
  list := []
  revertive := false
  wtrTime := 32
  state := .freeRun
  selected := none
  acquisition := 0
  memory := false
  holdover := 0
  wtrTarget := none
  wtrCount := 0
  refActive := false
  refIdle := 0
  count := 0
  started := false
  begun := false
  flipClosed := false
  stuTaken := false
  retiredNow := []

/-- R102; `clock` is log 13, `cand` log 29. -/
def TrunkPort.reset : TrunkPort where
  enable := false
  align := .off
  absence := 0
  clock := false
  kept := []
  cand := 0
  expected := 0
  errorRun := 0
  seqRun := 0
  inRx := none
  farEpoch := 0
  farClock := .freeRun
  farRdi := false
  alignErrors := 0
  seqErrors := 0
  jumps := 0
  windowLosses := 0
  lineOut := onesFrame 256

/-- R91, R102. -/
def TrunkPorts.reset : TrunkPorts := ⟨⟨.reset, .reset⟩, 8, 0xFF⟩

/-- A trunk with no frame held, not anchored (R119). -/
def Deskew.reset : Deskew := ⟨[], .unanchored, 0, 0, .none⟩

/-- R119. -/
def PathSelector.reset : PathSelector := ⟨⟨.reset, .reset⟩, 0, false, Vector.replicate 248 .clear⟩

/-- R135. -/
def Detector.reset : Detector where
  binding := none
  cfg := ⟨0x33, 0xCC, 0xA6, false, 4, 4, 40, 16⟩
  state := .unbound
  persist := 0
  release := 0
  prolong := 0
  unknown := 0
  prev := none
  commands := 0
  blockedEvents := 0
  handed := none

/-- No last frame event (R148). -/
def KeyEvent.none : KeyEvent := ⟨false, false, Option.none, false⟩

/-- R148; `oddFrame` is log 19. -/
def Keyer.reset : Keyer where
  binding := none
  cfg := ⟨0x33, 0xCC, 0xA6, false, 24, 8, 2⟩
  state := .unbound
  qual := 0
  duration := 0
  lockout := 0
  test := 0
  sent := 0
  last := .none
  oddFrame := false
  taken := false
  gained := false

/-- R155; the level of the wiring is log 12. -/
def Line.reset : Line := ⟨.input, false, 0, false, false, false⟩

/-- R155, R161. -/
def ContactLines.reset : ContactLines := ⟨Vector.replicate 8 .reset, 0x1F⟩

/-- R169. -/
def CommandPort.reset : CommandPort := ⟨.ok, none, .idle, []⟩

/-- R168. -/
def Attention.reset : Attention := ⟨[], 0, 0, false⟩

/-- The part right after a hardware reset, the RESET pin released (R169). -/
def State.reset : State where
  ct := .reset
  tribs := Vector.replicate 8 .reset
  stu := .reset
  trunks := .reset
  ps := .reset
  dets := Vector.replicate 8 .reset
  keyers := Vector.replicate 8 .reset
  clu := .reset
  cp := .reset
  au := .reset
  inReset := false
  pending := []

end Sys2Proof.Machine
end

