-- ==== Sys2Proof/Machine/Operands.lean ====
section
/-! DEFINITION. What a parameter byte can mean: every operand form of the commands, with `none` outside its values. -/

namespace Sys2Proof.Machine

/-- A flag byte: 0 or 1. -/
def readFlag (n : Nat) : Option Bool :=
  match n with
  | 0 => some false
  | 1 => some true
  | _ => none

/-- The number of a tributary, a detector, a keyer or a contact line: 0 to 7. -/
def readUnit (n : Nat) : Option Idx8 := if h : n < 8 then some ⟨n, h⟩ else none

/-- A record id: every byte names a record (R1). -/
def readId (b : Byte) : RecId := b.toFin

/-- An end, or a direction (R11, R136). -/
def readSide (n : Nat) : Option Side :=
  match n with
  | 0 => some .x
  | 1 => some .y
  | _ => none

/-- A trunk (R101, R108). -/
def readTrunk (n : Nat) : Option Trunk :=
  match n with
  | 0 => some .a
  | 1 => some .b
  | _ => none

/-- A port of an end (R3). -/
def readPort (n : Nat) : Option Port := if n = 8 then some .trunk else (readUnit n).map .trib

/-- R2. -/
def readClass (n : Nat) : Option RecClass :=
  match n with
  | 0 => some .protection
  | 1 => some .voice
  | 2 => some .data
  | _ => none

/-- R69. -/
def readSource (n : Nat) : Option Source :=
  match n with
  | 8 => some (.trunk .a)
  | 9 => some (.trunk .b)
  | 10 => some .ref
  | n => (readUnit n).map .trib

/-- R155. -/
def readFunction (n : Nat) : Option LineFunction :=
  match n with
  | 0 => some .input
  | 1 => some .output
  | 2 => some .keyIn
  | 3 => some .cmdOut
  | 4 => some .alarmOut
  | _ => none

def readPolicy (n : Nat) : Option PathPolicy :=
  match n with
  | 0 => some .auto
  | 1 => some .lock
  | 2 => some .forceA
  | 3 => some .forceB
  | _ => none

def readDensity (n : Nat) : Option Density :=
  match n with
  | 0 => some .none
  | 1 => some .lowBit
  | 2 => some .substitute
  | _ => none

def readLoopback (n : Nat) : Option Loopback :=
  match n with
  | 0 => some .none
  | 1 => some .loopX
  | 2 => some .loopY
  | _ => none

def readInject (n : Nat) : Option Inject :=
  match n with
  | 0 => some .none
  | 1 => some .towardX
  | 2 => some .towardY
  | _ => none

/-- A value that fits in w bits (R18, check 4). -/
def readWidth (w n : Nat) : Option (BitVec w) := if n < 2 ^ w then some (BitVec.ofNat w n) else none

/-- Two bytes, the high one first (R11). -/
def word16 (hi lo : Byte) : Nat := hi.toNat * 256 + lo.toNat

/-- The fields after SET FIELD writes `v` to the field of code `c`, for the codes of fields other than the class
(12.6); none where the value is outside the field's range. -/
def writeField (f : Fields) (c v : Nat) : Option Fields :=
  match c with
  | 1 => (readWidth 12 v).map fun t => { f with txTag := t }
  | 2 => (readWidth 12 v).map fun t => { f with expTag := t }
  | 3 => (readPolicy v).map fun p => { f with policy := p }
  | 4 => (readTrunk v).map fun k => { f with prefer := k }
  | 5 => (readWidth 8 v).map fun b => { f with cond := { f.cond with x := b } }
  | 6 => (readWidth 8 v).map fun b => { f with cond := { f.cond with y := b } }
  | 7 => (readDensity v).map fun d => { f with density := d }
  | 8 => (readFlag v).map fun b => { f with fixed := { f.fixed with x := b } }
  | 9 => (readFlag v).map fun b => { f with fixed := { f.fixed with y := b } }
  | 10 => (readWidth 4 v).map fun n => { f with nib := { f.nib with x := n } }
  | 11 => (readWidth 4 v).map fun n => { f with nib := { f.nib with y := n } }
  | 12 => (readWidth 4 v).map fun n => { f with faultNib := n }
  | 13 => (readLoopback v).map fun l => { f with loopback := l }
  | 14 => (readWidth 8 v).map fun b => { f with testCode := b }
  | 15 => (readInject v).map fun i => { f with inject := i }
  | 16 => (readWidth 4 v).map fun h => { f with hold := h }
  | 17 => (readFlag v).map fun b => { f with attention := b }
  | _ => none

/-- The greatest code of a settable field (12.6). -/
def lastFieldCode : Nat := 17

/-- Whether a slot or cell number exists on the port (R3). -/
def entryExists (p : Port) (n : Nat) : Bool :=
  match p with
  | .trib _ => n < 32
  | .trunk => n < 248

/-- A list without a number twice. -/
def noRepeat : List Nat → Bool
  | [] => true
  | n :: ns => !ns.contains n && noRepeat ns

/-- An end as SET END names it, where port and entries are in range (R14, check 2). -/
def readEnd (port : Nat) (entries : List Byte) : Option End := do
  let p ← readPort port
  let list := entries.map BitVec.toNat
  if list.all (entryExists p) && noRepeat list then some ⟨p, list⟩ else none

/-- A source list without a source twice (R76). -/
def readSources (codes : List Byte) : Option (List Source) :=
  if noRepeat (codes.map BitVec.toNat) then codes.mapM fun b => readSource b.toNat else none

/-- TRIB CONFIG's items after the port number (R48, R49). -/
def readTribConfig (en sig tim auto force code nib : Byte) : Option TribConfig := do
  let e ← readFlag en.toNat
  let s ← readFlag sig.toNat
  let l ← readFlag tim.toNat
  let a ← readFlag auto.toNat
  let f ← readFlag force.toNat
  let n ← readWidth 4 nib.toNat
  some ⟨e, s, l, a, f, code, n⟩

/-- The guard code and the command codes must differ; C2 counts in DUAL mode only (R138, R150). -/
def codesClash (guard c1 c2 : Byte) (dual : Bool) : Bool :=
  guard == c1 || (dual && (c2 == c1 || c2 == guard))

/-- DET CONFIG's items after the detector number (R138). -/
def readDetConfig (guard c1 c2 mode p r m u : Byte) : Option DetConfig := do
  let d ← readFlag mode.toNat
  if p = 0 ∨ 32 < p.toNat ∨ r = 0 ∨ 32 < r.toNat ∨ u = 0 ∨ codesClash guard c1 c2 d = true then none
  else some ⟨guard, c1, c2, d, p.toNat, r.toNat, m.toNat, u.toNat⟩

/-- KEY CONFIG's items after the keyer number (R150). -/
def readKeyConfig (guard c1 c2 mode kmin g q : Byte) : Option KeyConfig := do
  let d ← readFlag mode.toNat
  if kmin = 0 ∨ 15 < q.toNat ∨ codesClash guard c1 c2 d = true then none
  else some ⟨guard, c1, c2, d, kmin.toNat, g.toNat, q.toNat⟩

end Sys2Proof.Machine
end

