-- ==== Sys2Proof/Machine/Ops.lean ====
section
/-! DEFINITION. The named operations over the state: access to its parts, posting, unit flags, notices, blocking of
detectors, and the freeing of records. -/

namespace Sys2Proof.Machine

/-! ### Small containers -/

def Pair.get {α : Type} (p : Pair α) : Trunk → α
  | .a => p.a
  | .b => p.b

def Pair.set {α : Type} (p : Pair α) (k : Trunk) (v : α) : Pair α :=
  match k with
  | .a => { p with a := v }
  | .b => { p with b := v }

def Both.get {α : Type} (p : Both α) : Side → α
  | .x => p.x
  | .y => p.y

def Both.set {α : Type} (p : Both α) (e : Side) (v : α) : Both α :=
  match e with
  | .x => { p with x := v }
  | .y => { p with y := v }

def otherTrunk : Trunk → Trunk
  | .a => .b
  | .b => .a

def otherSide : Side → Side
  | .x => .y
  | .y => .x

/-- A counter advances and stops at 65535 (00, 4). -/
def bump (c : Counter) : Counter := if c = 65535 then c else c + 1

/-- Map with the place of each element. -/
def mapFrom {α β : Type} (f : Nat → α → β) : Nat → List α → List β
  | _, [] => []
  | n, a :: as => f n a :: mapFrom f (n + 1) as

theorem mapFrom_length {α β : Type} (f : Nat → α → β) (n : Nat) (l : List α) : (mapFrom f n l).length = l.length := by
  induction l generalizing n with
  | nil => rfl
  | cons a as ih => simp [mapFrom, ih]

/-- Map over a vector with the place of each element. -/
def mapVec {α β : Type} {n : Nat} (f : Nat → α → β) (v : Vector α n) : Vector β n :=
  ⟨⟨mapFrom f 0 v.toList⟩, by simp [mapFrom_length]⟩

/-- Write one place of a vector. -/
def setAt {α : Type} {n : Nat} (v : Vector α n) (i : Fin n) (a : α) : Vector α n := v.set i.val a i.isLt

/-- The record ids, and the numbers of units, in ascending order. -/
def allIds : List RecId := List.finRange 256
def allUnits : List Idx8 := List.finRange 8

/-- The id at place n of the table. -/
def idAt (n : Nat) : RecId := Fin.ofNat 256 n

/-- The unit at place n. -/
def unitAt (n : Nat) : Idx8 := Fin.ofNat 8 n

/-! ### Access to the blocks -/

def State.record (s : State) (id : RecId) : Record := s.ct.records.get id
def State.setRecord (s : State) (id : RecId) (r : Record) : State :=
  { s with ct := { s.ct with records := setAt s.ct.records id r } }

def State.trib (s : State) (t : Idx8) : Trib := s.tribs.get t
def State.setTrib (s : State) (t : Idx8) (p : Trib) : State := { s with tribs := setAt s.tribs t p }

def State.port (s : State) (k : Trunk) : TrunkPort := s.trunks.port.get k
def State.setPort (s : State) (k : Trunk) (p : TrunkPort) : State :=
  { s with trunks := { s.trunks with port := s.trunks.port.set k p } }

def State.deskew (s : State) (k : Trunk) : Deskew := s.ps.deskew.get k
def State.setDeskew (s : State) (k : Trunk) (d : Deskew) : State :=
  { s with ps := { s.ps with deskew := s.ps.deskew.set k d } }

def State.det (s : State) (d : Idx8) : Detector := s.dets.get d
def State.keyer (s : State) (k : Idx8) : Keyer := s.keyers.get k
def State.setKeyer (s : State) (k : Idx8) (u : Keyer) : State := { s with keyers := setAt s.keyers k u }

def State.line (s : State) (n : Idx8) : Line := s.clu.lines.get n
def State.setLine (s : State) (n : Idx8) (l : Line) : State :=
  { s with clu := { s.clu with lines := setAt s.clu.lines n l } }

/-! ### The attention unit -/

/-- Post one id: it joins the tail unless it is queued (R170). -/
def postTo (q : List RecId) (id : RecId) : List RecId := if q.contains id then q else q ++ [id]

/-- Post ids in the order given (R170). -/
def State.post (s : State) (ids : List RecId) : State :=
  { s with au := { s.au with queue := ids.foldl postTo s.au.queue } }

/-- Raise the unit flag of bit n (R172, R175). -/
def State.raise (s : State) (n : Nat) : State :=
  { s with au := { s.au with flags := s.au.flags ||| BitVec.ofNat 13 (2 ^ n) } }

/-- Raise a flag if a condition holds. -/
def State.raiseIf (s : State) (c : Bool) (n : Nat) : State := if c then s.raise n else s

/-- Flag positions (R175): TRIB0 to TRIB7 are 0 to 7. -/
def trunkFlag : Trunk → Nat
  | .a => 8
  | .b => 9
def timingFlag : Nat := 10
def linesFlag : Nat := 11
def commitDoneFlag : Nat := 12

/-! ### Records -/

/-- Whether the record's ends are in the Active Map (R1). -/
def Record.inMap (r : Record) : Bool :=
  match r.state with
  | .active | .suspended | .retiring => true
  | .free | .draft => false

/-- ACTIVE or SUSPENDED: counts slips and jumps (R81, R107). -/
def Record.counts (r : Record) : Bool :=
  match r.state with
  | .active | .suspended => true
  | _ => false

/-- The end on the trunk, X looked at first. -/
def Record.trunkSide (r : Record) : Option Side :=
  if r.ends.x.map End.port = some .trunk then some .x
  else if r.ends.y.map End.port = some .trunk then some .y
  else none

/-- The cells of the trunk end of a record in the map. -/
def Record.trunkCells (r : Record) : Option (List Nat) :=
  if r.inMap then r.trunkSide.bind fun e => (r.ends.get e).map End.list else none

/-- The port of an end. -/
def Record.portOf (r : Record) (e : Side) : Option Port := (r.ends.get e).map End.port

/-- R116. -/
def Record.healthOf (r : Record) : Health :=
  let good := fun k => decide (r.copy.get k = .good)
  let trunk := r.trunkSide.isSome
  if r.failed.x || r.failed.y || (trunk && !good .a && !good .b) then .faulted
  else if trunk && (good .a != good .b) then .unprotected
  else .normal

/-- The record with its health derived afresh (R116). -/
def Record.judged (r : Record) : Record := { r with health := r.healthOf }

/-- Health is recomputed when a source state or a copy status has changed (R116, R123). -/
def Record.refresh (old new : Record) : Record :=
  if old.failed = new.failed ∧ old.copy = new.copy then new else new.judged

/-- The items of a record whose change posts it are the same: state and ends, source states, health, selected path, copy
statuses, far-end status (R10, R111, R115, R116, R117, R123). -/
def Record.sameShown (old new : Record) : Bool :=
  decide (old.state = new.state ∧ old.ends = new.ends) && decide (old.failed = new.failed ∧ old.health = new.health) &&
    decide (old.selected = new.selected ∧ old.copy = new.copy ∧ old.far = new.far)

/-- Change every record at one event, then post, in ascending id order, those with a posted item changed whose attention
enable was on (R10, R40, R170). -/
def State.updateRecords (s : State) (f : RecId → Record → Record) : State :=
  let ids := allIds.filter fun id =>
    (s.record id).fields.attention && !(s.record id).sameShown (f id (s.record id))
  { s with ct := { s.ct with records := mapVec (fun n r => f (idAt n) r) s.ct.records } }.post ids

/-- Change every record at an event that posts nothing. -/
def State.mapRecords (s : State) (f : RecId → Record → Record) : State :=
  { s with ct := { s.ct with records := mapVec (fun n r => f (idAt n) r) s.ct.records } }

/-! ### Active Map -/

/-- How many slots or cells a port has (R29). -/
def Port.size : Port → Nat
  | .trib _ => 32
  | .trunk => 248

/-- The entry of a slot or cell of a map; none beyond the port's last (R29). -/
def SlotMap.entry (m : SlotMap) (p : Port) (n : Nat) : Option Entry :=
  match p with
  | .trib t => if n < p.size then (m.slots[32 * t.val + n]?).join else none
  | .trunk => (m.cells[n]?).join

/-- The owners of a port's entries in the Active Map. -/
def State.ownersOn (s : State) (p : Port) : List RecId :=
  (List.range p.size).filterMap fun n => (s.ct.activeMap.entry p n).map Entry.owner

/-- Make the entries of some records vacant (R39, R43). -/
def SlotMap.vacate (m : SlotMap) (gone : RecId → Bool) : SlotMap :=
  let keep := fun (_ : Nat) (e : Option Entry) => e.filter fun e => !gone e.owner
  ⟨mapVec keep m.slots, mapVec keep m.cells⟩

/-! ### Detectors and keyers -/

/-- A unit bound to the record. -/
def boundTo (binding : Option (RecId × Side)) (id : RecId) : Bool :=
  match binding with
  | some (i, _) => i == id
  | none => false

/-- The record's bound detector, and its bound keyer (R7). -/
def State.boundDetector (s : State) (id : RecId) : Option Idx8 := allUnits.find? fun d => boundTo (s.det d).binding id
def State.boundKeyer (s : State) (id : RecId) : Option Idx8 := allUnits.find? fun k => boundTo (s.keyer k).binding id

/-- A detector that becomes UNBOUND keeps its configuration and its counters (R137). -/
def Detector.freed (d : Detector) : Detector :=
  { Detector.reset with cfg := d.cfg, commands := d.commands, blockedEvents := d.blockedEvents }

/-- A keyer that becomes UNBOUND keeps its configuration and its counter (R149). -/
def Keyer.freed (k : Keyer) : Keyer := { Keyer.reset with cfg := k.cfg, sent := k.sent }

/-- The counts and runs at 0, on entry into BLOCKED (R140, R144). -/
def Detector.block (d : Detector) : Detector :=
  { d with state := .blocked, persist := 0, release := 0, prolong := 0, unknown := 0 }

/-- Change detectors at one event; the records whose detector changed state are posted in ascending id order (R146). -/
def State.updateDets (s : State) (f : Idx8 → Detector → Detector) : State :=
  let moved := allUnits.filterMap fun d =>
    if (f d (s.det d)).state = (s.det d).state then none else ((s.det d).binding.or (f d (s.det d)).binding).map Prod.fst
  { s with dets := mapVec (fun n d => f (unitAt n) d) s.dets }.post
    (allIds.filter fun id => moved.contains id && (s.record id).fields.attention)

/-- The first and third blocking conditions (R140). -/
def State.circuitBlocks (s : State) (id : RecId) : Bool :=
  decide ((s.record id).state ≠ .active ∨ (s.record id).far = .sourceFail ∨ (s.record id).far = .conditioned)

/-- At an event that may make the first or third condition hold, every detector blocked by it enters BLOCKED, or has its
release run returned to 0 (R140, R141). -/
def State.sweep (s : State) : State :=
  s.updateDets fun _ d =>
    match d.binding with
    | none => d
    | some (id, _) =>
      if s.circuitBlocks id then (if d.state = .blocked then { d with release := 0 } else d.block) else d

/-- The restart notice (R145). -/
def Detector.restart (d : Detector) : Detector :=
  match d.state with
  | .pending => { d with persist := 0 }
  | .command | .blocked => { d with release := 0 }
  | _ => d

/-- The record is ACTIVE or SUSPENDED and owns an Active Map entry on the port (R81, R107). -/
def State.slipHits (s : State) (p : Port) (id : RecId) : Bool := (s.record id).counts && (s.ownersOn p).contains id

/-- A slip of a receive store, or a deskew jump, counts in each such record (R81, R107). -/
def State.countSlips (s : State) (p : Port) : State :=
  let owners := s.ownersOn p
  s.mapRecords fun id r => if r.counts && owners.contains id then { r with slips := bump r.slips } else r

/-- It restarts the detector of such a record if it watches a direction whose source end is on the port (R81, R107,
R145). -/
def State.restartDets (s : State) (p : Port) : State :=
  { s with dets := mapVec (fun _ d =>
      match d.binding with
      | some (id, dir) =>
        if s.slipHits p id && decide ((s.record id).portOf (otherSide dir) = some p) then d.restart else d
      | none => d) s.dets }

/-- The slip notice, and the deskew jump's (R81, R107). -/
def State.slipNotice (s : State) (p : Port) : State := (s.countSlips p).restartDets p

/-- Records return to FREE (R44): their units are unbound, their entries vacant in both maps, and they are posted by the
attention enable they had. -/
def State.freeRecords (s : State) (gone : RecId → Bool) : State :=
  let units := fun (b : Option (RecId × Side)) => (b.map fun x => gone x.1).getD false
  let s1 := s.updateRecords fun id r => if gone id then .freeRecord else r
  { s1 with
    ct := { s1.ct with activeMap := s1.ct.activeMap.vacate gone, nextMap := s1.ct.nextMap.vacate gone }
    dets := mapVec (fun _ d => if units d.binding then d.freed else d) s1.dets
    keyers := mapVec (fun _ k => if units k.binding then k.freed else k) s1.keyers }

/-! ### Conditions of the ports -/

/-- The receive condition is GOOD (R57). -/
def Trib.good (p : Trib) : Bool := decide (p.rx.align = .aligned) && !p.rx.ais

/-- The port's signalling is available (R61). -/
def Trib.sigAvailable (p : Trib) : Bool := p.cfg.signalling && p.good && p.rx.mfAligned

/-- The trunk is usable (R105). -/
def State.usable (s : State) (k : Trunk) : Bool :=
  decide ((s.port k).align = .aligned ∧ (s.deskew k).state = .inWindow)

/-- R111. -/
def copyStatus (usable misroute : Bool) : CopyStatus :=
  if !usable then .down else if misroute then .misrouted else .good

/-- Bring the copy statuses of every record with a trunk end up to date (R111). -/
def State.syncCopies (s : State) : State :=
  s.updateRecords fun _ r =>
    if r.inMap && r.trunkSide.isSome then
      r.refresh { r with
        copy := ⟨copyStatus (s.usable .a) r.tag.a.misroute, copyStatus (s.usable .b) r.tag.b.misroute⟩ }
    else r

/-- A source is qualified (R70). -/
def State.qualified (s : State) (src : Source) : Bool :=
  match src with
  | .ref => s.stu.refActive
  | .trib t => (s.trib t).good
  | .trunk k => decide ((s.port k).align = .aligned ∧ (s.port k).farClock = .locked)

/-- The highest-listed qualified source (4.3). -/
def State.nextSource (s : State) : Option Source := s.stu.list.find? s.qualified

/-! ### Bits and bytes -/

/-- A list of bits, the highest first, as a number. -/
def bitsNat (bs : List Bool) : Nat := bs.foldl (fun n b => 2 * n + b.toNat) 0

/-- The n-th byte of a list of bits. -/
def byteAt (bs : List Bool) (n : Nat) : Byte := BitVec.ofNat 8 (bitsNat ((bs.drop (8 * n)).take 8))

/-- The first n bytes of a list of bits. -/
def bytesOf (bs : List Bool) (n : Nat) : List Byte := (List.range n).map (byteAt bs)

/-- The bits of a byte, the highest first (00, 4). -/
def bitsOfByte (b : Byte) : List Bool := (List.range 8).map fun i => b.getLsbD (7 - i)

/-- Upper and lower nibble (00, 4). -/
def upper (b : Byte) : Nibble := b.extractLsb' 4 4
def lower (b : Byte) : Nibble := b.extractLsb' 0 4
def joinNibbles (u l : Nibble) : Byte := u ++ l

/-- Two bytes of a 16-bit count, the high one first (R175). -/
def bytes16 (n : Nat) : List Byte := [BitVec.ofNat 8 (n / 256), BitVec.ofNat 8 n]

/-- The low byte of the map epoch (R90). -/
def State.epochLow (s : State) : Byte := s.ct.epoch.setWidth 8

/-- A signalling receipt: accepted at its second identical appearance (R60, R118). -/
def SigEntry.receive (e : SigEntry) (n : Nibble) : SigEntry := if e.cand = some n then ⟨n, some n⟩ else { e with cand := some n }

end Sys2Proof.Machine
end

