-- ==== Sys2Proof/Machine/Flags.lean ====
section
/-! DEFINITION. Everything the part shows that is a function of its state: the IRQ condition, the status byte, the
alarm summary, the contact lines, the remote-alarm and RDI bits, the source qualifications. -/

namespace Sys2Proof.Machine

/-- The IRQ condition (R173). -/
def State.irq (s : State) : Bool :=
  (s.au.queueEnable && !s.au.queue.isEmpty) || decide (s.au.flags &&& s.au.mask ≠ 0)

/-- The outcome codes (12.3). -/
def Code.toNat : Code → Nat
  | .ok => 0
  | .busy => 1
  | .unread => 2
  | .length => 3
  | .unknown => 4
  | .range => 5
  | .state => 6
  | .conflict => 7
  | .incomplete => 8
  | .inuse => 9
  | .staged => 10
  | .notStaged => 11
  | .notPending => 12
  | .empty => 13
  | .busyUnit => 14

/-- The status byte (R163, 12.1). -/
def State.statusByte (s : State) : Byte :=
  BitVec.ofBool s.ct.commitPending ++ BitVec.ofBool s.cp.response.isSome ++ BitVec.ofBool s.irq ++ (0 : BitVec 1) ++
    BitVec.ofNat 4 s.cp.last.toNat

/-! ### Alarm summary (R160) -/

def State.tribTerm (s : State) : Bool := allUnits.any fun t => (s.trib t).cfg.enable && !(s.trib t).good
def State.trunkTerm (s : State) : Bool :=
  ((s.port .a).enable && !s.usable .a) || ((s.port .b).enable && !s.usable .b)
def State.detectorTerm (s : State) : Bool := allUnits.any fun d => decide ((s.det d).state = .blocked)
def State.timingTerm (s : State) : Bool := decide (s.stu.state ≠ .locked)
def State.circuitTerm (s : State) : Bool :=
  s.ct.records.toList.any fun r => decide (r.state = .active ∧ r.health = .faulted)

/-- The five terms, mask bit 0 first. -/
def State.alarmTerms (s : State) : List Bool :=
  [s.tribTerm, s.trunkTerm, s.detectorTerm, s.timingTerm, s.circuitTerm]

/-- Yes/no items as a mask, the first in bit 0 (R175). -/
def maskOf : List Bool → Nat
  | [] => 0
  | b :: bs => b.toNat + 2 * maskOf bs

/-- R160. -/
def State.alarmSummary (s : State) : Bool :=
  decide (BitVec.ofNat 5 (maskOf s.alarmTerms) &&& s.clu.alarmMask ≠ 0)

/-! ### Contact lines (R155, R156) -/

/-- A detector indicates a command while it is in COMMAND or TRAIL (R146). -/
def Detector.indicates (d : Detector) : Bool :=
  match d.state with
  | .command | .trail => true
  | _ => false

/-- Whether the function drives the pin. -/
def LineFunction.drives : LineFunction → Bool
  | .input | .keyIn => false
  | .output | .cmdOut | .alarmOut => true

/-- The polarity-corrected level that the CLU drives, for a function that drives. -/
def State.lineDrive (s : State) (l : Line) : Bool :=
  match l.function with
  | .output => l.latch
  | .cmdOut => (s.det l.unit).indicates
  | .alarmOut => s.alarmSummary
  | .input | .keyIn => false

/-- The level of the pin: none while it is not driven by the part and the wiring sets it (R156), else the driven level;
no line is driven while RESET is asserted (R155). -/
def State.driven (s : State) (n : Idx8) : Option Bool :=
  let l := s.line n
  if s.inReset || !l.function.drives then none else some (s.lineDrive l != l.activeLow)

/-- The level at the pin (R156; the wiring's share is log 12). -/
def State.pinLevel (s : State) (n : Idx8) : Bool :=
  let l := s.line n
  match s.driven n with
  | none => l.wire
  | some d => if l.overpowers then l.wire else d

/-- The level presented to LINE READ and to a keyer (R156). -/
def State.presented (s : State) (n : Idx8) : Bool :=
  let l := s.line n
  match l.function with
  | .output => l.latch
  | _ => s.pinLevel n != l.activeLow

/-- The line assigned KEY_IN for a keyer (R151, R157). -/
def State.keyLine (s : State) (k : Idx8) : Option Idx8 :=
  allUnits.find? fun n => decide ((s.line n).function = .keyIn ∧ (s.line n).unit = k)

/-! ### Bits sent on the lines -/

/-- The remote-alarm bit that an odd frame sent at this moment carries (R63). -/
def Trib.remoteSent (p : Trib) : Bool := p.cfg.forceRa || (p.cfg.autoRa && !p.good)

/-- A port in LOOP timing falls back to station timing in NO_SIGNAL (R83). -/
def Trib.fallback (p : Trib) : Bool := p.cfg.enable && p.cfg.loopTiming && decide (p.rx.align = .noSignal)

/-- The transmit elastic store is in use (R82, R83). -/
def Trib.usesTxStore (p : Trib) : Bool := p.cfg.enable && p.cfg.loopTiming && !p.fallback

/-- The RDI of the trunk frame in which it is sent (R90); a disabled trunk sends all ones (R85). -/
def TrunkPort.rdiSent (p : TrunkPort) : Bool := decide (p.align ≠ .aligned)

/-- The RDI being transmitted: that of the frame now on the line, which a change of alignment changes from the next frame on (R90,
R101); 1 while the line carries ones (R85, log 16). -/
def TrunkPort.rdiOnLine (p : TrunkPort) : Bool := (p.lineOut.getD 7 0xFF).getLsbD 7

/-- The far-end status keeps the circuit's detector blocked (R140). -/
def FarStatus.blocks : FarStatus → Bool
  | .sourceFail | .conditioned => true
  | _ => false

/-- The lead of a trunk: the frames held ahead of the read position (R103). -/
def State.lead (s : State) (k : Trunk) : Nat :=
  ((s.deskew k).frames.filter fun f => (f.seq + Config.frames - s.ps.readPos) % Config.frames < Config.aheadLimit).length

/-- The eleven sources in the order of their codes (R69). -/
def allSources : List Source := allUnits.map .trib ++ [.trunk .a, .trunk .b, .ref]

end Sys2Proof.Machine
end

