-- ==== Sys2Proof/Machine/Responses.lean ====
section
/-! DEFINITION. The responses of the commands, coded by R175, 12.4 and 12.5. The coding choices of R175's general rule are
log 15. -/

namespace Sys2Proof.Machine

/-! ### Codes (R175) -/

def RecState.code : RecState → Nat
  | .free => 0
  | .draft => 1
  | .active => 2
  | .suspended => 3
  | .retiring => 4

def RecClass.code : RecClass → Nat
  | .protection => 0
  | .voice => 1
  | .data => 2

def Side.code : Side → Nat
  | .x => 0
  | .y => 1

def Port.code : Port → Nat
  | .trib t => t.val
  | .trunk => 8

def stagedCode : Option StagedOp → Nat
  | none => 0
  | some .activate => 1
  | some .suspend => 2
  | some .resume => 3
  | some .remap => 4
  | some .retire => 5

def PathPolicy.code : PathPolicy → Nat
  | .auto => 0
  | .lock => 1
  | .forceA => 2
  | .forceB => 3

def trunkCode : Trunk → Nat
  | .a => 0
  | .b => 1

def Density.code : Density → Nat
  | .none => 0
  | .lowBit => 1
  | .substitute => 2

def Loopback.code : Loopback → Nat
  | .none => 0
  | .loopX => 1
  | .loopY => 2

def Inject.code : Inject → Nat
  | .none => 0
  | .towardX => 1
  | .towardY => 2

def Health.code : Health → Nat
  | .normal => 0
  | .unprotected => 1
  | .faulted => 2

def PathSel.code : PathSel → Nat
  | .a => 0
  | .b => 1
  | .none => 2
  | .notApplicable => 3

def CopyStatus.code : CopyStatus → Nat
  | .good => 0
  | .misrouted => 1
  | .down => 2

def FarStatus.code : FarStatus → Nat
  | .ok => 0
  | .sourceFail => 1
  | .sinkFail => 2
  | .conditioned => 3
  | .test => 4
  | .unknown => 5

def Align.code : Align → Nat
  | .off => 0
  | .noSignal => 1
  | .search => 2
  | .confirm => 3
  | .aligned => 4

def DeskewState.code : DeskewState → Nat
  | .unanchored => 0
  | .inWindow => 1
  | .outOfWindow => 2

def DetState.code : DetState → Nat
  | .unbound => 0
  | .blocked => 1
  | .guard => 2
  | .pending => 3
  | .command => 4
  | .trail => 5

def KeyState.code : KeyState → Nat
  | .unbound => 0
  | .guard => 1
  | .command => 2
  | .lockout => 3

def StuState.code : StuState → Nat
  | .freeRun => 0
  | .acquiring => 1
  | .locked => 2
  | .holdover => 3

def Source.code : Source → Nat
  | .trib t => t.val
  | .trunk .a => 8
  | .trunk .b => 9
  | .ref => 10

def LineFunction.code : LineFunction → Nat
  | .input => 0
  | .output => 1
  | .keyIn => 2
  | .cmdOut => 3
  | .alarmOut => 4

/-- One byte for a number. -/
def byte (n : Nat) : Byte := BitVec.ofNat 8 n

/-- A yes/no item. -/
def yes (b : Bool) : Byte := if b then 1 else 0

/-- An item that can be none (R175). -/
def orNone {α : Type} (code : α → Nat) : Option α → Byte
  | none => 0xFF
  | some a => byte (code a)

/-- A byte value that can be absent: a yes/no item, then the value or 0x00 (R175). -/
def maybeByte : Option Byte → List Byte
  | none => [0, 0]
  | some b => [1, b]

/-- Nibbles packed two to a byte, the first in the upper nibble (R175). -/
def packNibbles : List Nibble → List Byte
  | u :: l :: rest => joinNibbles u l :: packNibbles rest
  | [u] => [joinNibbles u 0]
  | [] => []

/-- A counter, two bytes (R175). -/
def counter (c : Counter) : List Byte := bytes16 c.toNat

/-- A response: its length, then its items (R166, R175). -/
def respond (items : List Byte) : List Byte := byte (items.length + 1) :: items

/-! ### Circuit table (R25, R26, R28, 12.5) -/

/-- An end's descriptor, length and entries (12.5, bytes 24 onward). An absent end's descriptor, and a descriptor's bits 6 to 4,
are 0: the model's choice (log 15). -/
def endBytes : Option End → List Byte
  | none => [0, 0]
  | some e => [byte (128 + e.port.code), byte e.list.length] ++ e.list.map byte

/-- Byte 3 of 12.5; its bits 6 to 3 are 0 (log 15). -/
def stagedByte (r : Record) : Byte :=
  byte (stagedCode r.staged + if r.stagedEnds.x.isSome || r.stagedEnds.y.isSome then 128 else 0)

/-- Bytes 1 onward of a QUERY response (12.5). The bits to which 12.5 gives no content are 0 by the model's choice: byte 2 bits 7, 6
and 3, byte 3 bits 6 to 3, byte 15 bits 7 and 6, byte 16 bit 7, and those of the descriptors (log 15). -/
def State.queryItems (s : State) (id : RecId) : List Byte :=
  let r := s.record id
  let f := r.fields
  [byte id.val, byte (r.state.code + 16 * r.cls.code), stagedByte r] ++
    bytes16 f.txTag.toNat ++ bytes16 f.expTag.toNat ++
    [byte (f.policy.code + 4 * trunkCode f.prefer + 8 * f.density.code + 32 * f.loopback.code + 128 * f.attention.toNat),
      byte (f.inject.code + 4 * f.fixed.x.toNat + 8 * f.fixed.y.toNat + 16 * f.hold.toNat),
      f.cond.x, f.cond.y, joinNibbles f.nib.x f.nib.y, joinNibbles r.holdRemaining f.faultNib, f.testCode,
      byte (r.health.code + 4 * r.failed.x.toNat + 8 * r.failed.y.toNat + 16 * r.selected.code),
      byte (r.copy.a.code + 4 * r.copy.b.code + 16 * r.far.code)] ++
    counter r.slips ++ counter r.switches ++ counter r.misroutes ++
    [byte (((s.boundDetector id).map Fin.val).getD 15 + 16 * ((s.boundKeyer id).map Fin.val).getD 15)] ++
    endBytes r.ends.x ++ endBytes r.ends.y

/-- R25. -/
def State.queryResponse (s : State) (id : RecId) : List Byte := respond (s.queryItems id)

/-- R26. -/
def State.stagedResponse (s : State) (id : RecId) : List Byte :=
  let r := s.record id
  respond ([byte id.val, stagedByte r] ++ endBytes r.stagedEnds.x ++ endBytes r.stagedEnds.y)

/-- R28: a record with the end flag, or "no record"; bits 7 to 2 of the flags byte are 0 (log 15). -/
def State.nextResponse (s : State) (found : Option RecId) (endFlag : Bool) : List Byte :=
  match found with
  | some id => respond (yes endFlag :: s.queryItems id)
  | none => respond [byte (2 + endFlag.toNat)]

/-! ### Commit and maps (R32, R34, R35) -/

/-- R35, item 4. -/
def State.commitResponse (s : State) (staged : Nat) : List Byte :=
  respond ([0] ++ bytes16 staged ++ counter (s.ct.epoch + 1))

/-- R32; a vacant entry carries no owner items (log 15). -/
def State.mapResponse (s : State) (p : Port) (slot : Nat) : List Byte :=
  let owner := match s.ct.activeMap.entry p slot with
    | none => [1]
    | some e => [0, byte e.owner.val, byte e.side.code, byte e.pos, byte (s.record e.owner).state.code]
  respond ([byte p.code, byte slot] ++ owner ++ counter s.ct.epoch)

/-! ### Ports -/

/-- R66; the remote-alarm bit reported is the one on the line (R63, log 16). The vacant nibble, a kind of item that R175 does not give,
is one byte with the value in its low nibble: the model's choice (log 15). -/
def State.tribResponse (s : State) (t : Idx8) : List Byte :=
  let p := s.trib t
  let owned := (s.ownersOn (.trib t)).length
  respond ([yes p.cfg.enable, yes p.cfg.signalling, yes p.cfg.loopTiming, yes p.cfg.autoRa, yes p.cfg.forceRa,
      p.cfg.vacantCode, byte p.cfg.vacantNibble.toNat, byte p.rx.align.code, yes !p.good, yes p.rx.ais, yes p.rx.remote,
      yes p.lineRemote, yes p.rx.mfAligned, yes p.sigAvailable, byte p.store.unread.length, byte p.txStore.unread.length,
      yes p.fallback, byte owned] ++
    packNibbles (p.sig.toList.map SigEntry.nib) ++
    counter p.counters.alignErrors ++ counter p.counters.losses ++ counter p.counters.repeatSlips ++
    counter p.counters.deleteSlips ++ counter p.counters.txSlips)

/-- R77; the holdover memory and REF activity are yes/no items (log 15), the acquisition count outside ACQUIRING is log 14. -/
def State.timingResponse (s : State) : List Byte :=
  let u := s.stu
  let quals := maskOf (allSources.map s.qualified)
  respond ([byte u.list.length] ++ u.list.map (fun x => byte x.code) ++
    [yes u.revertive, byte u.wtrTime, byte u.state.code, orNone Source.code u.selected, byte u.acquisition, yes u.memory] ++
    bytes16 u.holdover ++ [orNone Source.code u.wtrTarget, byte u.wtrCount] ++ bytes16 quals ++
    [yes u.refActive, byte u.count])

/-- R101; the RDI reported is the one on the line (log 16), the clock the last judgement (log 13). -/
def State.trunkResponse (s : State) (k : Trunk) : List Byte :=
  let p := s.port k
  respond ([yes p.enable, byte s.trunks.skew, s.trunks.vacantCode, byte p.align.code, yes p.clock,
      byte (if p.align = .aligned then p.expected else 0), byte p.errorRun, byte p.seqRun, yes p.rdiOnLine,
      p.farEpoch, byte p.farClock.code, yes p.farRdi, s.epochLow, byte (s.deskew k).state.code, byte (s.lead k),
      yes (s.usable k)] ++
    counter p.alignErrors ++ counter p.seqErrors ++ counter p.jumps ++ counter p.windowLosses)

/-! ### Units -/

/-- A binding: bound or not, record id, direction (log 15). -/
def bindingBytes : Option (RecId × Side) → List Byte
  | none => [0, 0xFF, 0xFF]
  | some (id, dir) => [1, byte id.val, byte dir.code]

/-- The blocking conditions of R140 as they hold now, for a bound detector (R147). -/
def State.blockingMask (s : State) (d : Idx8) : Nat :=
  match (s.det d).binding with
  | none => 0
  | some (id, dir) =>
    let r := s.record id
    maskOf [decide (r.state ≠ .active), r.failed.get dir, r.far.blocks]

/-- R147. -/
def State.detResponse (s : State) (n : Idx8) : List Byte :=
  let d := s.det n
  respond (bindingBytes d.binding ++
    [d.cfg.guard, d.cfg.c1, d.cfg.c2, yes d.cfg.dual, byte d.cfg.p, byte d.cfg.r, byte d.cfg.m, byte d.cfg.u,
      byte d.state.code, byte d.persist, byte d.release, byte d.prolong, byte d.unknown] ++
    maybeByte d.prev ++ [byte (s.blockingMask n), yes d.indicates] ++ counter d.commands ++ counter d.blockedEvents)

/-- R154. -/
def State.keyResponse (s : State) (n : Idx8) : List Byte :=
  let k := s.keyer n
  respond (bindingBytes k.binding ++
    [k.cfg.guard, k.cfg.c1, k.cfg.c2, yes k.cfg.dual, byte k.cfg.kmin, byte k.cfg.g, byte k.cfg.q,
      byte k.state.code, byte k.qual, byte k.duration, byte k.lockout] ++ bytes16 k.test ++
    [orNone Fin.val (s.keyLine n), yes k.last.level, yes k.last.request] ++ maybeByte k.last.byte ++
    [yes k.last.delivered] ++ counter k.sent)

/-- R158. -/
def State.lineResponse (s : State) : List Byte :=
  let ls := s.clu.lines.toList
  respond ([byte (maskOf (allUnits.map s.presented)), byte (maskOf (ls.map Line.latch))] ++
    ls.flatMap (fun l => [byte l.function.code, yes l.activeLow, byte l.unit.val]) ++
    [yes s.alarmSummary, byte (maskOf s.alarmTerms), s.clu.alarmMask.setWidth 8])

/-! ### Attention -/

/-- R172. -/
def State.flagsResponse (s : State) : List Byte :=
  respond (bytes16 s.au.flags.toNat ++ bytes16 s.au.mask.toNat ++ [yes s.au.queueEnable] ++ bytes16 s.au.queue.length ++
    [yes s.ct.commitPending] ++ counter s.ct.epoch)

/-- R171: the id removed, the ids left, and the record's summary. -/
def State.attentionResponse (s : State) (id : RecId) (left : Nat) : List Byte :=
  let r := s.record id
  respond [byte id.val, byte left, byte r.state.code, byte r.cls.code, byte r.health.code, yes r.failed.x, yes r.failed.y,
    byte r.selected.code, byte r.copy.a.code, byte r.copy.b.code, byte r.far.code,
    orNone Fin.val (s.boundDetector id), orNone (fun d => (s.det d).state.code) (s.boundDetector id),
    orNone Fin.val (s.boundKeyer id)]

end Sys2Proof.Machine
end

