-- ==== Sys2Proof/Machine/Transactions.lean ====
section
/-! DEFINITION. The transaction of the command port: its fall, the order of checks, and its rise (R162 to R167). A
command row is the rise of SEL; if no transaction is in progress its fall is taken just before (log 3). -/

namespace Sys2Proof.Machine

/-- The status byte latched at the fall of SEL: the one in progress, or one latched now (R163, log 3). -/
def State.latched (s : State) : Byte :=
  match s.cp.sel with
  | .active b => b
  | _ => s.statusByte

/-- SEL is high again, and nothing else changes (R162). -/
def State.release (s : State) : State := { s with cp := { s.cp with sel := .idle } }

/-- A transaction in progress is executed at its rise: not while RESET is asserted, nor when it began then (R162). -/
def State.executes (s : State) : Bool := !s.inReset && decide (s.cp.sel ≠ .ignored)

/-- The rise of SEL: LAST is written, SEL is high, and the bytes shifted out stand (R163, R164). -/
def State.rise (s : State) (sdo : List Byte) (c : Code) : State :=
  { s with cp := { s.cp with last := c, sel := .idle, sdo := sdo } }

/-- Place a response in the Response Buffer (R166). -/
def State.answer (s : State) (r : List Byte) : State := { s with cp := { s.cp with response := some r } }

/-- The checks after UNKNOWN, in order: LENGTH, BUSY, UNREAD, the command's own (R164). `own` is none for a byte count
that does not fit. -/
def State.examine (s : State) (exempt responds : Bool) (own : Option (State → Code × State)) : Code × State :=
  match own with
  | none => (.length, s)
  | some f =>
    if !exempt && s.ct.commitPending then (.busy, s)
    else if responds && s.cp.response.isSome then (.unread, s)
    else f s

/-- One transaction with the parameters `ps` (R162 to R165). Every byte shifted out is the status byte (R163). -/
def transact (ps : List Byte) (exempt responds : Bool) (own : Option (State → Code × State)) (s : State) : State :=
  if s.executes then
    let v := s.examine exempt responds own
    v.2.rise (List.replicate (ps.length + 1) s.latched) v.1
  else s.release

/-- A command that answers and has no check of its own (R166). -/
def answering (r : State → List Byte) (s : State) : Code × State := (.ok, s.answer (r s))

/-- A command that is refused with RANGE unless its operand reads as `a` (R164). -/
def ranged {α : Type} (a : Option α) (f : α → State → Code × State) (s : State) : Code × State :=
  match a with
  | none => (.range, s)
  | some v => f v s

/-- Parameter lists of one fixed length (R164, 12.2). -/
def noParam (ps : List Byte) (f : State → Code × State) : Option (State → Code × State) :=
  match ps with
  | [] => some f
  | _ => none

def oneParam (ps : List Byte) (f : Byte → State → Code × State) : Option (State → Code × State) :=
  match ps with
  | [a] => some (f a)
  | _ => none

def twoParams (ps : List Byte) (f : Byte → Byte → State → Code × State) : Option (State → Code × State) :=
  match ps with
  | [a, b] => some (f a b)
  | _ => none

def threeParams (ps : List Byte) (f : Byte → Byte → Byte → State → Code × State) : Option (State → Code × State) :=
  match ps with
  | [a, b, c] => some (f a b c)
  | _ => none

def fourParams (ps : List Byte) (f : Byte → Byte → Byte → Byte → State → Code × State) :
    Option (State → Code × State) :=
  match ps with
  | [a, b, c, d] => some (f a b c d)
  | _ => none

end Sys2Proof.Machine
end

