-- ==== Sys2Proof/Machine/Lines.lean ====
section
/-! DEFINITION. The contact lines and the alarm mask (09). -/

namespace Sys2Proof.Machine

/-- Another line is KEY_IN for the same keyer (R157, check 2). -/
def State.keyInTaken (s : State) (n unit : Idx8) : Bool :=
  allUnits.any fun i => decide (i ≠ n ∧ (s.line i).function = .keyIn ∧ (s.line i).unit = unit)

/-- The line is KEY_IN for the keyer (R157). -/
def Line.keys (l : Line) (k : Idx8) : Bool := decide (l.function = .keyIn ∧ l.unit = k)

/-- A keyer gains a KEY_IN line: its run counts from its next frame event (R157). -/
def State.gainLine (s : State) (k : Idx8) : State := s.setKeyer k { s.keyer k with gained := true }

/-- LINE CONFIG (R157). -/
def lineConfigBody (nb fb pb ub : Byte) (s : State) : Code × State :=
  match readUnit nb.toNat, readFunction fb.toNat, readFlag pb.toNat, readUnit ub.toNat with
  | some n, some f, some low, some u =>
    if f = .keyIn ∧ s.keyInTaken n u = true then (.inuse, s)
    else
      let l := s.line n
      let s1 := s.setLine n { l with function := f, activeLow := low, unit := u }
      (.ok, if f = .keyIn ∧ l.keys u = false then s1.gainLine u else s1)
  | _, _, _, _ => (.range, s)

/-- LINE_CONFIG (R157). -/
def execLineConfig (ps : List Byte) (s : State) : Host.Outcome State Fault Refusal :=
  .next (transact ps false false (fourParams ps lineConfigBody) s)

/-- LINE WRITE (R158): latch n takes the n-th lowest bit. -/
def lineWriteBody (b : Byte) (s : State) : Code × State :=
  (.ok, { s with clu := { s.clu with lines := mapVec (fun n l => { l with latch := b.getLsbD n }) s.clu.lines } })

/-- LINE_WRITE (R158). -/
def execLineWrite (ps : List Byte) (s : State) : Host.Outcome State Fault Refusal :=
  .next (transact ps false false (oneParam ps lineWriteBody) s)

/-- LINE_READ (R158). -/
def execLineRead (ps : List Byte) (s : State) : Host.Outcome State Fault Refusal :=
  .next (transact ps true true (noParam ps (answering State.lineResponse)) s)

/-- ALARM MASK (R161). -/
def alarmMaskBody (b : Byte) (s : State) : Code × State :=
  ranged (readWidth 5 b.toNat) (fun m s => (.ok, { s with clu := { s.clu with alarmMask := m } })) s

/-- ALARM_MASK (R161). -/
def execAlarmMask (ps : List Byte) (s : State) : Host.Outcome State Fault Refusal :=
  .next (transact ps false false (oneParam ps alarmMaskBody) s)

/-- The wiring brings a line to a level, and overpowers a drive of the line or gives way to it (R156, log 12). -/
def State.wireLevel (s : State) (n : Idx8) (w : Wiring) : State :=
  s.setLine n { s.line n with wire := w.level, overpowers := w.overpowers }

/-- LINE_LEVEL_CHANGE (R159): a change of the pin level of an INPUT or KEY_IN line raises LINES. While RESET is asserted
the flag stays clear (R169). -/
def execLineLevelChange (n : Idx8) (w : Wiring) (s : State) : Host.Outcome State Fault Refusal :=
  let changes := s.pinLevel n != w.level
  .next ((s.wireLevel n w).raiseIf (changes && !(s.line n).function.drives && !s.inReset) linesFlag)

end Sys2Proof.Machine
end

