-- ==== Sys2Proof/Machine/Port.lean ====
section
/-! DEFINITION. The commands of the command port and the attention unit (10), but for SOFT RESET. -/

namespace Sys2Proof.Machine

/-- TRANSACTION_START: SEL falls, and the status byte is latched (R162, R163). A fall while RESET is asserted begins no
transaction that will be executed (R162, R169). -/
def execTransactionStart (s : State) : Host.Outcome State Fault Refusal :=
  .next (match s.cp.sel with
    | .idle =>
      if s.inReset then { s with cp := { s.cp with sel := .ignored } }
      else { s with cp := { s.cp with sel := .active s.statusByte, sdo := [] } }
    | _ => s)

/-- EMPTY_TRANSACTION: SEL rises before a complete command byte; no outcome (R162). -/
def execEmptyTransaction (s : State) : Host.Outcome State Fault Refusal := .next s.release

/-- UNKNOWN_COMMAND (R164, check 1). -/
def execUnknownCommand (code : Byte) (ps : List Byte) (s : State) : Host.Outcome State Fault Refusal :=
  .next (if commandCodes.contains code then s
    else if s.executes then s.rise (List.replicate (ps.length + 1) s.latched) .unknown else s.release)

/-- NOP (R165). -/
def execNop (ps : List Byte) (s : State) : Host.Outcome State Fault Refusal :=
  .next (transact ps true false (noParam ps fun s => (.ok, s)) s)

/-- The bytes shifted out in a FETCH that clocks `n` bytes after the command code (R167). -/
def fetchBytes (status : Byte) (response : Option (List Byte)) (n : Nat) : List Byte :=
  let r := (response.getD []).take n
  status :: (r ++ List.replicate (n - r.length) 0)

/-- FETCH's outcome, and the buffer after it (R167). -/
def fetchOutcome (response : Option (List Byte)) (n : Nat) : Code × Option (List Byte) :=
  match response with
  | none => (.empty, none)
  | some r => if r.length ≤ n then (.ok, none) else (.length, some r)

/-- FETCH (R167). Its parameter bytes are the bytes the host clocks after the command code; their values do not count. -/
def execFetch (ps : List Byte) (s : State) : Host.Outcome State Fault Refusal :=
  .next (if s.executes then
      let v := fetchOutcome s.cp.response ps.length
      let sdo := fetchBytes s.latched s.cp.response ps.length
      { s with cp := { s.cp with response := v.2 } }.rise sdo v.1
    else s.release)

/-- READ FLAGS: the flags are reported and cleared (R172). -/
def readFlagsBody (s : State) : Code × State :=
  let s1 := s.answer s.flagsResponse
  (.ok, { s1 with au := { s1.au with flags := 0 } })

/-- READ_FLAGS (R172). -/
def execReadFlags (ps : List Byte) (s : State) : Host.Outcome State Fault Refusal :=
  .next (transact ps true true (noParam ps readFlagsBody) s)

/-- NEXT ATTENTION: the head of the queue is removed and reported (R171). -/
def nextAttentionBody (s : State) : Code × State :=
  match s.au.queue with
  | [] => (.empty, s)
  | id :: rest =>
    let s1 := s.answer (s.attentionResponse id rest.length)
    (.ok, { s1 with au := { s1.au with queue := rest } })

/-- NEXT_ATTENTION (R171). -/
def execNextAttention (ps : List Byte) (s : State) : Host.Outcome State Fault Refusal :=
  .next (transact ps true true (noParam ps nextAttentionBody) s)

/-- SET MASK's check and effect (R173). -/
def setMaskBody (hi lo qe : Byte) (s : State) : Code × State :=
  match readWidth 13 (word16 hi lo), readFlag qe.toNat with
  | some m, some q => (.ok, { s with au := { s.au with mask := m, queueEnable := q } })
  | _, _ => (.range, s)

/-- SET_MASK (R173). -/
def execSetMask (ps : List Byte) (s : State) : Host.Outcome State Fault Refusal :=
  .next (transact ps false false (threeParams ps setMaskBody) s)

/-! ### CLEAR COUNTERS (R174) -/

def Trib.clearCounters (p : Trib) : Trib := { p with counters := ⟨0, 0, 0, 0, 0⟩ }
def TrunkPort.clearCounters (p : TrunkPort) : TrunkPort :=
  { p with alignErrors := 0, seqErrors := 0, jumps := 0, windowLosses := 0 }
def Record.clearCounters (r : Record) : Record := { r with slips := 0, switches := 0, misroutes := 0 }
def Detector.clearCounters (d : Detector) : Detector := { d with commands := 0, blockedEvents := 0 }
def Keyer.clearCounters (k : Keyer) : Keyer := { k with sent := 0 }

/-- Every counter of the part at 0 (R174, kind 5). -/
def State.clearAll (s : State) : State :=
  { s.mapRecords (fun _ r => r.clearCounters) with
    tribs := mapVec (fun _ p => p.clearCounters) s.tribs
    trunks := { s.trunks with port := ⟨s.trunks.port.a.clearCounters, s.trunks.port.b.clearCounters⟩ }
    dets := mapVec (fun _ d => d.clearCounters) s.dets
    keyers := mapVec (fun _ k => k.clearCounters) s.keyers }

/-- CLEAR COUNTERS' check and effect (R174). -/
def clearCountersBody (kind index : Byte) (s : State) : Code × State :=
  match kind.toNat with
  | 0 => ranged (readUnit index.toNat) (fun t s => (.ok, s.setTrib t (s.trib t).clearCounters)) s
  | 1 => ranged (readTrunk index.toNat) (fun k s => (.ok, s.setPort k (s.port k).clearCounters)) s
  | 2 => (.ok, s.setRecord (readId index) (s.record (readId index)).clearCounters)
  | 3 => ranged (readUnit index.toNat)
      (fun d s => (.ok, { s with dets := setAt s.dets d (s.det d).clearCounters })) s
  | 4 => ranged (readUnit index.toNat) (fun k s => (.ok, s.setKeyer k (s.keyer k).clearCounters)) s
  | 5 => if index = 0 then (.ok, s.clearAll) else (.range, s)
  | _ => (.range, s)

/-- CLEAR_COUNTERS (R174). -/
def execClearCounters (ps : List Byte) (s : State) : Host.Outcome State Fault Refusal :=
  .next (transact ps false false (twoParams ps clearCountersBody) s)

end Sys2Proof.Machine
end

