-- ==== Sys2Proof/Machine/Timing.lean ====
section
/-! DEFINITION. The station timing unit: its reaction to qualifications, its multiframe count, TIMING CONFIG and TIMING
STATUS (04, R68 to R78). -/

namespace Sys2Proof.Machine

/-- Enter a state with a selected source; the TIMING flag is raised (R75). The WTR target and count stand in LOCKED
only (R74). The acquisition count keeps its value, also in HOLDOVER and FREE_RUN after a candidate is lost at count 1, where R72
leaves what TIMING STATUS shows open: the model's choice (log 14). -/
def State.stuMove (s : State) (st : StuState) (src : Option Source) : State :=
  { s with stu := { s.stu with state := st, selected := src, wtrTarget := none, wtrCount := 0 } }.raise timingFlag

/-- Enter ACQUIRING on a source (R71 to R74). -/
def State.stuAcquire (s : State) (src : Source) : State :=
  let s1 := s.stuMove .acquiring (some src)
  { s1 with stu := { s1.stu with acquisition := 0 } }

/-- Enter HOLDOVER: a remaining count of 0 is set to 1936, another is resumed (R71). -/
def State.stuHoldover (s : State) : State :=
  let s1 := s.stuMove .holdover none
  { s1 with stu := { s1.stu with holdover := if s1.stu.holdover = 0 then Config.holdoverStarts else s1.stu.holdover } }

/-- The WTR target: the highest-listed qualified source above the selected one, with revertive mode on (R74). -/
def State.wtrTargetNow (s : State) : Option Source :=
  if s.stu.revertive then
    (s.stu.list.takeWhile fun x => decide (some x ≠ s.stu.selected)).find? s.qualified
  else none

/-- The selected source is still listed and qualified. -/
def State.selectedStands (s : State) : Bool :=
  match s.stu.selected with
  | some src => s.stu.list.contains src && s.qualified src
  | none => false

/-- What the STU does when a qualification or its configuration may have changed (R71 to R74). -/
def State.stuReact (s : State) : State :=
  match s.stu.state with
  | .freeRun | .holdover =>
    match s.nextSource with
    | some src => s.stuAcquire src
    | none => s
  | .acquiring =>
    if s.selectedStands then s
    else match s.nextSource with
      | some src => s.stuAcquire src
      | none => if s.stu.memory then s.stuHoldover else s.stuMove .freeRun none
  | .locked =>
    if s.selectedStands then
      let target := s.wtrTargetNow
      if target = s.stu.wtrTarget then s
      else { s with stu := { s.stu with wtrTarget := target, wtrCount := 0 } }
    else match s.nextSource with
      | some src => s.stuAcquire src
      | none => s.stuHoldover

/-- Enter LOCKED on the candidate (R72). -/
def State.stuLock (s : State) : State :=
  let s1 := s.stuMove .locked s.stu.selected
  { s1 with stu := { s1.stu with memory := true, holdover := 0 } }

/-- HOLDOVER runs out (R71). -/
def State.stuExpire (s : State) : State :=
  let s1 := s.stuMove .freeRun none
  { s1 with stu := { s1.stu with holdover := 0, memory := false } }

/-- The station multiframe start at hand completes an acquisition (R72). -/
def Stu.completes (u : Stu) : Bool :=
  decide (u.state = .acquiring ∧ Config.acquisitionStarts ≤ u.acquisition + 1)

/-- It ends HOLDOVER (R71). -/
def Stu.expires (u : Stu) : Bool := decide (u.state = .holdover ∧ u.holdover ≤ 1)

/-- It ends the wait to restore (R74). -/
def Stu.restores (u : Stu) : Bool :=
  decide (u.state = .locked ∧ u.wtrTarget.isSome ∧ u.wtrTime ≤ u.wtrCount + 1)

/-- The STU's count at a station multiframe start, before its reaction (R71, R72, R74). -/
def State.stuCount (s : State) : State :=
  let u := s.stu
  match u.state with
  | .freeRun => s
  | .acquiring =>
    if u.completes then s.stuLock else { s with stu := { u with acquisition := u.acquisition + 1 } }
  | .holdover =>
    if u.expires then s.stuExpire else { s with stu := { u with holdover := u.holdover - 1 } }
  | .locked =>
    match u.wtrTarget with
    | none => s
    | some src => if u.restores then s.stuAcquire src else { s with stu := { u with wtrCount := u.wtrCount + 1 } }

/-- A part of the multiframe start at hand is taken: with no commit pending the start passes with no flip, and a COMMIT after it
waits for the next start (R36, log 5). -/
def State.takeStart (s : State) : State :=
  { s with stu := { s.stu with flipClosed := s.stu.flipClosed || !s.ct.commitPending } }

/-- A part of the multiframe start at hand has been taken: the start, the STU's count, an expiry or the flip (log 5). -/
def Stu.partTaken (u : Stu) : Bool := u.begun || u.stuTaken || !u.retiredNow.isEmpty

/-- The STU takes a station multiframe start, once (log 5). -/
def State.stuStart (s : State) : State :=
  if s.stu.stuTaken then s
  else
    let s1 := s.stuCount.stuReact
    { s1 with stu := { s1.stu with stuTaken := true } }.takeStart

/-- A station multiframe start is at hand: the count stands at its last frame, or no frame has begun since the hardware
reset, or the start itself has been taken already (R68, log 5). -/
def State.atBoundary (s : State) : Bool :=
  !s.stu.started || decide (s.stu.count + 1 = Config.frames) || s.stu.begun

/-- An STU event of a multiframe start that is due (log 2, log 5). -/
def State.stuDue (s : State) (outcome : Bool) : Bool :=
  !s.inReset && s.atBoundary && !s.stu.stuTaken && outcome

/-- ACQUISITION_COMPLETE (R72). -/
def execAcquisitionComplete (s : State) : Host.Outcome State Fault Refusal :=
  .next (if s.stuDue s.stu.completes then s.stuStart else s)

/-- HOLDOVER_EXPIRY (R71). -/
def execHoldoverExpiry (s : State) : Host.Outcome State Fault Refusal :=
  .next (if s.stuDue s.stu.expires then s.stuStart else s)

/-- WTR_EXPIRY (R74). -/
def execWtrExpiry (s : State) : Host.Outcome State Fault Refusal :=
  .next (if s.stuDue s.stu.restores then s.stuStart else s)

/-! ### REF activity (R70) -/

/-- A station frame without edges on REF. -/
def State.refSilent (s : State) : State :=
  if s.stu.refActive then
    if Config.absentFrames ≤ s.stu.refIdle + 1 then
      { s with stu := { s.stu with refActive := false, refIdle := 0 } }.stuReact
    else { s with stu := { s.stu with refIdle := s.stu.refIdle + 1 } }
  else s

/-- A station frame with edges on REF. -/
def State.refSeen (s : State) : State := { s with stu := { s.stu with refActive := true, refIdle := 0 } }.stuReact

/-- REF_ACTIVITY_LOSS: the fourth frame without edges (R70). -/
def execRefActivityLoss (s : State) : Host.Outcome State Fault Refusal :=
  .next (if !s.inReset && s.stu.refActive && decide (s.stu.refIdle + 1 = Config.absentFrames) then s.refSilent else s)

/-! ### Commands -/

/-- TIMING CONFIG's byte count (R76). -/
def timingShape : List Byte → Option (Byte × Byte × List Byte)
  | rev :: wtr :: count :: sources =>
    if count.toNat ≤ 4 ∧ sources.length = count.toNat then some (rev, wtr, sources) else none
  | _ => none

/-- TIMING CONFIG's check and effect (R76). -/
def timingConfigure (rev wtr : Byte) (sources : List Byte) (s : State) : Code × State :=
  match readFlag rev.toNat, readSources sources with
  | some r, some l =>
    if wtr = 0 then (.range, s)
    else (.ok, { s with stu := { s.stu with list := l, revertive := r, wtrTime := wtr.toNat, wtrCount := 0 } }.stuReact)
  | _, _ => (.range, s)

/-- TIMING_CONFIG (R76). -/
def execTimingConfig (ps : List Byte) (s : State) : Host.Outcome State Fault Refusal :=
  .next (transact ps false false ((timingShape ps).map fun x => timingConfigure x.1 x.2.1 x.2.2) s)

/-- TIMING_STATUS (R77). -/
def execTimingStatus (ps : List Byte) (s : State) : Host.Outcome State Fault Refusal :=
  .next (transact ps true true (noParam ps (answering State.timingResponse)) s)

end Sys2Proof.Machine
end

