-- ==== Sys2Proof/Machine/Resets.lean ====
section
/-! DEFINITION. The two resets (R9, R45, R67, R78, R102, R119, R134, R135, R148, R155, R161, R168, R169). -/

namespace Sys2Proof.Machine

/-- The blocks that both resets set alike (R168, step 1). -/
def State.resetBlocks (s : State) : State :=
  { s with
    ct := .reset
    tribs := Vector.replicate 8 .reset
    trunks := .reset
    ps := .reset
    dets := Vector.replicate 8 .reset
    keyers := Vector.replicate 8 .reset
    clu := { s.clu with alarmMask := ContactLines.reset.alarmMask }
    au := .reset }

/-- SOFT RESET (R168): the blocks, then the response buffer, then the STU meets the loss of its source (R78). LAST is OK as
the outcome of the transaction. -/
def softResetBody (s : State) : Code × State :=
  let s1 := s.resetBlocks
  (.ok, { s1 with cp := { s1.cp with response := none } }.stuReact)

/-- SOFT_RESET (R168). -/
def execSoftReset (ps : List Byte) (s : State) : Host.Outcome State Fault Refusal :=
  .next (transact ps false false
    (match ps with
      | [] => some softResetBody
      | _ => none) s)

/-- A contact line after a hardware reset: the wiring is as it was (R155, log 12). -/
def Line.hardReset (l : Line) : Line := { Line.reset with wire := l.wire, overpowers := l.overpowers }

/-- HARDWARE_RESET: RESET is asserted (R169). A transaction in progress is discarded (R162); the wiring's levels and the
waiting commands stand. -/
def execHardwareReset (s : State) : Host.Outcome State Fault Refusal :=
  .next { State.reset with
    clu := ⟨mapVec (fun _ l => l.hardReset) s.clu.lines, ContactLines.reset.alarmMask⟩
    cp := { CommandPort.reset with sel := if s.cp.sel = .idle then .idle else .ignored }
    inReset := true
    pending := s.pending }

/-- RESET_RELEASE (R169): every block is at its hardware reset value. -/
def execResetRelease (s : State) : Host.Outcome State Fault Refusal := .next { s with inReset := false }

end Sys2Proof.Machine
end

