-- ==== Sys2Proof/Machine/Commit.lean ====
section
/-! DEFINITION. COMMIT, ABORT COMMIT, MAP QUERY, the map flip and the retire hold (02, R29 to R45). -/

namespace Sys2Proof.Machine

/-! ### Building the Next Map (R33, R34) -/

/-- The ends that a record will hold after the flip (R33). -/
def Record.candidate (r : Record) : Both (Option End) :=
  match r.state with
  | .free => ⟨none, none⟩
  | .draft => if r.staged = some .activate then r.ends else ⟨none, none⟩
  | .active | .suspended => if r.staged = some .remap then r.stagedEnds else r.ends
  | .retiring => r.ends

/-- One placement: the entry, and the slot or cell it is placed in (R33). -/
structure Placement where
  entry : Entry
  port : Port
  slot : Nat
deriving DecidableEq, Repr

/-- The placements of one end, in position order (R33). -/
def placeEnd (id : RecId) (e : Side) : Option End → List Placement
  | none => []
  | some d => mapFrom (fun k n => ⟨⟨id, e, k⟩, d.port, n⟩) 0 d.list

/-- The placements of the whole table: ascending ids, X before Y, position order (R33). -/
def State.placements (s : State) : List Placement :=
  allIds.flatMap fun id =>
    let c := (s.record id).candidate
    placeEnd id .x c.x ++ placeEnd id .y c.y

/-- Why a placement fails (R34). -/
inductive Conflict where
  | reserved (p : Placement)
  | disabled (p : Placement)
  | duplicate (first : RecId) (p : Placement)
deriving DecidableEq, Repr

/-- Tributary slot 0, or slot 16 of a port with signalling on (R31, R34). -/
def State.reservedSlot (s : State) (p : Port) (n : Nat) : Bool :=
  match p with
  | .trib t => n == 0 || (n == 16 && (s.trib t).cfg.signalling)
  | .trunk => false

/-- A tributary port that is disabled (R34). -/
def State.portDisabled (s : State) (p : Port) : Bool :=
  match p with
  | .trib t => !(s.trib t).cfg.enable
  | .trunk => false

/-- Write an entry of a map; a port has none beyond its last slot or cell (R29). -/
def SlotMap.write (m : SlotMap) (p : Port) (n : Nat) (e : Entry) : SlotMap :=
  match p with
  | .trib t => if n < p.size then { m with slots := m.slots.setIfInBounds (32 * t.val + n) (some e) } else m
  | .trunk => { m with cells := m.cells.setIfInBounds n (some e) }

/-- Check and make one placement (R34). -/
def State.placeOne (s : State) (m : SlotMap) (p : Placement) : Except Conflict SlotMap :=
  if s.reservedSlot p.port p.slot then .error (.reserved p)
  else if s.portDisabled p.port then .error (.disabled p)
  else match m.entry p.port p.slot with
    | some e => .error (.duplicate e.owner p)
    | none => .ok (m.write p.port p.slot p.entry)

/-- Make placements until one fails (R34). -/
def State.placeAll (s : State) : List Placement → SlotMap → Except Conflict SlotMap
  | [], m => .ok m
  | p :: ps, m =>
    match s.placeOne m p with
    | .error c => .error c
    | .ok m' => s.placeAll ps m'

/-- The Next Map as COMMIT builds it (R33, R34). -/
def State.buildNext (s : State) : Except Conflict SlotMap := s.placeAll s.placements .vacant

/-- The failure report (R34, R175). -/
def Conflict.report : Conflict → List Byte
  | .reserved p => [0, byte p.entry.owner.val, byte p.entry.side.code, byte p.entry.pos, byte p.port.code, byte p.slot]
  | .disabled p => [1, byte p.entry.owner.val, byte p.entry.side.code, byte p.entry.pos, byte p.port.code, byte p.slot]
  | .duplicate first p =>
    [2, byte first.val, byte p.entry.owner.val, byte p.entry.side.code, byte p.entry.pos, byte p.port.code, byte p.slot]

/-- A staged REMAP lacks a staged end (R35, item 1). -/
def Record.halfRemap (r : Record) : Bool :=
  decide (r.staged = some .remap) && (r.stagedEnds.x.isNone || r.stagedEnds.y.isNone)

/-- The staged count (R35, item 4). -/
def State.stagedCount (s : State) : Nat := (s.ct.records.toList.filter fun r => r.staged.isSome).length

/-- COMMIT after the common checks (R35). -/
def commitBody (s : State) : Code × State :=
  if s.ct.records.toList.any Record.halfRemap then (.incomplete, s)
  else match s.buildNext with
    | .error c => (.conflict, s.answer (respond (byte Code.conflict.toNat :: c.report)))
    | .ok m =>
      let s1 := s.answer (s.commitResponse s.stagedCount)
      (.ok, { s1 with ct := { s1.ct with nextMap := m, commitPending := true } })

/-- COMMIT (R35). -/
def execCommit (ps : List Byte) (s : State) : Host.Outcome State Fault Refusal :=
  .next (transact ps false true (noParam ps commitBody) s)

/-- ABORT COMMIT (R37). A multiframe start of which a part has been taken passes with no flip (R36, log 5). -/
def abortBody (s : State) : Code × State :=
  if s.ct.commitPending then
    (.ok, { s with ct := { s.ct with commitPending := false, nextMap := .vacant }
                   stu := { s.stu with flipClosed := s.stu.flipClosed || s.stu.partTaken } })
  else (.notPending, s)

/-- ABORT_COMMIT (R37). -/
def execAbortCommit (ps : List Byte) (s : State) : Host.Outcome State Fault Refusal :=
  .next (transact ps true false (noParam ps abortBody) s)

/-- MAP QUERY (R32). -/
def mapQueryBody (port slot : Byte) (s : State) : Code × State :=
  match readPort port.toNat with
  | none => (.range, s)
  | some p => if entryExists p slot.toNat then answering (fun s => s.mapResponse p slot.toNat) s else (.range, s)

/-- MAP_QUERY (R32). -/
def execMapQuery (ps : List Byte) (s : State) : Host.Outcome State Fault Refusal :=
  .next (transact ps true true (twoParams ps mapQueryBody) s)

/-! ### The map flip (R38 to R40) -/

/-- A record after its staged operation is applied (R38). -/
def Record.applyStaged (r : Record) : Record :=
  let r0 := { r with staged := none, stagedEnds := ⟨none, none⟩ }
  match r.staged with
  | none => r
  | some .activate | some .resume => { r0 with state := .active }
  | some .suspend => { r0 with state := .suspended }
  | some .remap => { r0 with ends := r.stagedEnds }
  | some .retire =>
    if r.fields.hold = 0 then .freeRecord else { r0 with state := .retiring, holdRemaining := r.fields.hold }

/-- The flip frees this record (R38). -/
def Record.freedByFlip (r : Record) : Bool := decide (r.staged = some .retire ∧ r.fields.hold = 0)

/-- The flip changes the record's trunk end (R38; log 23). -/
def trunkEndChanged (old new : Record) : Bool := new.trunkCells.isSome && decide (new.trunkCells ≠ old.trunkCells)

/-- The starting values of path selection (R112), or the values of a record without a trunk end (R7). -/
def State.restartPath (s : State) (old new : Record) : Record :=
  if trunkEndChanged old new then
    Record.judged { new with
      selected := .none, lastPath := none, copy := ⟨copyStatus (s.usable .a) false, copyStatus (s.usable .b) false⟩
      tag := ⟨.clear, .clear⟩, far := .unknown, farCand := none }
  else if new.trunkCells.isNone then
    let r := { new with
      selected := .notApplicable, lastPath := none, copy := ⟨.down, .down⟩, tag := ⟨.clear, .clear⟩, far := .unknown
      farCand := none }
    if new.inMap then r.judged else r
  else new

/-- One record at the flip (R38, R40). -/
def State.flipRecord (s : State) (r : Record) : Record := if r.staged.isSome then s.restartPath r r.applyStaged else r

/-- The cells whose received signalling entry restarts at the flip (R112, R118). -/
def State.restartedCells (s : State) : List Nat :=
  s.ct.records.toList.flatMap fun r =>
    if trunkEndChanged r (s.flipRecord r) then (s.flipRecord r).trunkCells.getD [] else []

/-- Steps 1 to 5 of R39. -/
def State.installNext (s : State) : State :=
  { s with ct := { s.ct with activeMap := s.ct.nextMap, nextMap := .vacant, epoch := s.ct.epoch + 1, commitPending := false } }.raise
    commitDoneFlag

/-- The map flip (R38 to R40). -/
def State.flip (s : State) : State :=
  let gone := fun id => (s.record id).freedByFlip
  let s1 := (s.updateRecords fun _ r => s.flipRecord r).installNext.freeRecords gone
  let cells := s.restartedCells
  let s2 := { s1 with ps := { s1.ps with sig := mapVec (fun n e => if cells.contains n then .clear else e) s1.ps.sig } }
  let s3 := s2.sweep
  { s3 with stu := { s3.stu with
      flipClosed := true
      retiredNow := allIds.filter fun id => decide ((s.record id).staged = some .retire) && !gone id } }

/-! ### Retire hold (R42 to R44) -/

/-- RETIRING, and not made so by a flip of this multiframe start (R42). -/
def State.holdCounts (s : State) (id : RecId) : Bool :=
  decide ((s.record id).state = .retiring) && !s.stu.retiredNow.contains id

/-- The hold runs out at this multiframe start (R43). -/
def State.holdExpires (s : State) (id : RecId) : Bool := s.holdCounts id && decide ((s.record id).holdRemaining ≤ 1)

/-- One record expires at the multiframe start at hand, ahead of the countdown of the others (R43, R44): a part of that start is
taken (R36, log 5). -/
def State.expire (s : State) (id : RecId) : State :=
  let s1 := s.freeRecords fun i => i == id
  { s1 with stu := { s1.stu with retiredNow := s1.stu.retiredNow ++ [id] } }.takeStart

/-- The countdown of every RETIRING record at a multiframe start, with its expiries (R42 to R44). -/
def State.countdown (s : State) : State :=
  (s.mapRecords fun id r => if s.holdCounts id then { r with holdRemaining := r.holdRemaining - 1 } else r).freeRecords
    s.holdExpires

end Sys2Proof.Machine
end

