-- ==== Sys2Proof/Machine/Detectors.lean ====
section
/-! DEFINITION. The command detectors: binding, configuration, the frame event, status (08, R135 to R147). -/

namespace Sys2Proof.Machine

/-! ### Commands -/

/-- What DET BIND and KEY BIND ask of the record, in order (R136, R149). -/
def bindRefusal (r : Record) (bound : Bool) : Option Code :=
  if r.state = .free ∨ r.state = .retiring then some .state
  else if r.cls ≠ .protection then some .range
  else if bound then some .inuse
  else none

/-- DET BIND (R136): the detector enters BLOCKED with every count at 0. -/
def detBindBody (db idb dirb : Byte) (s : State) : Code × State :=
  match readUnit db.toNat, readSide dirb.toNat with
  | some d, some dir =>
    let id := readId idb
    match bindRefusal (s.record id) ((s.boundDetector id).isSome || (s.det d).binding.isSome) with
    | some c => (c, s)
    | none =>
      (.ok, s.updateDets fun i u => if i = d then { u.freed.block with binding := some (id, dir) } else u)
  | _, _ => (.range, s)

/-- DET_BIND (R136). -/
def execDetBind (ps : List Byte) (s : State) : Host.Outcome State Fault Refusal :=
  .next (transact ps false false (threeParams ps detBindBody) s)

/-- DET UNBIND (R137). -/
def detUnbindBody (db : Byte) (s : State) : Code × State :=
  ranged (readUnit db.toNat) (fun d s =>
    match (s.det d).state with
    | .command | .trail => (.state, s)
    | .unbound => (.ok, s)
    | _ => (.ok, s.updateDets fun i u => if i = d then u.freed else u)) s

/-- DET_UNBIND (R137). -/
def execDetUnbind (ps : List Byte) (s : State) : Host.Outcome State Fault Refusal :=
  .next (transact ps false false (oneParam ps detUnbindBody) s)

/-- A taken DET CONFIG: the detector counts afresh under the new codes (R138). -/
def Detector.configure (d : Detector) (c : DetConfig) : Detector :=
  { d with cfg := c, release := 0, unknown := 0, prev := none }

/-- DET CONFIG (R138). -/
def detConfigBody (db : Byte) (c : Option DetConfig) (s : State) : Code × State :=
  match readUnit db.toNat, c with
  | some d, some c =>
    match (s.det d).state with
    | .pending | .command | .trail => (.state, s)
    | _ => (.ok, { s with dets := setAt s.dets d ((s.det d).configure c) })
  | _, _ => (.range, s)

/-- DET CONFIG's nine parameters (R138). -/
def detConfigShape (ps : List Byte) : Option (State → Code × State) :=
  match ps with
  | [d, guard, c1, c2, mode, p, r, m, u] => some (detConfigBody d (readDetConfig guard c1 c2 mode p r m u))
  | _ => none

/-- DET_CONFIG (R138). -/
def execDetConfig (ps : List Byte) (s : State) : Host.Outcome State Fault Refusal :=
  .next (transact ps false false (detConfigShape ps) s)

/-- DET_STATUS (R147). -/
def execDetStatus (ps : List Byte) (s : State) : Host.Outcome State Fault Refusal :=
  .next (transact ps true true
    (oneParam ps fun b => ranged (readUnit b.toNat) fun d => answering fun s => s.detResponse d) s)

/-! ### The frame event (R139 to R144) -/

/-- The classes of R139. -/
inductive FrameClass where
  | guard | command | unknown
deriving DecidableEq, Repr

/-- Whether a byte is a command code of DUAL mode. -/
def DetConfig.isCode (c : DetConfig) (b : Byte) : Bool := b == c.c1 || b == c.c2

/-- In DUAL mode a command code counts unless the byte before was the same code (R139). -/
def DetConfig.alternates (c : DetConfig) (prev : Option Byte) (b : Byte) : Bool :=
  match prev with
  | none => true
  | some p => !c.isCode p || p != b

/-- The class of a byte (R139). -/
def Detector.classify (d : Detector) (b : Byte) : FrameClass :=
  if b = d.cfg.guard then .guard
  else if !d.cfg.dual then (if b = d.cfg.c1 then .command else .unknown)
  else if d.cfg.isCode b && d.cfg.alternates d.prev b then .command
  else .unknown

/-- An unknown frame: the U-th in a row blocks the detector and counts a blocked event (R144). -/
def Detector.unknownFrame (d : Detector) : Detector :=
  if d.cfg.u ≤ d.unknown + 1 then { d.block with blockedEvents := bump d.blockedEvents }
  else { d with unknown := d.unknown + 1 }

/-- Entry into COMMAND with a command event (R142). -/
def Detector.recognise (d : Detector) : Detector :=
  { d with state := .command, release := 0, commands := bump d.commands }

/-- A frame in GUARD (R142). -/
def Detector.inGuard (d : Detector) : FrameClass → Detector
  | .guard => { d with unknown := 0 }
  | .command =>
    let d1 := { d with state := .pending, persist := 1, unknown := 0 }
    if d.cfg.p = 1 then d1.recognise else d1
  | .unknown => d.unknownFrame

/-- A frame in PENDING (R142). -/
def Detector.inPending (d : Detector) : FrameClass → Detector
  | .guard => { d with state := .guard, persist := 0, unknown := 0 }
  | .command =>
    let d1 := { d with persist := d.persist + 1, unknown := 0 }
    if d.cfg.p ≤ d.persist + 1 then d1.recognise else d1
  | .unknown => { d with state := .guard, persist := 0 }.unknownFrame

/-- A frame in COMMAND (R143). -/
def Detector.inCommand (d : Detector) : FrameClass → Detector
  | .guard =>
    let d1 := { d with unknown := 0, release := d.release + 1 }
    if d.cfg.r ≤ d.release + 1 then
      if d.cfg.m = 0 then { d1 with state := .guard } else { d1 with state := .trail, prolong := d.cfg.m }
    else d1
  | .command => { d with release := 0, unknown := 0 }
  | .unknown => { d with release := 0 }.unknownFrame

/-- A frame in TRAIL: the prolongation decreases first (R143). -/
def Detector.inTrail (d : Detector) (c : FrameClass) : Detector :=
  let d1 := { d with prolong := d.prolong - 1 }
  if d.prolong ≤ 1 then { d1 with state := .guard }.inGuard c
  else match c with
    | .guard => { d1 with unknown := 0 }
    | .command => { d1 with state := .command, release := 0, prolong := 0, unknown := 0 }
    | .unknown => d1.unknownFrame

/-- A frame in BLOCKED with no blocking condition (R141). -/
def Detector.inBlocked (d : Detector) : FrameClass → Detector
  | .guard =>
    if d.cfg.r ≤ d.release + 1 then { d with state := .guard, release := 0, unknown := 0 }
    else { d with release := d.release + 1 }
  | _ => { d with release := 0 }

/-- The frame event with the blocking conditions as they hold at it (R139 to R144). -/
def Detector.frame (d : Detector) (blocked : Bool) (b : Byte) : Detector :=
  let d1 :=
    if blocked then (if d.state = .blocked then { d with release := 0 } else if d.state = .unbound then d else d.block)
    else match d.state with
      | .unbound => d
      | .blocked => d.inBlocked (d.classify b)
      | .guard => d.inGuard (d.classify b)
      | .pending => d.inPending (d.classify b)
      | .command => d.inCommand (d.classify b)
      | .trail => d.inTrail (d.classify b)
  if d.state = .unbound then d else { d1 with prev := some b, handed := none }

/-! ### Frame events left to a command of their own (log 4) -/

/-- The blocking conditions of a bound detector as the record shows them (R140). -/
def State.detBlocked (s : State) (d : Detector) : Bool :=
  match d.binding with
  | none => false
  | some (id, dir) => s.circuitBlocks id || (s.record id).failed.get dir

/-- The detector after the frame event of the byte handed to it. -/
def State.afterHanded (s : State) (n : Idx8) : Detector :=
  let d := s.det n
  match d.handed with
  | none => d
  | some b => d.frame (s.detBlocked d) b

/-- Take the frame event of the byte handed to one detector. -/
def State.takeHanded (s : State) (n : Idx8) : State :=
  let d := s.afterHanded n
  s.updateDets fun i u => if i = n then d else u

/-- A row of a detector's frame event that is due: a byte is handed, and its event has the outcome that the row names. -/
def State.detDue (s : State) (n : Idx8) (outcome : Detector → Detector → Bool) : Bool :=
  !s.inReset && (s.det n).handed.isSome && outcome (s.det n) (s.afterHanded n)

/-- DETECTOR_UNBLOCK (R141). -/
def execDetectorUnblock (n : Idx8) (s : State) : Host.Outcome State Fault Refusal :=
  .next (if s.detDue n (fun d e => decide (d.state = .blocked ∧ e.state = .guard)) then s.takeHanded n else s)

/-- DETECTOR_COMMAND_RECOGNISED (R142): entry into COMMAND that counts a command event. -/
def execDetectorCommandRecognised (n : Idx8) (s : State) : Host.Outcome State Fault Refusal :=
  .next (if s.detDue n (fun d e => decide ((d.state = .guard ∨ d.state = .pending) ∧ e.state = .command)) then
    s.takeHanded n else s)

/-- DETECTOR_RELEASE (R143). -/
def execDetectorRelease (n : Idx8) (s : State) : Host.Outcome State Fault Refusal :=
  .next (if s.detDue n (fun d e => decide (d.state = .command ∧ (e.state = .trail ∨ e.state = .guard))) then
    s.takeHanded n else s)

/-- TRAIL_EXPIRY (R143). -/
def execTrailExpiry (n : Idx8) (s : State) : Host.Outcome State Fault Refusal :=
  .next (if s.detDue n (fun d e => decide (d.state = .trail ∧ d.prolong ≤ 1 ∧ e.state ≠ .blocked)) then
    s.takeHanded n else s)

/-- DETECTOR_UNAVAILABLE (R144). -/
def execDetectorUnavailable (n : Idx8) (s : State) : Host.Outcome State Fault Refusal :=
  .next (if s.detDue n (fun d e => decide (d.state ≠ .blocked ∧ e.state = .blocked) && !s.detBlocked d) then
    s.takeHanded n else s)

end Sys2Proof.Machine
end

