-- ==== Sys2Proof/Machine/Keyers.lean ====
section
/-! DEFINITION. The command keyers: binding, configuration, the frame event, KEY TEST, status (08, R148 to R154). -/

namespace Sys2Proof.Machine

/-! ### Commands -/

/-- KEY BIND (R149). -/
def keyBindBody (kb idb dirb : Byte) (s : State) : Code × State :=
  match readUnit kb.toNat, readSide dirb.toNat with
  | some k, some dir =>
    let id := readId idb
    match bindRefusal (s.record id) ((s.boundKeyer id).isSome || (s.keyer k).binding.isSome) with
    | some c => (c, s)
    | none => (.ok, s.setKeyer k { (s.keyer k).freed with state := .guard, binding := some (id, dir) })
  | _, _ => (.range, s)

/-- KEY_BIND (R149). -/
def execKeyBind (ps : List Byte) (s : State) : Host.Outcome State Fault Refusal :=
  .next (transact ps false false (threeParams ps keyBindBody) s)

/-- KEY UNBIND (R149). -/
def keyUnbindBody (kb : Byte) (s : State) : Code × State :=
  ranged (readUnit kb.toNat) (fun k s =>
    match (s.keyer k).state with
    | .command | .lockout => (.state, s)
    | .unbound => (.ok, s)
    | .guard => (.ok, s.setKeyer k (s.keyer k).freed)) s

/-- KEY_UNBIND (R149). -/
def execKeyUnbind (ps : List Byte) (s : State) : Host.Outcome State Fault Refusal :=
  .next (transact ps false false (oneParam ps keyUnbindBody) s)

/-- KEY CONFIG (R150). -/
def keyConfigBody (kb : Byte) (c : Option KeyConfig) (s : State) : Code × State :=
  match readUnit kb.toNat, c with
  | some k, some c =>
    match (s.keyer k).state with
    | .command | .lockout => (.state, s)
    | _ => (.ok, s.setKeyer k { s.keyer k with cfg := c })
  | _, _ => (.range, s)

/-- KEY CONFIG's eight parameters (R150). -/
def keyConfigShape (ps : List Byte) : Option (State → Code × State) :=
  match ps with
  | [k, guard, c1, c2, mode, kmin, g, q] => some (keyConfigBody k (readKeyConfig guard c1 c2 mode kmin g q))
  | _ => none

/-- KEY_CONFIG (R150). -/
def execKeyConfig (ps : List Byte) (s : State) : Host.Outcome State Fault Refusal :=
  .next (transact ps false false (keyConfigShape ps) s)

/-- The keyer's record is ACTIVE (R153). -/
def State.keyerActive (s : State) (k : Keyer) : Bool :=
  match k.binding with
  | none => false
  | some (id, _) => decide ((s.record id).state = .active)

/-- KEY TEST (R153). -/
def keyTestBody (kb hi lo : Byte) (s : State) : Code × State :=
  ranged (readUnit kb.toNat) (fun k s =>
    let n := word16 hi lo
    if n = 0 ∨ Config.testFrames < n then (.range, s)
    else if !s.keyerActive (s.keyer k) then (.state, s)
    else if 0 < (s.keyer k).test then (.busyUnit, s)
    else (.ok, s.setKeyer k { s.keyer k with test := n })) s

/-- KEY_TEST (R153). -/
def execKeyTest (ps : List Byte) (s : State) : Host.Outcome State Fault Refusal :=
  .next (transact ps false false (threeParams ps keyTestBody) s)

/-- KEY_STATUS (R154). -/
def execKeyStatus (ps : List Byte) (s : State) : Host.Outcome State Fault Refusal :=
  .next (transact ps true true
    (oneParam ps fun b => ranged (readUnit b.toNat) fun k => answering fun s => s.keyResponse k) s)

/-! ### The frame event (R151, R152) -/

/-- The qualification run that the frame event goes on from: a line gained since the last one counts from this one (R157). -/
def Keyer.run (k : Keyer) : Nat := if k.gained then 0 else k.qual

/-- The qualification run after the line is read; `level` is none without a KEY_IN line (R151). A run that a lowered Q has left above
Q+1 (R150) is cut down to Q+1 at the next asserted frame event: the model's choice, since R151 says only that it stops there
(log 33). -/
def Keyer.qualify (k : Keyer) (level : Option Bool) : Nat :=
  if level = some true then min (k.run + 1) (k.cfg.q + 1) else 0

/-- The key request at the frame event (R151). -/
def Keyer.request (k : Keyer) (level : Option Bool) : Bool :=
  decide (k.cfg.q + 1 ≤ k.qualify level) || decide (0 < k.test)

/-- A guard byte is sent (R152). -/
def Keyer.sendGuard (k : Keyer) : Keyer := { k with last := { k.last with byte := some k.cfg.guard } }

/-- A command byte is sent: C1 in SINGLE mode and in odd frames of DUAL mode; the test remainder decreases (R152). -/
def Keyer.sendCommand (k : Keyer) (odd : Bool) : Keyer :=
  { k with
    last := { k.last with byte := some (if k.cfg.dual && !odd then k.cfg.c2 else k.cfg.c1) }
    oddFrame := odd, test := k.test - 1 }

/-- GUARD, or the end of LOCKOUT (R152). -/
def Keyer.inGuard (k : Keyer) (req : Bool) : Keyer :=
  if req then { k with state := .command, duration := 1, sent := bump k.sent }.sendCommand true
  else { k with state := .guard }.sendGuard

/-- COMMAND (R152). -/
def Keyer.inCommand (k : Keyer) (req : Bool) : Keyer :=
  if decide (k.cfg.kmin ≤ k.duration) && !req then
    if k.cfg.g = 0 then { k with state := .guard }.sendGuard
    else { k with state := .lockout, lockout := k.cfg.g - 1 }.sendGuard
  else { k with duration := min (k.duration + 1) k.cfg.kmin }.sendCommand (!k.oddFrame)

/-- LOCKOUT (R152). -/
def Keyer.inLockout (k : Keyer) (req : Bool) : Keyer :=
  if 0 < k.lockout then { k with lockout := k.lockout - 1 }.sendGuard else k.inGuard req

/-- The frame event of a bound keyer (R151, R152). Without a KEY_IN line the level recorded for KEY STATUS is 0 (log 31). -/
def Keyer.frame (k : Keyer) (level : Option Bool) : Keyer :=
  let req := k.request level
  let k1 := { k with qual := k.qualify level, last := ⟨level.getD false, req, none, false⟩, gained := false }
  match k.state with
  | .unbound => k
  | .guard => k1.inGuard req
  | .command => k1.inCommand req
  | .lockout => k1.inLockout req

/-- The level that a keyer reads: none without a KEY_IN line (R151). -/
def State.keyLevel (s : State) (n : Idx8) : Option Bool := (s.keyLine n).map s.presented

/-- The keyer after its frame event. -/
def State.keyerAfter (s : State) (n : Idx8) : Keyer := (s.keyer n).frame (s.keyLevel n)

/-- Take a keyer's frame event of the coming station frame (log 4). The byte it supplies waits on the keyer for that frame; a KEY
UNBIND in between, which R149 takes in GUARD, drops it, and the frame carries the rest of the byte chain. Until that frame,
KEY STATUS reports the new byte as not delivered (R154). Both are the model's choice (log 4). -/
def State.takeKeyer (s : State) (n : Idx8) : State := s.setKeyer n { s.keyerAfter n with taken := true }

/-- A row of a keyer's frame event that is due. -/
def State.keyDue (s : State) (n : Idx8) (outcome : Keyer → Keyer → Bool) : Bool :=
  !s.inReset && decide ((s.keyer n).state ≠ .unbound) && !(s.keyer n).taken && outcome (s.keyer n) (s.keyerAfter n)

/-- LINE_REQUEST_QUALIFIED: the run reaches Q+1 (R151). -/
def execLineRequestQualified (n : Idx8) (s : State) : Host.Outcome State Fault Refusal :=
  .next (if s.keyDue n (fun k k' => decide (k.run < k.cfg.q + 1 ∧ k'.qual = k.cfg.q + 1)) then s.takeKeyer n else s)

/-- KEYER_COMMAND_END (R152). -/
def execKeyerCommandEnd (n : Idx8) (s : State) : Host.Outcome State Fault Refusal :=
  .next (if s.keyDue n (fun k k' => decide (k.state = .command ∧ k'.state ≠ .command)) then s.takeKeyer n else s)

/-- LOCKOUT_EXPIRY (R152). -/
def execLockoutExpiry (n : Idx8) (s : State) : Host.Outcome State Fault Refusal :=
  .next (if s.keyDue n (fun k k' => decide (k.state = .lockout ∧ k'.state ≠ .lockout)) then s.takeKeyer n else s)

/-- TEST_REMAINDER_EXPIRY: the last command byte of a test is sent (R152, R153). -/
def execTestRemainderExpiry (n : Idx8) (s : State) : Host.Outcome State Fault Refusal :=
  .next (if s.keyDue n (fun k k' => decide (0 < k.test ∧ k'.test = 0)) then s.takeKeyer n else s)

end Sys2Proof.Machine
end

