-- ==== Sys2Proof/Machine/Table.lean ====
section
/-! DEFINITION. The commands on circuit records (01, R11 to R28). -/

namespace Sys2Proof.Machine

/-- Write one record and post it if `attention` says so (R10). -/
def State.writeRecord (s : State) (id : RecId) (r : Record) (attention : Bool) : State :=
  (s.setRecord id r).post (if attention then [id] else [])

/-- OPEN (R12). -/
def openBody (idb cls : Byte) (s : State) : Code × State :=
  let id := readId idb
  if (s.record id).state ≠ .free then (.state, s)
  else ranged (readClass cls.toNat)
    (fun c s => (.ok, s.writeRecord id { Record.freeRecord with state := .draft, cls := c } true)) s

/-- DISCARD (R13): the units bound to the record become UNBOUND with it. -/
def discardBody (idb : Byte) (s : State) : Code × State :=
  let id := readId idb
  if (s.record id).state ≠ .draft then (.state, s)
  else (.ok, s.freeRecords fun i => i == id)

/-- The staged operation stands in the way of SET END (R14, check 3). -/
def Record.blocksEnds (r : Record) : Bool :=
  match r.staged with
  | none | some .remap => false
  | some _ => true

/-- A pair of ends after SET END writes `new` at `e`: the other end is kept only at the same length (R17). -/
def writeEnd (ends : Both (Option End)) (e : Side) (new : End) : Both (Option End) :=
  let other := (ends.get (otherSide e)).filter fun o => o.list.length == new.list.length
  (ends.set e (some new)).set (otherSide e) other

/-- The pair of ends that SET END writes in: the ends themselves in DRAFT, else the staged ends, which begin as the
active ends (R15, R16). -/
def Record.editedEnds (r : Record) : Both (Option End) :=
  if r.state = .draft then r.ends else if r.staged = some .remap then r.stagedEnds else r.ends

/-- Both ends of a pair set, with port TRUNK. -/
def bothTrunk (ends : Both (Option End)) : Bool :=
  decide (ends.x.map End.port = some .trunk ∧ ends.y.map End.port = some .trunk)

/-- SET END after its byte count (R14 to R17). -/
def setEndBody (idb endb port : Byte) (entries : List Byte) (s : State) : Code × State :=
  let id := readId idb
  let r := s.record id
  if r.state = .free ∨ r.state = .retiring then (.state, s)
  else match readSide endb.toNat, readEnd port.toNat entries with
    | some e, some new =>
      if r.blocksEnds then (.staged, s)
      else
        let ends := writeEnd r.editedEnds e new
        if r.state = .draft then (.ok, s.writeRecord id { r with ends := ends } r.fields.attention)
        else if bothTrunk ends then (.range, s)
        else (.ok, s.setRecord id { r with staged := some .remap, stagedEnds := ends })
    | _, _ => (.range, s)

/-- SET END's byte count: *count* from 1 to 31, and exactly *count* entries (R14). -/
def setEndShape : List Byte → Option (Byte × Byte × Byte × List Byte)
  | id :: e :: port :: count :: entries =>
    if 1 ≤ count.toNat ∧ count.toNat ≤ 31 ∧ entries.length = count.toNat then some (id, e, port, entries) else none
  | _ => none

/-- A change of the expected tag restarts the tag check of both copies (R19, R109). -/
def TagCheck.restart (t : TagCheck) : TagCheck := { t with read := false, mismatch := false, matchRun := 0, mismatchRun := 0 }

/-- Write the fields, restarting the tag check if the expected tag changes (R18, R19). -/
def Record.withFields (r : Record) (f : Fields) : Record :=
  if f.expTag = r.fields.expTag then { r with fields := f }
  else { r with fields := f, tag := ⟨r.tag.a.restart, r.tag.b.restart⟩ }

/-- SET FIELD (R18, R19). -/
def setFieldBody (idb code hi lo : Byte) (s : State) : Code × State :=
  let id := readId idb
  let r := s.record id
  let v := word16 hi lo
  if r.state = .free ∨ r.state = .retiring then (.state, s)
  else if lastFieldCode < code.toNat then (.range, s)
  else if code = 0 then
    if r.state ≠ .draft then (.state, s)
    else match readClass v with
      | none => (.range, s)
      | some c =>
        if c ≠ .protection ∧ ((s.boundDetector id).isSome ∨ (s.boundKeyer id).isSome) then (.inuse, s)
        else (.ok, s.setRecord id { r with cls := c })
  else match writeField r.fields code.toNat v with
    | none => (.range, s)
    | some f => (.ok, s.setRecord id (r.withFields f))

/-- ACTIVATE (R20). -/
def activateBody (idb : Byte) (s : State) : Code × State :=
  let id := readId idb
  let r := s.record id
  if r.state ≠ .draft then (.state, s)
  else if r.staged.isSome then (.staged, s)
  else if r.ends.x.isNone ∨ r.ends.y.isNone then (.incomplete, s)
  else if bothTrunk r.ends then (.range, s)
  else (.ok, s.setRecord id { r with staged := some .activate })

/-- Stage an operation on a record in a state that allows it (R21, R22, R23). -/
def stageBody (op : StagedOp) (allowed : RecState → Bool) (idb : Byte) (s : State) : Code × State :=
  let id := readId idb
  let r := s.record id
  if !allowed r.state then (.state, s)
  else if r.staged.isSome then (.staged, s)
  else (.ok, s.setRecord id { r with staged := some op })

/-- REVOKE (R24). -/
def revokeBody (idb : Byte) (s : State) : Code × State :=
  let id := readId idb
  let r := s.record id
  if r.state = .free ∨ r.state = .retiring then (.state, s)
  else if r.staged.isNone then (.notStaged, s)
  else (.ok, s.setRecord id { r with staged := none, stagedEnds := ⟨none, none⟩ })

/-- The ids from p on whose record is not FREE, lowest first (R28). -/
def State.occupiedFrom (s : State) (p : Nat) : List RecId :=
  allIds.filter fun id => decide (p ≤ id.val ∧ (s.record id).state ≠ .free)

/-- NEXT (R28). -/
def nextRecordBody (s : State) : Code × State :=
  let p := s.ct.cursor
  if s.ct.endLock then
    let found := if (s.record p).state = .free then none else some p
    (.ok, s.answer (s.nextResponse found true))
  else match s.occupiedFrom p.val with
    | [] => (.ok, { s.answer (s.nextResponse none true) with ct := { s.ct with endLock := true } })
    | [q] => (.ok, { s.answer (s.nextResponse (some q) true) with ct := { s.ct with cursor := q, endLock := true } })
    | q :: q' :: _ => (.ok, { s.answer (s.nextResponse (some q) false) with ct := { s.ct with cursor := q' } })

/-- OPEN (R12). -/
def execOpenRecord (ps : List Byte) (s : State) : Host.Outcome State Fault Refusal :=
  .next (transact ps false false (twoParams ps openBody) s)

/-- DISCARD (R13). -/
def execDiscard (ps : List Byte) (s : State) : Host.Outcome State Fault Refusal :=
  .next (transact ps false false (oneParam ps discardBody) s)

/-- SET_END (R14 to R17). -/
def execSetEnd (ps : List Byte) (s : State) : Host.Outcome State Fault Refusal :=
  .next (transact ps false false ((setEndShape ps).map fun x => setEndBody x.1 x.2.1 x.2.2.1 x.2.2.2) s)

/-- SET_FIELD (R18, R19). -/
def execSetField (ps : List Byte) (s : State) : Host.Outcome State Fault Refusal :=
  .next (transact ps false false (fourParams ps setFieldBody) s)

/-- ACTIVATE (R20). -/
def execActivate (ps : List Byte) (s : State) : Host.Outcome State Fault Refusal :=
  .next (transact ps false false (oneParam ps activateBody) s)

/-- SUSPEND (R21). -/
def execSuspend (ps : List Byte) (s : State) : Host.Outcome State Fault Refusal :=
  .next (transact ps false false (oneParam ps (stageBody .suspend fun st => decide (st = .active))) s)

/-- RESUME (R22). -/
def execResume (ps : List Byte) (s : State) : Host.Outcome State Fault Refusal :=
  .next (transact ps false false (oneParam ps (stageBody .resume fun st => decide (st = .suspended))) s)

/-- RETIRE (R23). -/
def execRetire (ps : List Byte) (s : State) : Host.Outcome State Fault Refusal :=
  .next (transact ps false false
    (oneParam ps (stageBody .retire fun st => decide (st = .active ∨ st = .suspended))) s)

/-- REVOKE (R24). -/
def execRevoke (ps : List Byte) (s : State) : Host.Outcome State Fault Refusal :=
  .next (transact ps false false (oneParam ps revokeBody) s)

/-- QUERY (R25). -/
def execQuery (ps : List Byte) (s : State) : Host.Outcome State Fault Refusal :=
  .next (transact ps true true (oneParam ps fun b => answering fun s => s.queryResponse (readId b)) s)

/-- QUERY_STAGED (R26). -/
def execQueryStaged (ps : List Byte) (s : State) : Host.Outcome State Fault Refusal :=
  .next (transact ps true true (oneParam ps fun b => answering fun s => s.stagedResponse (readId b)) s)

/-- CURSOR (R27). -/
def execCursor (ps : List Byte) (s : State) : Host.Outcome State Fault Refusal :=
  .next (transact ps true false
    (oneParam ps fun b s => (.ok, { s with ct := { s.ct with cursor := readId b, endLock := false } })) s)

/-- NEXT (R28). -/
def execNextRecord (ps : List Byte) (s : State) : Host.Outcome State Fault Refusal :=
  .next (transact ps true true (noParam ps nextRecordBody) s)

end Sys2Proof.Machine
end

