-- ==== Sys2Proof/Machine/PathSelector.lean ====
section
/-! DEFINITION. The path selector: deskew stores and states, anchoring, the read of a station frame, tag check, selection,
far-end status and received trunk signalling (06). -/

namespace Sys2Proof.Machine

/-! ### Anchoring (R106, R107) -/

/-- The trunk is IN_WINDOW under a hold that awaits its anchor frame (R106, step 1). -/
def Deskew.anchored : Deskew := ⟨[], .inWindow, 0, 0, .awaiting⟩

/-- Count one deskew jump on a trunk and report it to the circuit table (R106, R107). -/
def State.jump (s : State) (k : Trunk) : State :=
  (s.setPort k { s.port k with jumps := bump (s.port k).jumps }).slipNotice .trunk

/-- An anchoring: a deskew jump unless it is the first since reset (R106). -/
def State.anchor (s : State) (k : Trunk) : State :=
  let s1 := s.setDeskew k .anchored
  if s.ps.anchored then s1.jump k else { s1 with ps := { s1.ps with anchored := true } }

/-- Anchor if the pair has no usable trunk while one is ALIGNED (R106). -/
def State.reanchor (s : State) : State :=
  if s.usable .a || s.usable .b then s
  else if (s.port .a).align = .aligned then s.anchor .a
  else if (s.port .b).align = .aligned then s.anchor .b
  else s

/-- A trunk is UNANCHORED: its store is emptied, its runs and hold are discarded, and the tag-check runs and markers of its
copy are cleared in every record (R105, R109). -/
def State.deskewLeave (s : State) (k : Trunk) : State :=
  (s.setDeskew k .reset).mapRecords fun _ r => { r with tag := r.tag.set k (r.tag.get k).restart }

/-- A trunk enters ALIGNED (R105, R106). -/
def State.deskewEnter (s : State) (k : Trunk) : State :=
  if s.usable (otherTrunk k) then s.setDeskew k ⟨[], .outOfWindow, 0, 0, .none⟩ else s.anchor k

/-- The trunk's items whose change raises its flag (R99) are the same. -/
def State.sameTrunk (s t : State) (k : Trunk) : Bool :=
  decide ((s.port k).align = (t.port k).align ∧ (s.port k).farEpoch = (t.port k).farEpoch) &&
    decide ((s.port k).farClock = (t.port k).farClock ∧ (s.port k).farRdi = (t.port k).farRdi) &&
    decide ((s.deskew k).state = (t.deskew k).state)

/-- Raise the flag of each trunk that one event changed, once (R99). -/
def State.trunkFlags (s old : State) : State :=
  (s.raiseIf (!s.sameTrunk old .a) (trunkFlag .a)).raiseIf (!s.sameTrunk old .b) (trunkFlag .b)

/-- What follows an event of a trunk: its flag, the copy statuses, the STU (R70, R99, R111). -/
def State.trunkSettle (s old : State) : State := (s.trunkFlags old).syncCopies.stuReact

/-- RECENTRE (R108). -/
def recentreBody (k : Byte) (s : State) : Code × State :=
  ranged (readTrunk k.toNat) (fun k s =>
    if (s.port k).align ≠ .aligned then (.state, s)
    else (.ok, ((s.setDeskew k .anchored).jump k).trunkSettle s)) s

/-- RECENTRE (R108). -/
def execRecentre (ps : List Byte) (s : State) : Host.Outcome State Fault Refusal :=
  .next (transact ps false false (oneParam ps recentreBody) s)

/-! ### Arrival of a frame (R97, R103, R106) -/

/-- The far end's status code (R97). -/
def decodeStatus (n : Nibble) : FarStatus :=
  match n.toNat with
  | 0 => .ok
  | 1 => .sourceFail
  | 2 => .sinkFail
  | 3 => .conditioned
  | 4 => .test
  | _ => .unknown

/-- The frame handed on: its number, its overhead and its payload (R84, R97, 12.7). -/
def makeFrame (seq : Nat) (header payload : List Byte) : DFrame :=
  let h := fun n => header.getD n 0
  { seq := seq
    tag := (h 2) ++ upper (h 3)
    status := decodeStatus (lower (h 3))
    nibbles := [upper (h 4), lower (h 4), upper (h 5), lower (h 5)]
    cells := payload }

/-- A frame joins the store at its newest end; the oldest of 64 is discarded first (R103). -/
def Deskew.push (d : Deskew) (f : DFrame) : Deskew :=
  { d with frames := (if Config.deskewFrames ≤ d.frames.length then d.frames.drop 1 else d.frames) ++ [f] }

/-- The read position that an anchor frame of number q sets (R106, step 2). -/
def anchorPosition (q skew : Nat) (beforeRead : Bool) : Nat :=
  (q + 2 * Config.frames - (skew + if beforeRead then 2 else 1)) % Config.frames

/-- The arrival of a frame at the deskew store of trunk k; under a hold that awaits arrival it is the anchor frame (R103,
R106). -/
def State.arrive (s : State) (k : Trunk) (f : DFrame) (beforeRead : Bool) : State :=
  let d := (s.deskew k).push f
  match d.hold with
  | .awaiting =>
    let s1 := s.setDeskew k { d with hold := .until f.seq }
    { s1 with ps := { s1.ps with readPos := anchorPosition f.seq s.trunks.skew beforeRead } }
  | _ => s.setDeskew k d

/-! ### The read (R104, R105) -/

/-- What the read of a station frame finds on a trunk. -/
inductive ReadResult where
  | off
  | held
  | missing
  | present (f : DFrame)
deriving DecidableEq, Repr

/-- The read of frame r on trunk k (R104, R106). -/
def State.readOf (s : State) (k : Trunk) : ReadResult :=
  let d := s.deskew k
  let r := s.ps.readPos
  if (s.port k).align ≠ .aligned then .off
  else if d.hold = .awaiting ∨ (d.hold ≠ .none ∧ d.hold ≠ .until r) then .held
  else match d.frames.find? fun f => f.seq == r with
    | some f => .present f
    | none => .missing

/-- The store after the read (R104). -/
def Deskew.afterRead (d : Deskew) (r : Nat) : ReadResult → Deskew
  | .off | .held => d
  | .missing =>
    { d with
      hold := .none
      frames := d.frames.filter fun f => (f.seq + Config.frames - r) % Config.frames < Config.aheadLimit }
  | .present _ => { d with hold := .none, frames := (d.frames.dropWhile fun f => f.seq != r).drop 1 }

/-- The third missing read in a row: OUT_OF_WINDOW, or a new anchoring on the same trunk when the other is not usable; one
window loss, and the flag is raised once (R105, R106). -/
def State.loseWindow (s : State) (k : Trunk) : State :=
  let s1 := s.setPort k { s.port k with windowLosses := bump (s.port k).windowLosses }
  let d := s1.deskew k
  let s2 := s1.setDeskew k { d with state := .outOfWindow, missing := 0, present := 0 }
  let s3 := if s.usable (otherTrunk k) then s2 else s2.anchor k
  s3.raise (trunkFlag k)

/-- The eighth present read in a row (R105). -/
def State.regainWindow (s : State) (k : Trunk) : State :=
  (s.setDeskew k { s.deskew k with state := .inWindow, missing := 0, present := 0 }).raise (trunkFlag k)

/-- A missing read takes the trunk out of its window (R105). -/
def State.losesWindow (s : State) (k : Trunk) (res : ReadResult) : Bool :=
  decide (res = .missing ∧ (s.deskew k).state = .inWindow ∧ Config.missingReads ≤ (s.deskew k).missing + 1)

/-- A present read brings the trunk into its window (R105). -/
def State.regainsWindow (s : State) (k : Trunk) (res : ReadResult) : Bool :=
  match res with
  | .present _ => decide ((s.deskew k).state = .outOfWindow ∧ Config.presentReads ≤ (s.deskew k).present + 1)
  | _ => false

/-- The runs of R105, short of a change of state. -/
def Deskew.count (d : Deskew) (res : ReadResult) : Deskew :=
  match d.state, res with
  | .inWindow, .present _ => { d with missing := 0 }
  | .inWindow, .missing => { d with missing := d.missing + 1 }
  | .outOfWindow, .present _ => { d with present := d.present + 1 }
  | .outOfWindow, .missing => { d with present := 0 }
  | _, _ => d

/-- Apply the read of one trunk to its store and its deskew state (R104, R105). -/
def State.applyRead (s : State) (k : Trunk) (res : ReadResult) : State :=
  let s1 := s.setDeskew k ((s.deskew k).afterRead s.ps.readPos res)
  if s.losesWindow k res then s1.loseWindow k
  else if s.regainsWindow k res then s1.regainWindow k
  else s1.setDeskew k ((s1.deskew k).count res)

/-- WINDOW_LOSS (R105, R106): the read due next is the third missing one. Taken ahead of a read of 247, a new anchoring has its hold
at that read, which then evaluates nothing (log 30). -/
def execWindowLoss (k : Trunk) (s : State) : Host.Outcome State Fault Refusal :=
  .next (if !s.inReset && s.losesWindow k (s.readOf k) then (s.loseWindow k).syncCopies else s)

/-- WINDOW_RETURN (R105): the read due next is the eighth present one. -/
def execWindowReturn (k : Trunk) (s : State) : Host.Outcome State Fault Refusal :=
  .next (if !s.inReset && s.regainsWindow k (s.readOf k) then (s.regainWindow k).syncCopies else s)

/-! ### One record at the read -/

/-- Collect the tag read (R109). -/
def TagCheck.collect (t : TagCheck) (expected : Tag) (mine : Bool) (res : ReadResult) : TagCheck :=
  match res with
  | .present f => if mine then { t with read := true, mismatch := t.mismatch || f.tag != expected } else t
  | _ => t

/-- A MATCH multiframe (R109). -/
def TagCheck.matched (t : TagCheck) : TagCheck :=
  let n := min Config.matchTop (t.matchRun + 1)
  ⟨false, false, n, 0, t.misroute && decide (n < Config.matchTop)⟩

/-- A MISMATCH multiframe (R109). -/
def TagCheck.mismatched (t : TagCheck) : TagCheck :=
  let n := min Config.mismatchTop (t.mismatchRun + 1)
  ⟨false, false, 0, n, t.misroute || decide (n = Config.mismatchTop)⟩

/-- The evaluation of a multiframe by what the read found, as the trunk stood at it; an anchoring made by this very read does not
keep it from being evaluated (R109, log 30). -/
def TagCheck.evaluate (t : TagCheck) (expected : Tag) (res : ReadResult) : TagCheck :=
  let cleared := { t with read := false, mismatch := false }
  match res with
  | .off | .held => cleared
  | _ =>
    if expected = 0 then t.matched
    else if t.mismatch then t.mismatched
    else if t.read then t.matched
    else cleared

/-- Collect, and at the read of 247 evaluate (R109). -/
def TagCheck.atRead (t : TagCheck) (expected : Tag) (mine last : Bool) (res : ReadResult) : TagCheck :=
  let t1 := t.collect expected mine res
  if last then t1.evaluate expected res else t1

/-- The frame that a copy is valid with (R112). -/
def validFrame (c : CopyStatus) (res : ReadResult) : Option DFrame :=
  match c, res with
  | .good, .present f => some f
  | _, _ => none

/-- A path as a selection. -/
def pathSel : Trunk → PathSel
  | .a => .a
  | .b => .b

/-- A selection as a path. -/
def PathSel.trunk : PathSel → Option Trunk
  | .a => some .a
  | .b => some .b
  | _ => Option.none

/-- A first selection, or one out of NONE (R113). -/
def freshSelect (prefer : Trunk) (valid : Trunk → Bool) : PathSel :=
  if valid prefer then pathSel prefer
  else if valid (otherTrunk prefer) then pathSel (otherTrunk prefer)
  else .none

/-- The selection of one read (R113, R114). -/
def selectPath (f : Fields) (before : PathSel) (valid : Trunk → Bool) : PathSel :=
  match f.policy with
  | .forceA => .a
  | .forceB => .b
  | .lock =>
    match before.trunk with
    | some _ => before
    | none => freshSelect f.prefer valid
  | .auto =>
    match before.trunk with
    | some k => if valid k then before else if valid (otherTrunk k) then pathSel (otherTrunk k) else .none
    | none => freshSelect f.prefer valid

/-- The frame of the selected copy, when it is valid (R112). -/
def Record.trunkFrame (r : Record) (res : Pair ReadResult) : Option DFrame :=
  r.selected.trunk.bind fun k => validFrame (r.copy.get k) (res.get k)

/-- Write the selection, with the switch count and the last path (R115). -/
def Record.withPath (r : Record) (sel : PathSel) : Record :=
  match sel.trunk with
  | none => { r with selected := sel }
  | some k =>
    { r with
      selected := sel, lastPath := some k
      switches := if r.lastPath = some (otherTrunk k) then bump r.switches else r.switches }

/-- The far-end status at this read (R117). -/
def Record.farReceipt (r : Record) (turn : Bool) (res : Pair ReadResult) : Record :=
  if r.selected = .none then { r with far := .unknown, farCand := none }
  else match turn, r.trunkFrame res with
    | true, some f => if r.farCand = some f.status then { r with far := f.status } else { r with farCand := some f.status }
    | _, _ => r

/-- New misroutes of a tag check count one event each, as the marker goes on (R109). R8 counts each entry of a copy into MISROUTED;
where the two differ, at a marker kept or going on while the copy is DOWN, the model follows R109: its choice (log 32). -/
def misrouteCount (c : Counter) (old new : TagCheck) : Counter := if new.misroute && !old.misroute then bump c else c

/-- All of a read for one record with a trunk end (R104, R109 to R117). -/
def Record.readWork (r : Record) (pos : Nat) (usable : Pair Bool) (res : Pair ReadResult) : Record :=
  match r.trunkCells with
  | none => r
  | some cells =>
    let mine := cells.contains pos
    let last := pos == 247
    let ta := r.tag.a.atRead r.fields.expTag mine last res.a
    let tb := r.tag.b.atRead r.fields.expTag mine last res.b
    let r1 := { r with
      tag := ⟨ta, tb⟩
      misroutes := misrouteCount (misrouteCount r.misroutes r.tag.a ta) r.tag.b tb
      copy := ⟨copyStatus usable.a ta.misroute, copyStatus usable.b tb.misroute⟩ }
    let valid := fun k => (validFrame (r1.copy.get k) (res.get k)).isSome
    let r2 := r1.withPath (selectPath r.fields r.selected valid)
    r.refresh (r2.farReceipt (cells.head? == some pos) res)

/-! ### Received trunk signalling (R118) -/

/-- The nibble that this read brings for a cell, from its owner's selected copy (R84, R118). -/
def State.sigReceipt (s : State) (res : Pair ReadResult) (cell : Nat) : Option Nibble := do
  let e ← s.ct.activeMap.entry .trunk cell
  let f ← (s.record e.owner).trunkFrame res
  f.nibbles[cell % 4]?

/-- Whether the frame read at r carries the nibble of a cell (R84). -/
def sigTurn (r cell : Nat) : Bool := decide (4 * (r % 62) ≤ cell ∧ cell < 4 * (r % 62) + 4)

/-- The table after the receipts of this read (R118). -/
def State.receiveTrunkSig (s : State) (res : Pair ReadResult) : State :=
  let receive := fun (n : Nat) (e : SigEntry) =>
    if sigTurn s.ps.readPos n then ((s.sigReceipt res n).map e.receive).getD e else e
  { s with ps := { s.ps with sig := mapVec receive s.ps.sig } }

/-- The results of one read on both trunks, one event: a return to the window on Trunk B goes ahead of Trunk A's result, so
that no anchoring is made beside a trunk that the read makes usable; else Trunk A is taken first (R104 to R106, log 10). -/
def State.applyReads (s : State) (res : Pair ReadResult) : State :=
  if s.regainsWindow .b res.b then (s.applyRead .b res.b).applyRead .a res.a
  else (s.applyRead .a res.a).applyRead .b res.b

/-- The read of one station frame, but for the detectors that a far-end status blocks (R104; an anchoring at the read of 247 is
log 30). -/
def State.psRead (s : State) (res : Pair ReadResult) : State :=
  let pos := s.ps.readPos
  let s1 := s.applyReads res
  let usable : Pair Bool := ⟨s1.usable .a, s1.usable .b⟩
  let s2 := (s1.updateRecords fun _ r => r.readWork pos usable res).receiveTrunkSig res
  { s2 with ps := { s2.ps with readPos := (pos + 1) % Config.frames } }

end Sys2Proof.Machine
end

