-- ==== Sys2Proof/Machine/Tributary.lean ====
section
/-! DEFINITION. Tributary ports: configuration, receive alignment, alarms, signalling receive, transmit and status (03), with
their elastic stores (04, R79 to R83). -/

namespace Sys2Proof.Machine

/-! ### Events of a port -/

/-- The items whose change raises the TRIB flag are the same (R58). -/
def Trib.sameShown (p q : Trib) : Bool :=
  decide (p.rx.align = q.rx.align ∧ p.good = q.good ∧ p.rx.remote = q.rx.remote ∧ p.rx.mfAligned = q.rx.mfAligned)

/-- A port changes at one event: its flag is raised once (R58), and the STU meets its qualification (R70). -/
def State.changeTrib (s : State) (t : Idx8) (p : Trib) : State :=
  ((s.setTrib t p).raiseIf (!(s.trib t).sameShown p) t.val).stuReact

/-- An empty transmit store (R82, R83). -/
def Trib.emptyTx (p : Trib) : Trib := { p with txStore := .empty }

/-- Recentring: one unread frame, a copy of the bytes most recently delivered (R83). -/
def Trib.recentreTx (p : Trib) : Trib := { p with txStore := ⟨[p.delivered], none⟩ }

/-- The receive state after leaving ALIGNED or any search, toward `dest`, with `kept` bits to examine: remote alarm, its
runs and the signalling multiframe are discarded (R52, R54, R56, R59). -/
def TribRx.leave (rx : TribRx) (dest : Align) (kept : List Bool) : TribRx :=
  { rx with
    align := dest, kept := kept, part := [], odd := false, errorRun := 0, remote := false, setRun := 0, clearRun := 0
    mfAligned := false, mfWrong := 0 }

/-- AIS goes off and its window is discarded (R52, R55). -/
def TribRx.dropAis (rx : TribRx) : TribRx := { rx with ais := false, aisBits := 0, aisZeros := 0 }

/-- A departure from ALIGNED to SEARCH or NO_SIGNAL counts one loss (R65). -/
def Trib.countLoss (p : Trib) : Trib :=
  if p.rx.align = .aligned then { p with counters := { p.counters with losses := bump p.counters.losses } } else p

/-- The port enters NO_SIGNAL from SEARCH, CONFIRM or ALIGNED (R52, R79, R83). -/
def Trib.loseClock (p : Trib) : Trib :=
  { p.countLoss.emptyTx with rx := { (p.rx.leave .noSignal []).dropAis with absence := 0 }, store := .empty }

/-- The port leaves NO_SIGNAL for SEARCH (R52); its transmit store is recentred in LOOP timing (R83). -/
def Trib.findClock (p : Trib) : Trib :=
  let p1 := { p with rx := { (p.rx.leave .search []).dropAis with absence := 0 } }
  if p.cfg.loopTiming then p1.recentreTx else p1

/-- The judgement of the receive clock at a station frame (R52). -/
def Trib.judgeClock (p : Trib) (present : Bool) : Trib :=
  match p.rx.align with
  | .off => p
  | .noSignal => if present then p.findClock else p
  | _ =>
    if present then { p with rx := { p.rx with absence := 0 } }
    else if Config.absentFrames ≤ p.rx.absence + 1 then p.loseClock
    else { p with rx := { p.rx with absence := p.rx.absence + 1 } }

/-! ### TRIB CONFIG (R48 to R51) -/

/-- Enable off to on (R50). -/
def Trib.turnOn (p : Trib) : Trib :=
  { p with rx := { (p.rx.leave .noSignal []).dropAis with absence := 0 }, store := .empty, txStore := .empty, txCount := 0 }

/-- Enable on to off (R50). A frame left due stays due, and is sent as ones (R62, log 4). -/
def Trib.turnOff (p : Trib) : Trib :=
  { p with
    rx := { (p.rx.leave .off []).dropAis with absence := 0 }, store := .empty, txStore := .empty }

/-- A change of the signalling mode (R51, R60). -/
def Trib.clearSignalling (p : Trib) : Trib :=
  { p with sig := Vector.replicate 30 .clear, rx := { p.rx with mfAligned := false, mfWrong := 0 } }

/-- A change of the transmit timing (R51, R83). -/
def Trib.retime (p : Trib) : Trib :=
  if p.cfg.enable && p.cfg.loopTiming && decide (p.rx.align ≠ .noSignal) then p.recentreTx else p.emptyTx

/-- A taken TRIB CONFIG (R50, R51). -/
def Trib.configure (p : Trib) (c : TribConfig) : Trib :=
  let p1 := { p with cfg := c }
  let p2 := if c.signalling = p.cfg.signalling then p1 else p1.clearSignalling
  if c.enable && !p.cfg.enable then p2.turnOn
  else if p.cfg.enable && !c.enable then p2.turnOff
  else if c.loopTiming = p.cfg.loopTiming then p2
  else p2.retime

/-- TRIB CONFIG's checks and effect (R49). -/
def tribConfigBody (t : Byte) (c : Option TribConfig) (s : State) : Code × State :=
  match readUnit t.toNat, c with
  | some t, some c =>
    if !c.enable && !(s.ownersOn (.trib t)).isEmpty then (.inuse, s)
    else if c.signalling && !(s.trib t).cfg.signalling && (s.ct.activeMap.entry (.trib t) 16).isSome then (.inuse, s)
    else (.ok, s.changeTrib t ((s.trib t).configure c))
  | _, _ => (.range, s)

/-- TRIB CONFIG's eight parameters (R48). -/
def tribConfigShape (ps : List Byte) : Option (State → Code × State) :=
  match ps with
  | [t, en, sig, tim, auto, force, code, nib] => some (tribConfigBody t (readTribConfig en sig tim auto force code nib))
  | _ => none

/-- TRIB_CONFIG (R48 to R51). -/
def execTribConfig (ps : List Byte) (s : State) : Host.Outcome State Fault Refusal :=
  .next (transact ps false false (tribConfigShape ps) s)

/-- TRIB_STATUS (R66). -/
def execTribStatus (ps : List Byte) (s : State) : Host.Outcome State Fault Refusal :=
  .next (transact ps true true
    (oneParam ps fun b => ranged (readUnit b.toNat) fun t => answering fun s => s.tribResponse t) s)

/-! ### AIS (R55) -/

/-- One received bit in the AIS window. -/
def TribRx.aisBit (rx : TribRx) (b : Bool) : TribRx :=
  let zeros := if b then rx.aisZeros else rx.aisZeros + 1
  if Config.aisWindow ≤ rx.aisBits + 1 then { rx with ais := decide (zeros < Config.aisZeros), aisBits := 0, aisZeros := 0 }
  else { rx with aisBits := rx.aisBits + 1, aisZeros := zeros }

/-- The bits of an event pass the AIS windows before the alignment work takes them (log 26). -/
def TribRx.aisFeed (rx : TribRx) (bits : List Bool) : TribRx := bits.foldl TribRx.aisBit rx

/-! ### Search and confirmation (R53) -/

/-- The low seven bits of the alignment word (R46). -/
def tribWord : List Bool := [false, false, true, true, false, true, true]

/-- The first place, counted from the first bit, at which the pattern stands. -/
def findPattern (pat : List Bool) : Nat → List Bool → Option Nat
  | _, [] => none
  | n, b :: bs => if pat.isPrefixOf (b :: bs) then some n else findPattern pat (n + 1) bs

/-- The first candidate in the bits examined (R53). -/
def tribCandidate (bits : List Bool) : Option Nat := findPattern tribWord 0 bits

/-- A candidate is found at the last bit delivered, or among bits examined again (R53, log 7). -/
def tribFound (kept bits : List Bool) : Option Nat :=
  (tribCandidate (kept ++ bits)).filter fun i => bits.isEmpty || i + 7 == (kept ++ bits).length

/-- The marker of the frame after the candidate, in the bits kept from one position after the candidate (R53). -/
def confirmMarker (all : List Bool) : Bool := all.getD 255 false

/-- The alignment word of the frame after that. -/
def confirmWord (all : List Bool) : Bool := (all.drop 511).take 7 == tribWord

/-- Both checks have passed at the last bit (R53). -/
def confirmSucceeds (all : List Bool) : Bool := all.length == 518 && confirmMarker all && confirmWord all

/-- A check fails at the last bit delivered, or among bits examined again (R53). -/
def confirmFails (kept bits : List Bool) : Bool :=
  let all := kept ++ bits
  (decide (256 ≤ all.length) && !confirmMarker all && (bits.isEmpty || all.length == 256)) ||
    (all.length == 518 && confirmMarker all && !confirmWord all)

/-- The bits after which nothing has been decided in SEARCH or CONFIRM. -/
def undecided (al : Align) (kept bits : List Bool) : Bool :=
  let all := kept ++ bits
  match al with
  | .search => (tribCandidate all).isNone
  | .confirm => decide (all.length < 256) || (confirmMarker all && decide (all.length < 518))
  | _ => false

/-- The receive store centred: one unread frame of 0xFF (R79). -/
def centredStore : Elastic Byte := ⟨[onesFrame 32], none⟩

/-- The entry into ALIGNED: the eight bits of the second word's slot 0 begin the frame in reception (R53, R56, R79). -/
def Trib.enterAligned (p : Trib) (all : List Bool) : Trib :=
  { p with
    rx := { p.rx.leave .aligned [] with part := all.drop 510 }
    store := centredStore }

/-! ### Frames received in ALIGNED (R54, R56, R59, R60, R79, R80) -/

/-- Slot 0 of an even frame is an errored word (R54). -/
def wordErrored (slot0 : Byte) : Bool := slot0 &&& 0x7F != 0x1B

/-- The check of slot 0 in an even frame, but for the third error in a row (R54). -/
def Trib.checkWord (p : Trib) (slot0 : Byte) : Trib :=
  if wordErrored slot0 then
    { p with
      rx := { p.rx with errorRun := p.rx.errorRun + 1 }
      counters := { p.counters with alignErrors := bump p.counters.alignErrors } }
  else { p with rx := { p.rx with errorRun := 0 } }

/-- The remote-alarm bit of an odd frame (R56). -/
def TribRx.remoteBit (rx : TribRx) (b : Bool) : TribRx :=
  match rx.remote, b with
  | false, true => { rx with setRun := rx.setRun + 1, clearRun := 0, remote := decide (Config.remoteAlarmRun ≤ rx.setRun + 1) }
  | false, false => { rx with setRun := 0 }
  | true, false =>
    { rx with clearRun := rx.clearRun + 1, setRun := 0, remote := decide (rx.clearRun + 1 < Config.remoteAlarmRun) }
  | true, true => { rx with clearRun := 0 }

/-- The table position of a slot with signalling (R60, R64): slots 1 to 15, then 17 to 31. -/
def sigPos (slot : Nat) : Nat := if slot < 16 then slot - 1 else slot - 2

/-- Two receipts of a frame numbered k (R60). -/
def receiveSignalling (sig : Vector SigEntry 30) (k : Nat) (slot16 : Byte) : Vector SigEntry 30 :=
  mapVec (fun n e =>
    if n = sigPos k then e.receive (upper slot16) else if n = sigPos (k + 16) then e.receive (lower slot16) else e) sig

/-- Every candidate cleared, on entry into MF_ALIGNED (R60). -/
def clearCandidates (sig : Vector SigEntry 30) : Vector SigEntry 30 := mapVec (fun _ e => { e with cand := none }) sig

/-- Slot 16 of a received frame, with signalling mode on (R59, R60). -/
def Trib.slot16 (p : Trib) (b : Byte) : Trib :=
  if !p.cfg.signalling then p
  else if !p.rx.mfAligned then
    if upper b = 0 then
      { p with rx := { p.rx with mfAligned := true, mfNext := 1, mfWrong := 0 }, sig := clearCandidates p.sig }
    else p
  else if p.rx.mfNext = 0 then
    if upper b = 0 then { p with rx := { p.rx with mfNext := 1, mfWrong := 0 } }
    else if 1 ≤ p.rx.mfWrong then { p with rx := { p.rx with mfAligned := false, mfWrong := 0 } }
    else { p with rx := { p.rx with mfNext := 1, mfWrong := p.rx.mfWrong + 1 } }
  else
    { p with rx := { p.rx with mfNext := (p.rx.mfNext + 1) % 16 }, sig := receiveSignalling p.sig p.rx.mfNext b }

/-- A frame completes while the fill is 2 (R80). -/
def Trib.deletes (p : Trib) : Bool := decide (Config.elasticFrames ≤ p.store.unread.length)

/-- Write a completed frame into the receive store (R79, R80). -/
def Trib.writeFrame (p : Trib) (frame : List Byte) : Trib :=
  if p.deletes then
    { p with
      store := { p.store with unread := p.store.unread.drop 1 ++ [frame] }
      counters := { p.counters with deleteSlips := bump p.counters.deleteSlips } }
  else { p with store := { p.store with unread := p.store.unread ++ [frame] } }

/-- The third errored word in a row (R54). -/
def Trib.thirdError (p : Trib) (slot0 : Byte) : Bool :=
  !p.rx.odd && wordErrored slot0 && decide (Config.tribErroredWords ≤ p.rx.errorRun + 1)

/-- The departure from ALIGNED at the third errored word; the search takes the bits after slot 0 (R54, R79). -/
def Trib.loseAlignment (p : Trib) (rest : List Bool) : Trib :=
  { p.countLoss with
    counters := { p.countLoss.counters with alignErrors := bump p.counters.alignErrors }
    rx := p.rx.leave .search rest
    store := .empty }

/-- A whole line frame received in ALIGNED (R54, R56, R59, R79). -/
def Trib.receiveFrame (p : Trib) (bits : List Bool) : Trib :=
  let slot0 := byteAt bits 0
  if p.thirdError slot0 then p.loseAlignment (bits.drop 8)
  else
    let p1 := if p.rx.odd then { p with rx := p.rx.remoteBit (slot0.getLsbD 5) } else p.checkWord slot0
    let p2 := (p1.slot16 (byteAt bits 16)).writeFrame (bytesOf bits 32)
    { p2 with rx := { p2.rx with odd := !p.rx.odd, part := [] } }

/-! ### The events -/

/-- The port with the event's bits passed through its AIS windows (R55). -/
def Trib.feed (p : Trib) (bits : List Bool) : Trib := { p with rx := p.rx.aisFeed bits }

/-- A line frame is complete with these bits, in ALIGNED (R79). -/
def Trib.frameDue (p : Trib) (bits : List Bool) : Bool :=
  decide (p.rx.align = .aligned) && (p.rx.part ++ bits).length == 256

/-- A completed frame at the state: the port's work, then the slip notice of a delete slip (R80, R81). -/
def State.frameReceived (s : State) (t : Idx8) (bits : List Bool) : State :=
  let p := s.trib t
  let frame := p.rx.part ++ bits
  let s1 := s.changeTrib t ((p.feed bits).receiveFrame frame)
  if !p.thirdError (byteAt frame 0) && p.deletes then s1.slipNotice (.trib t) else s1

/-- What the port would be after the frame. -/
def Trib.afterFrame (p : Trib) (bits : List Bool) : Trib := p.receiveFrame (p.rx.part ++ bits)

/-- TRIB_CLOCK_LOSS (R52). -/
def execTribClockLoss (t : Idx8) (s : State) : Host.Outcome State Fault Refusal :=
  let p := s.trib t
  let running := decide (p.rx.align = .search ∨ p.rx.align = .confirm ∨ p.rx.align = .aligned)
  .next (if !s.inReset && running && decide (p.rx.absence + 1 = Config.absentFrames) then s.changeTrib t p.loseClock else s)

/-- TRIB_CANDIDATE_FOUND (R53). -/
def execTribCandidateFound (t : Idx8) (bits : List Bool) (s : State) : Host.Outcome State Fault Refusal :=
  let p := s.trib t
  .next (match tribFound p.rx.kept bits with
    | some i =>
      if !s.inReset && decide (p.rx.align = .search) then
        let q := p.feed bits
        s.changeTrib t { q with rx := { q.rx with align := .confirm, kept := (p.rx.kept ++ bits).drop (i + 1) } }
      else s
    | none => s)

/-- TRIB_ALIGNMENT_CONFIRMED (R53). -/
def execTribAlignmentConfirmed (t : Idx8) (bits : List Bool) (s : State) : Host.Outcome State Fault Refusal :=
  let p := s.trib t
  let all := p.rx.kept ++ bits
  .next (if !s.inReset && decide (p.rx.align = .confirm) && confirmSucceeds all then
    s.changeTrib t ((p.feed bits).enterAligned all) else s)

/-- TRIB_CONFIRMATION_FAILED (R53). -/
def execTribConfirmationFailed (t : Idx8) (bits : List Bool) (s : State) : Host.Outcome State Fault Refusal :=
  let p := s.trib t
  .next (if !s.inReset && decide (p.rx.align = .confirm) && confirmFails p.rx.kept bits then
      let q := p.feed bits
      s.changeTrib t { q with rx := { q.rx with align := .search, kept := p.rx.kept ++ bits } }
    else s)

/-- TRIB_FRAME_RECEIVED (R54). -/
def execTribFrameReceived (t : Idx8) (bits : List Bool) (s : State) : Host.Outcome State Fault Refusal :=
  .next (if !s.inReset && (s.trib t).frameDue bits then s.frameReceived t bits else s)

/-- TRIB_REMOTE_ALARM_CHANGE: a frame whose remote-alarm bit turns the indicator (R56). -/
def execTribRemoteAlarmChange (t : Idx8) (bits : List Bool) (s : State) : Host.Outcome State Fault Refusal :=
  let p := s.trib t
  let turns := p.rx.odd && decide ((p.afterFrame bits).rx.remote ≠ p.rx.remote)
  .next (if !s.inReset && p.frameDue bits && turns then s.frameReceived t bits else s)

/-- MF_ALIGNMENT_LOSS: a frame that brings the second wrong marker in a row (R59). -/
def execMfAlignmentLoss (t : Idx8) (bits : List Bool) (s : State) : Host.Outcome State Fault Refusal :=
  let p := s.trib t
  let q := p.afterFrame bits
  let lost := p.rx.mfAligned && !q.rx.mfAligned && decide (q.rx.align = .aligned)
  .next (if !s.inReset && p.frameDue bits && lost then s.frameReceived t bits else s)

/-- TRIB_ALIGNMENT_LOSS: slot 0 of an even frame is the third errored word in a row (R54). -/
def execTribAlignmentLoss (t : Idx8) (bits : List Bool) (s : State) : Host.Outcome State Fault Refusal :=
  let p := s.trib t
  let all := p.rx.part ++ bits
  .next (if !s.inReset && decide (p.rx.align = .aligned) && all.length == 8 && p.thirdError (byteAt all 0) then
    s.changeTrib t ((p.feed bits).loseAlignment []) else s)

/-- The bits of an AIS window's end, kept where the alignment work left them; in SEARCH only the last six bits can still
begin a candidate (R53, R55). -/
def Trib.keepBits (p : Trib) (bits : List Bool) : Trib :=
  let all := p.rx.kept ++ bits
  match p.rx.align with
  | .aligned => { p with rx := { p.rx with part := p.rx.part ++ bits } }
  | .search => { p with rx := { p.rx with kept := all.drop (all.length - 6) } }
  | _ => { p with rx := { p.rx with kept := all } }

/-- Nothing but the window's end happens in these bits. -/
def Trib.quiet (p : Trib) (bits : List Bool) : Bool :=
  match p.rx.align with
  | .aligned =>
    let all := p.rx.part ++ bits
    decide (all.length < 256) && !(decide (8 ≤ all.length) && p.thirdError (byteAt all 0))
  | al => undecided al p.rx.kept bits

/-- AIS_WINDOW_END (R55): the bits that end the window in progress, where no other event falls. -/
def execAisWindowEnd (t : Idx8) (bits : List Bool) (s : State) : Host.Outcome State Fault Refusal :=
  let p := s.trib t
  .next (if !s.inReset && p.rx.aisBits + bits.length == Config.aisWindow && p.quiet bits then
    s.changeTrib t ((p.feed bits).keepBits bits) else s)

/-! ### Transmit (R62 to R64, R82) -/

/-- Slot 0 of a transmit frame (R46, R63). -/
def Trib.slot0Sent (p : Trib) : Byte := if p.txCount.getLsbD 0 then (if p.remoteSent then 0xFF else 0xDF) else 0x9B

/-- The nibble of a position as it is sent: a position that carries no circuit's nibble reads the vacant nibble now (R51, R64,
R131). -/
def Trib.sigSent (p : Trib) (n : Nat) : Nibble := ((p.txSig[n]?).join).getD p.cfg.vacantNibble

/-- Slot 16 of a transmit frame with signalling on (R47, R64). -/
def Trib.slot16Sent (p : Trib) : Byte :=
  let k := p.txCount.toNat
  let nib := p.sigSent
  if k = 0 then 0x0F else joinNibbles (nib (sigPos k)) (nib (sigPos (k + 16)))

/-- A line frame made of the traffic slots given (R62, R64). -/
def Trib.lineFrame (p : Trib) (slots : List (Option Byte)) : List Byte :=
  mapFrom (fun n b =>
    if n = 0 then p.slot0Sent
    else if n = 16 && p.cfg.signalling then p.slot16Sent
    else b.getD p.cfg.vacantCode) 0 slots

/-- The traffic slots of the next transmit frame, and the port after they are taken (R82). -/
def Trib.readTx (p : Trib) : List (Option Byte) × Trib :=
  if p.usesTxStore then
    match p.txStore.unread with
    | f :: rest => (f, { p with txStore := ⟨rest, some f⟩ })
    | [] => (p.txStore.last.getD p.delivered,
        { p with counters := { p.counters with txSlips := bump p.counters.txSlips } })
  else (p.delivered, p)

/-- Send one transmit frame (R62): a disabled port sends ones. -/
def Trib.transmit (p : Trib) : Trib :=
  if p.cfg.enable then
    let v := p.readTx
    { v.2 with
      lineOut := p.lineFrame v.1, txCount := p.txCount + 1, txDue := false
      lineRemote := if p.txCount.getLsbD 0 then p.remoteSent else p.lineRemote }
  else { p with lineOut := onesFrame 32, txDue := false, lineRemote := true }

/-- The station frame write of the transmit store (R82). -/
def Trib.writeTx (p : Trib) : Trib :=
  if p.usesTxStore then
    if Config.elasticFrames ≤ p.txStore.unread.length then
      { p with
        txStore := { p.txStore with unread := p.txStore.unread.drop 1 ++ [p.delivered] }
        counters := { p.counters with txSlips := bump p.counters.txSlips } }
    else { p with txStore := { p.txStore with unread := p.txStore.unread ++ [p.delivered] } }
  else p

/-- TRIB_TRANSMIT_FRAME (R62, R82): paced by the receive clock in LOOP timing; a station-paced frame is sent by this
command only when STATION_FRAME left it due (log 4). -/
def execTribTransmitFrame (t : Idx8) (s : State) : Host.Outcome State Fault Refusal :=
  let p := s.trib t
  .next (if !s.inReset && (p.usesTxStore || p.txDue) then s.setTrib t p.transmit else s)

end Sys2Proof.Machine
end

