-- ==== Sys2Proof/Machine/TrunkPorts.lean ====
section
/-! DEFINITION. The trunk ports: configuration, receive alignment, the far end's overhead, hand-over, and status (05). -/

namespace Sys2Proof.Machine

/-- The receive state after leaving any enabled state or search, toward `dest`: a frame in reception, the runs and the
expected number are discarded (R93 to R96). -/
def TrunkPort.leave (p : TrunkPort) (dest : Align) (kept : List Bool) : TrunkPort :=
  { p with align := dest, kept := kept, cand := 0, expected := 0, errorRun := 0, seqRun := 0, inRx := none }

/-- A trunk port changes; if it leaves ALIGNED, the path selector meets it, and may anchor on the other trunk (R105,
R106). -/
def State.changePort (s : State) (k : Trunk) (p : TrunkPort) : State :=
  let left := decide ((s.port k).align = .aligned ∧ p.align ≠ .aligned)
  let s1 := s.setPort k p
  (if left then (s1.deskewLeave k).reanchor else s1).trunkSettle s

/-! ### TRUNK CONFIG (R91 to R93) -/

/-- A port under a new enable (R93). -/
def TrunkPort.configure (p : TrunkPort) (enable : Bool) : TrunkPort :=
  if enable && !p.enable then { p.leave .noSignal [] with enable := true, absence := 0 }
  else if p.enable && !enable then { p.leave .off [] with enable := false, absence := 0 }
  else p

/-- TRUNK CONFIG's effect on both ports, one event (R92, R93, R105, R106). -/
def State.configureTrunks (s : State) (ea eb : Bool) (skew : Nat) (code : Byte) : State :=
  let pa := (s.port .a).configure ea
  let pb := (s.port .b).configure eb
  let leaves := fun (k : Trunk) (p : TrunkPort) => decide ((s.port k).align = .aligned ∧ p.align ≠ .aligned)
  let s1 := { s with trunks := ⟨⟨pa, pb⟩, skew, code⟩ }
  let s2 := if leaves .a pa then s1.deskewLeave .a else s1
  let s3 := if leaves .b pb then s2.deskewLeave .b else s2
  (if leaves .a pa || leaves .b pb then s3.reanchor else s3).trunkSettle s

/-- TRUNK CONFIG's check (R92). -/
def trunkConfigBody (ea eb skew code : Byte) (s : State) : Code × State :=
  match readFlag ea.toNat, readFlag eb.toNat with
  | some a, some b => if 24 < skew.toNat then (.range, s) else (.ok, s.configureTrunks a b skew.toNat code)
  | _, _ => (.range, s)

/-- TRUNK_CONFIG (R91 to R93). -/
def execTrunkConfig (ps : List Byte) (s : State) : Host.Outcome State Fault Refusal :=
  .next (transact ps false false (fourParams ps trunkConfigBody) s)

/-- TRUNK_STATUS (R101). -/
def execTrunkStatus (ps : List Byte) (s : State) : Host.Outcome State Fault Refusal :=
  .next (transact ps true true
    (oneParam ps fun b => ranged (readTrunk b.toNat) fun k => answering fun s => s.trunkResponse k) s)

/-! ### Clock (R94) -/

/-- The judgement of the receive clock at a station frame (R94). -/
def TrunkPort.judgeClock (p : TrunkPort) (present : Bool) : TrunkPort :=
  if !p.enable then p
  else
    let p1 := { p with clock := present }
    match p.align with
    | .off => p1
    | .noSignal => if present then { p1.leave .search [] with absence := 0 } else p1
    | _ =>
      if present then { p1 with absence := 0 }
      else if Config.absentFrames ≤ p.absence + 1 then { p1.leave .noSignal [] with absence := 0 }
      else { p1 with absence := p.absence + 1 }

/-- TRUNK_CLOCK_LOSS (R94). -/
def execTrunkClockLoss (k : Trunk) (s : State) : Host.Outcome State Fault Refusal :=
  let p := s.port k
  let running := p.enable && decide (p.align = .search ∨ p.align = .confirm ∨ p.align = .aligned)
  .next (if !s.inReset && running && decide (p.absence + 1 = Config.absentFrames) then
    s.changePort k (p.judgeClock false) else s)

/-! ### Search and confirmation (R95) -/

/-- The alignment word (R84). -/
def trunkWord : Byte := 0x6C

/-- The first candidate: 0x6C with a valid sequence number after it; a candidate with 248 to 255 is passed over (R95). -/
def trunkCandidate : Nat → List Bool → Option (Nat × Nat)
  | _, [] => none
  | n, b :: bs =>
    let all := b :: bs
    let q := (byteAt all 1).toNat
    if decide (16 ≤ all.length) && byteAt all 0 == trunkWord && decide (q < Config.frames) then some (n, q)
    else trunkCandidate (n + 1) bs

/-- A candidate is found at the last bit delivered, or among bits examined again (R95, log 7). -/
def trunkFound (kept bits : List Bool) : Option (Nat × Nat) :=
  (trunkCandidate 0 (kept ++ bits)).filter fun c => bits.isEmpty || c.1 + 16 == (kept ++ bits).length

/-- The six checks of a confirmation in their order, each with the count of bits, from one position after the candidate,
that completes it (R95). -/
def confirmChecks (q : Nat) (all : List Bool) : List (Nat × Bool) :=
  [1, 2, 3].flatMap fun k =>
    let frame := all.drop (2048 * k - 1)
    [(2048 * k + 7, byteAt frame 0 == trunkWord),
      (2048 * k + 15, (byteAt frame 1).toNat == (q + k) % Config.frames)]

/-- All six have passed at the last bit. -/
def trunkConfirmed (q : Nat) (all : List Bool) : Bool := all.length == 6159 && (confirmChecks q all).all fun c => c.2

/-- The first check to fail completes at the last bit delivered, or among bits examined again (R95). -/
def trunkConfirmFails (q : Nat) (kept bits : List Bool) : Bool :=
  let all := kept ++ bits
  match (confirmChecks q all).find? fun c => !c.2 with
  | some (n, _) => decide (n ≤ all.length) && (bits.isEmpty || n == all.length)
  | none => false

/-- TRUNK_CANDIDATE_FOUND (R95). -/
def execTrunkCandidateFound (k : Trunk) (bits : List Bool) (s : State) : Host.Outcome State Fault Refusal :=
  let p := s.port k
  .next (match trunkFound p.kept bits with
    | some (i, q) =>
      if !s.inReset && decide (p.align = .search) then
        s.changePort k { p with align := .confirm, cand := q, kept := (p.kept ++ bits).drop (i + 1) }
      else s
    | none => s)

/-- TRUNK_CONFIRMATION_FAILED (R95). -/
def execTrunkConfirmationFailed (k : Trunk) (bits : List Bool) (s : State) : Host.Outcome State Fault Refusal :=
  let p := s.port k
  .next (if !s.inReset && decide (p.align = .confirm) && trunkConfirmFails p.cand p.kept bits then
    s.changePort k { p with align := .search, cand := 0, kept := p.kept ++ bits } else s)

/-! ### Overhead of the far end (R98) -/

/-- The clock state codes (R84). -/
def decodeClock (b : Byte) : StuState :=
  match b.toNat % 4 with
  | 0 => .freeRun
  | 1 => .acquiring
  | 2 => .locked
  | _ => .holdover

/-- Record the far end's epoch, clock state and RDI (R98). -/
def TrunkPort.recordFar (p : TrunkPort) (header : List Byte) : TrunkPort :=
  { p with
    farEpoch := header.getD 6 0, farClock := decodeClock (header.getD 7 0), farRdi := (header.getD 7 0).getLsbD 7 }

/-- TRUNK_ALIGNMENT_CONFIRMED (R95): the third frame is the first judged in ALIGNED, and its overhead is recorded; the
event brings its positions 2 to 7 (log 8). -/
def execTrunkAlignmentConfirmed (k : Trunk) (bits : List Bool) (overhead : List Byte) (s : State) :
    Host.Outcome State Fault Refusal :=
  let p := s.port k
  let seq := (p.cand + 3) % Config.frames
  let header := [trunkWord, BitVec.ofNat 8 seq] ++ overhead
  let due := decide (p.align = .confirm) && trunkConfirmed p.cand (p.kept ++ bits) && overhead.length == 6
  .next (if !s.inReset && due then
      let q := { p.leave .aligned [] with inRx := some (seq, header), expected := (p.cand + 4) % Config.frames }
      let s1 := s.setPort k (q.recordFar header)
      (s1.deskewEnter k).trunkSettle s
    else s)

/-! ### Frames judged in ALIGNED (R96) -/

/-- The runs and the counters after the two checks (R96). -/
def TrunkPort.check (p : TrunkPort) (word seq : Byte) : TrunkPort :=
  let w := word == trunkWord
  let q := seq.toNat == p.expected
  { p with
    errorRun := if w then 0 else p.errorRun + 1
    alignErrors := if w then p.alignErrors else bump p.alignErrors
    seqRun := if q then 0 else p.seqRun + 1
    seqErrors := if q then p.seqErrors else bump p.seqErrors }

/-- The runs take the trunk out of ALIGNED (R96). -/
def TrunkPort.departs (p : TrunkPort) : Bool :=
  decide (Config.trunkErroredWords ≤ p.errorRun ∨ Config.trunkSequenceErrors ≤ p.seqRun)

/-- A frame that stays ALIGNED is numbered e, and recorded if it passes both checks (R96, R98). -/
def TrunkPort.stay (p : TrunkPort) (header : List Byte) : TrunkPort :=
  let q := { p with inRx := some (p.expected, header), expected := (p.expected + 1) % Config.frames }
  if p.errorRun = 0 ∧ p.seqRun = 0 then q.recordFar header else q

/-- The port after its judgement of a frame (R96). -/
def TrunkPort.judge (p : TrunkPort) (header : List Byte) : TrunkPort :=
  let c := p.check (header.getD 0 0) (header.getD 1 0)
  if c.departs then c.leave .search ((header.drop 2).flatMap bitsOfByte) else c.stay header

/-- A frame can be judged: ALIGNED, with no frame in reception. -/
def State.judgeDue (s : State) (k : Trunk) : Bool :=
  !s.inReset && decide ((s.port k).align = .aligned) && (s.port k).inRx.isNone

/-- TRUNK_FRAME_JUDGED (R96, R98): the event brings positions 0 to 7 (log 8). -/
def execTrunkFrameJudged (k : Trunk) (header : List Byte) (s : State) : Host.Outcome State Fault Refusal :=
  .next (if s.judgeDue k && header.length == 8 then s.changePort k ((s.port k).judge header) else s)

/-- TRUNK_ALIGNMENT_LOSS (R96): positions 0 and 1 of the frame that takes the trunk out of ALIGNED. -/
def execTrunkAlignmentLoss (k : Trunk) (word seq : Byte) (s : State) : Host.Outcome State Fault Refusal :=
  .next (if s.judgeDue k && ((s.port k).check word seq).departs then s.changePort k ((s.port k).judge [word, seq]) else s)

/-! ### Hand-over (R97) -/

/-- A frame in reception is complete and joins the deskew store. -/
def State.handOn (s : State) (k : Trunk) (seq : Nat) (header payload : List Byte) (beforeRead : Bool) : State :=
  (s.setPort k { s.port k with inRx := none }).arrive k (makeFrame seq header payload) beforeRead

/-- TRUNK_FRAME_HANDED_ON (R97, R103). -/
def execTrunkFrameHandedOn (k : Trunk) (payload : List Byte) (beforeRead : Bool) (s : State) :
    Host.Outcome State Fault Refusal :=
  .next (match (s.port k).inRx with
    | some (seq, header) =>
      if !s.inReset && payload.length == 248 then s.handOn k seq header payload beforeRead else s
    | none => s)

/-- ANCHOR_FRAME_ARRIVAL (R106, step 2): the arrival that ends the wait of an anchor hold. -/
def execAnchorFrameArrival (k : Trunk) (payload : List Byte) (beforeRead : Bool) (s : State) :
    Host.Outcome State Fault Refusal :=
  .next (match (s.port k).inRx with
    | some (seq, header) =>
      if !s.inReset && payload.length == 248 && decide ((s.deskew k).hold = .awaiting) then
        s.handOn k seq header payload beforeRead
      else s
    | none => s)

/-! ### Transmit (R85 to R90) -/

/-- The end-status codes (R84). -/
def endStatusVacant : Nibble := 0xF

/-- The received remote alarm of a tributary end's port. -/
def State.remoteAt (s : State) : Option Port → Bool
  | some (.trib t) => (s.trib t).rx.remote
  | _ => false

/-- The transmitted end-status of a record whose trunk end is `e` (R88). -/
def State.endStatus (s : State) (r : Record) (e : Side) : Nibble :=
  if r.state = .suspended ∨ r.state = .retiring then 3
  else if r.fields.loopback ≠ .none ∨ r.fields.inject ≠ .none then 4
  else if r.failed.get e then 1
  else if s.remoteAt (r.portOf (otherSide e)) then 2
  else 0

/-- Tag and end-status of the tag channel for a cell (R87). -/
def State.tagChannel (s : State) (cell : Nat) : Tag × Nibble :=
  match s.ct.activeMap.entry .trunk cell with
  | none => (0, endStatusVacant)
  | some e => ((s.record e.owner).fields.txTag, s.endStatus (s.record e.owner) e.side)

/-- Position 7 of a transmitted frame (R90, 12.7). -/
def State.statusOctet (s : State) (rdi : Bool) : Byte := byte (128 * rdi.toNat + s.stu.state.code)

/-- The eight overhead positions of the frame sent with sequence number n; `nib` gives the nibble of a cell (R84 to R90). -/
def State.overhead (s : State) (n : Nat) (nib : Nat → Nibble) (rdi : Bool) : List Byte :=
  let tc := s.tagChannel n
  let c := 4 * (n % 62)
  [trunkWord, byte n, tc.1.extractLsb' 4 8, joinNibbles (tc.1.extractLsb' 0 4) tc.2,
    joinNibbles (nib c) (nib (c + 1)), joinNibbles (nib (c + 2)) (nib (c + 3)), s.epochLow, s.statusOctet rdi]

/-- The frame that a trunk sends in a station frame (R85, R86). -/
def State.trunkFrameSent (s : State) (k : Trunk) (nib : Nat → Nibble) (payload : List (Option Byte)) : List Byte :=
  if (s.port k).enable then
    s.overhead s.stu.count nib (s.port k).rdiSent ++ payload.map fun b => b.getD s.trunks.vacantCode
  else onesFrame 256

end Sys2Proof.Machine
end

