-- ==== Sys2Proof/Machine/CrossConnect.lean ====
section
/-! DEFINITION. The cross-connect engine: source states, the byte chain, the signalling chain, and the filling of the
destinations of one station frame (07, R120 to R134). -/

namespace Sys2Proof.Machine

/-! ### Receive stores (R79 to R81) -/

/-- A read that finds the store empty (R80). -/
def Trib.repeats (p : Trib) : Bool := decide (p.rx.align = .aligned) && p.store.unread.isEmpty

/-- The read of a station frame, while ALIGNED (R79, R80). The frame read stands in `last`. -/
def Trib.readStore (p : Trib) : Trib :=
  if p.rx.align ≠ .aligned then p
  else match p.store.unread with
    | f :: rest => { p with store := ⟨rest, some f⟩ }
    | [] => { p with counters := { p.counters with repeatSlips := bump p.counters.repeatSlips } }

/-- Read every receive store once (R121). -/
def State.readStores (s : State) : State := { s with tribs := mapVec (fun _ p => p.readStore) s.tribs }

/-- The ports whose read is a repeat slip. -/
def State.repeating (s : State) : List Idx8 := allUnits.filter fun t => (s.trib t).repeats

/-! ### Sources (R121, R122) -/

/-- The source state of a direction is FAILED (R122). -/
def State.sourceFailed (s : State) (res : Pair ReadResult) (r : Record) (dir : Side) : Bool :=
  match r.portOf (otherSide dir) with
  | some (.trib t) => !(s.trib t).good
  | some .trunk => (r.trunkFrame res).isNone
  | none => false

/-- Write both source states of every owned record (R123). -/
def State.writeSources (s : State) (res : Pair ReadResult) : State :=
  s.updateRecords fun _ r =>
    if r.inMap then r.refresh { r with failed := ⟨s.sourceFailed res r .x, s.sourceFailed res r .y⟩ } else r

/-- The byte received at position k of an end in this station frame; none where its receive has failed (R121, R126). -/
def State.receivedByte (s : State) (res : Pair ReadResult) (r : Record) (e : Side) (k : Nat) : Option Byte := do
  let d ← r.ends.get e
  let n ← d.list[k]?
  match d.port with
  | .trib t => if (s.trib t).good then (← (s.trib t).store.last)[n]? else none
  | .trunk => (← r.trunkFrame res).cells[n]?

/-! ### The byte chain (R124 to R129) -/

/-- Density treatment (R129). -/
def densityOf (d : Density) (b : Byte) : Byte :=
  if b ≠ 0 then b
  else match d with
    | .none => 0
    | .lowBit => 0x01
    | .substitute => 0x4C

/-- What the loopback does to a direction (R126): nothing, a return of the end's own bytes, or conditioning. -/
inductive LoopEffect where
  | through | returns | conditions
deriving DecidableEq, Repr

/-- R126. -/
def loopEffect (l : Loopback) (dir : Side) : LoopEffect :=
  match l, dir with
  | .none, _ => .through
  | .loopX, .x => .returns
  | .loopX, .y => .conditions
  | .loopY, .y => .returns
  | .loopY, .x => .conditions

/-- The test inject names this direction (R128). -/
def Inject.names (i : Inject) (dir : Side) : Bool :=
  match i, dir with
  | .towardX, .x => true
  | .towardY, .y => true
  | _, _ => false

/-- The byte chain over what it chooses from: the record, the keyer's byte, the received byte of the end itself and the
source byte (R124). -/
def chainByte (r : Record) (dir : Side) (key own source : Option Byte) : Byte :=
  let cond := r.fields.cond.get dir
  if r.state = .suspended ∨ r.state = .retiring then cond
  else match loopEffect r.fields.loopback dir with
    | .returns => own.getD cond
    | .conditions => cond
    | .through =>
      if r.failed.get dir then cond
      else match key with
        | some b => b
        | none =>
          if r.fields.inject.names dir then r.fields.testCode
          else (source.map (densityOf r.fields.density)).getD cond

/-- The output byte of the keyer bound to a record for a direction, if one is (R127). A keyer that has been unbound since it supplied
its byte, ahead of the station frame, sends nothing in it: the model's choice where R149 is silent (log 4). -/
def State.keyerByte (s : State) (id : RecId) (dir : Side) : Option Byte := do
  let k ← s.boundKeyer id
  if (s.keyer k).binding = some (id, dir) then (s.keyer k).last.byte else none

/-- The byte delivered at position k of a direction (R124). -/
def State.deliveredByte (s : State) (res : Pair ReadResult) (id : RecId) (dir : Side) (k : Nat) : Byte :=
  let r := s.record id
  chainByte r dir (s.keyerByte id dir) (s.receivedByte res r dir k) (s.receivedByte res r (otherSide dir) k)

/-- The chain lets the keyer's byte through (R127). -/
def Record.passesKeyer (r : Record) (dir : Side) : Bool :=
  decide (r.state = .active ∧ r.fields.loopback = .none) && !r.failed.get dir

/-! ### The signalling chain (R130, R131) -/

/-- The received nibble of a slot or cell; none where the port's signalling is unavailable (R61, R130). -/
def State.receivedNibble (s : State) (p : Port) (n : Nat) : Option Nibble :=
  match p with
  | .trib t => if (s.trib t).sigAvailable then ((s.trib t).sig[sigPos n]?).map SigEntry.nib else none
  | .trunk => (s.ps.sig[n]?).map SigEntry.nib

/-- The nibble delivered at position k of a direction of a VOICE or PROTECTION record (R130). -/
def State.deliveredNibble (s : State) (r : Record) (dir : Side) (k : Nat) : Nibble :=
  let received := do
    let d ← r.ends.get (otherSide dir)
    s.receivedNibble d.port (← d.list[k]?)
  if r.state = .suspended ∨ r.state = .retiring ∨ r.failed.get dir = true then r.fields.faultNib
  else match received with
    | none => r.fields.faultNib
    | some n => if r.fields.fixed.get dir then r.fields.nib.get dir else n

/-! ### Destinations (R120, R86, R89, R64) -/

/-- The byte delivered to a slot or cell; none where it is vacant. -/
def State.byteFor (s : State) (res : Pair ReadResult) (p : Port) (n : Nat) : Option Byte :=
  (s.ct.activeMap.entry p n).map fun e => s.deliveredByte res e.owner e.side e.pos

/-- The nibble for a slot or cell; none where it carries the vacant nibble of its port (R64, R89, R131). -/
def State.nibbleFor (s : State) (p : Port) (n : Nat) : Option Nibble :=
  match s.ct.activeMap.entry p n with
  | none => none
  | some e =>
    if (s.record e.owner).cls = .data then none else some <| s.deliveredNibble (s.record e.owner) e.side e.pos

/-- The slot of a position of a signalling table (R60). -/
def sigSlot (n : Nat) : Nat := if n < 15 then n + 1 else n + 2

/-- The bytes delivered toward a port, its transmit signalling table, and its transmit store's write (R64, R82, R120). -/
def State.fillTrib (s : State) (res : Pair ReadResult) (t : Idx8) (p : Trib) : Trib :=
  { p with
    delivered := (List.range 32).map (s.byteFor res (.trib t))
    txSig := mapVec (fun n _ => s.nibbleFor (.trib t) (sigSlot n)) p.txSig }.writeTx

/-- Whether the keyer's byte was delivered, for KEY STATUS (R154). -/
def State.markDelivered (s : State) (k : Keyer) : Keyer :=
  match k.binding with
  | none => k
  | some (id, dir) => { k with last := { k.last with delivered := (s.record id).passesKeyer dir } }

/-- The trunk frames of this station frame (R85). -/
def State.sendTrunks (s : State) (res : Pair ReadResult) : State :=
  let nib := fun n => (s.nibbleFor .trunk n).getD Config.trunkVacantNibble
  let payload := (List.range 248).map (s.byteFor res .trunk)
  let send := fun k => { s.port k with lineOut := s.trunkFrameSent k nib payload }
  { s with trunks := { s.trunks with port := ⟨send .a, send .b⟩ } }

/-- The engine's work of one station frame, the stores read and the keyers' bytes supplied (R120, R123, R133). -/
def State.xceWork (s : State) (res : Pair ReadResult) : State :=
  let s1 := s.writeSources res
  let s2 := { s1 with
    tribs := mapVec (fun n p => s1.fillTrib res (unitAt n) p) s1.tribs
    keyers := mapVec (fun _ k => s1.markDelivered k) s1.keyers }
  s2.sendTrunks res

end Sys2Proof.Machine
end

