-- ==== Sys2Proof/Machine/StationFrame.lean ====
section
/-! DEFINITION. The station frame and the station multiframe start (04, R68): the order of the work of one frame is log 6,
the marks of a multiframe start log 5, the marks of work left to commands of its own log 4. -/

namespace Sys2Proof.Machine

/-! ### The station multiframe start (R36, R42, R68) -/

/-- The count returns to 0 and the multiframe counts advance (R42, R68, R71 to R74). With no commit pending the start
passes with no flip (R36). -/
def State.multiframeStart (s : State) : State :=
  let s1 := s.stuStart.countdown
  { s1 with stu := { s1.stu with count := 0, started := true, begun := true } }.takeStart

/-- STATION_MULTIFRAME_START (R68), once at each boundary (log 5). -/
def execStationMultiframeStart (s : State) : Host.Outcome State Fault Refusal :=
  .next (if !s.inReset && s.atBoundary && !s.stu.begun then s.multiframeStart else s)

/-- The flip is due at the multiframe start at hand (R36). -/
def State.flipDue (s : State) : Bool := s.ct.commitPending && s.atBoundary && !s.stu.flipClosed

/-- MAP_FLIP (R38 to R40). -/
def execMapFlip (s : State) : Host.Outcome State Fault Refusal :=
  .next (if !s.inReset && s.flipDue then s.flip else s)

/-- RETIRE_HOLD_EXPIRY (R43): one record expires at the multiframe start at hand, ahead of the countdown of the others. -/
def execRetireHoldExpiry (id : RecId) (s : State) : Host.Outcome State Fault Refusal :=
  .next (if !s.inReset && s.atBoundary && !s.stu.begun && s.holdExpires id then s.expire id else s)

/-- The marks of the multiframe start are cleared as its first frame begins (log 5). -/
def Stu.unmark (u : Stu) : Stu := { u with begun := false, flipClosed := false, stuTaken := false, retiredNow := [] }

/-- A station frame begins: at a boundary, with what is left of the multiframe start; else the count advances (R68). -/
def State.newFrame (s : State) : State :=
  if s.atBoundary then
    let s1 := if s.stu.begun then s else s.multiframeStart
    let s2 := if s1.flipDue then s1.flip else s1
    { s2 with stu := s2.stu.unmark }
  else { s with stu := { s.stu with count := s.stu.count + 1 } }

/-! ### Work left over from the frame before (log 4) -/

/-- Detectors whose byte was left to a command take their frame event, and frames due are sent, before the next frame. A frame
due at a port that has been recentred meanwhile goes through the recentred store, as its next transmit frame (R83, log 4). -/
def State.flush (s : State) : State :=
  let s1 := s.updateDets fun n d => if d.handed.isSome then s.afterHanded n else d
  { s1 with tribs := mapVec (fun _ p => if p.txDue then p.transmit else p) s1.tribs }

/-! ### The units of a frame -/

/-- The keyers' frame events, but for those taken ahead of the frame (R152, log 4). -/
def State.keyerFrames (s : State) : State :=
  { s with keyers := mapVec (fun n k => if k.taken then { k with taken := false } else s.keyerAfter (unitAt n)) s.keyers }

/-- The frame event of one detector: the byte delivered at position 0 of the direction it watches, with its source state
(R133, R139). `far` is the far-end status that it finds. A byte with a sound source may be left to a command (log 4). -/
def State.detFrame (s : State) (res : Pair ReadResult) (defer : BitVec 8) (far : RecId → FarStatus) (n : Idx8)
    (d : Detector) : Detector :=
  match d.binding with
  | none => d
  | some (id, dir) =>
    let r := s.record id
    if !r.inMap then d
    else
      let b := s.deliveredByte res id dir 0
      let failed := r.failed.get dir
      if defer.getLsbD n.val && !failed then { d with handed := some b }
      else d.frame (decide (r.state ≠ .active) || (far id).blocks || failed) b

/-- Every detector's frame event (R139, R146). -/
def State.detFrames (s : State) (res : Pair ReadResult) (defer : BitVec 8) (far : RecId → FarStatus) : State :=
  s.updateDets (s.detFrame res defer far)

/-- The restart notices of one station frame: repeat slips, and a deskew jump at the read (R81, R107). -/
def State.notices (before after : State) (repeats : List Idx8) : List Port :=
  let anchors := fun k => decide ((after.deskew k).hold = .awaiting ∧ (before.deskew k).hold ≠ .awaiting)
  repeats.map .trib ++ if before.ps.anchored && (anchors .a || anchors .b) then [.trunk] else []

/-- The detectors' part of one station frame, in the order asked for (R140, R145, log 6): notices and far-end acceptances
before the frame events, or after them. `before` is the state ahead of the read. -/
def State.unitWork (s before : State) (res : Pair ReadResult) (repeats : List Idx8) (inp : FrameIn) : State :=
  if inp.unitsFirst then
    let far := fun id => (before.record id).far
    let s1 := { s with dets := before.dets }.detFrames res inp.deferDet far
    ((before.notices s repeats).foldl State.restartDets s1).sweep
  else
    let s1 := (repeats.foldl (fun s t => s.restartDets (.trib t)) s).sweep
    s1.detFrames res inp.deferDet fun id => (s1.record id).far

/-- The station-paced transmit frames (R62, R83), or their marks (log 4). -/
def State.transmitAll (s : State) (defer : BitVec 8) : State :=
  let send := fun (n : Nat) (p : Trib) =>
    if p.usesTxStore then p else if defer.getLsbD n then { p with txDue := true } else p.transmit
  { s with tribs := mapVec send s.tribs }

/-- The judgements made at a station frame: receive clocks and REF edges (R52, R70, R94). They are taken one after another, T0 to
T7, Trunk A, Trunk B, REF (log 6). -/
def State.judge (s : State) (inp : FrameIn) : State :=
  let trib := fun (s : State) (t : Idx8) => s.changeTrib t ((s.trib t).judgeClock (inp.tribClock.getLsbD t.val))
  let s1 := allUnits.foldl trib s
  let s2 := s1.changePort .a ((s1.port .a).judgeClock inp.trunkAClock)
  let s3 := s2.changePort .b ((s2.port .b).judgeClock inp.trunkBClock)
  if inp.refEdges then s3.refSeen else s3.refSilent

/-- What the read of this station frame finds on both trunks (R104). -/
def State.reads (s : State) : Pair ReadResult := ⟨s.readOf .a, s.readOf .b⟩

/-- The ports whose repeat slip is taken within the frame's work, and not ahead of it (R80, R81, log 6). -/
def State.repeatsNow (s : State) (inp : FrameIn) : List Idx8 := if inp.slipsFirst then [] else s.repeating

/-- The frame's work up to the detectors: the read, the keyers, the stores, the engine with the trunk frames, and the counts of
repeat slips (R81, R104, R120, R152). -/
def State.filled (s : State) (inp : FrameIn) : State :=
  (s.repeatsNow inp).foldl (fun s t => s.countSlips (.trib t))
    ((s.psRead s.reads).keyerFrames.readStores.xceWork s.reads)

/-- The traffic of one station frame (R62, R104, R120, R139, R152). -/
def State.traffic (s : State) (inp : FrameIn) : State :=
  ((s.filled inp).unitWork s s.reads (s.repeatsNow inp) inp).transmitAll inp.deferTx

/-- What goes ahead of the traffic: work left over, repeat slips taken before a flip, and the start of the frame (R68, R81,
log 6). -/
def State.opening (s : State) (inp : FrameIn) : State :=
  let s1 := s.flush
  (if inp.slipsFirst then s1.repeating.foldl (fun s t => s.slipNotice (.trib t)) s1 else s1).newFrame

/-- STATION_FRAME (R68). -/
def execStationFrame (inp : FrameIn) (s : State) : Host.Outcome State Fault Refusal :=
  .next (if s.inReset then s else ((s.opening inp).traffic inp).judge inp)

end Sys2Proof.Machine
end

