-- ==== Sys2Proof/Machine/Dispatch.lean ====
section
/-! DEFINITION. The meaning of each command: one arm per row of spec/opcode_table.json. -/

namespace Sys2Proof.Machine

def exec (i : Instr) (s : State) : Host.Outcome State Fault Refusal :=
  match i with
  | .transactionStart => Sys2Proof.Machine.execTransactionStart s
  | .emptyTransaction => Sys2Proof.Machine.execEmptyTransaction s
  | .unknownCommand code params => Sys2Proof.Machine.execUnknownCommand code params s
  | .nop params => Sys2Proof.Machine.execNop params s
  | .fetch params => Sys2Proof.Machine.execFetch params s
  | .softReset params => Sys2Proof.Machine.execSoftReset params s
  | .readFlags params => Sys2Proof.Machine.execReadFlags params s
  | .nextAttention params => Sys2Proof.Machine.execNextAttention params s
  | .setMask params => Sys2Proof.Machine.execSetMask params s
  | .clearCounters params => Sys2Proof.Machine.execClearCounters params s
  | .openRecord params => Sys2Proof.Machine.execOpenRecord params s
  | .discard params => Sys2Proof.Machine.execDiscard params s
  | .setEnd params => Sys2Proof.Machine.execSetEnd params s
  | .setField params => Sys2Proof.Machine.execSetField params s
  | .activate params => Sys2Proof.Machine.execActivate params s
  | .suspend params => Sys2Proof.Machine.execSuspend params s
  | .resume params => Sys2Proof.Machine.execResume params s
  | .retire params => Sys2Proof.Machine.execRetire params s
  | .revoke params => Sys2Proof.Machine.execRevoke params s
  | .query params => Sys2Proof.Machine.execQuery params s
  | .queryStaged params => Sys2Proof.Machine.execQueryStaged params s
  | .cursor params => Sys2Proof.Machine.execCursor params s
  | .nextRecord params => Sys2Proof.Machine.execNextRecord params s
  | .commit params => Sys2Proof.Machine.execCommit params s
  | .abortCommit params => Sys2Proof.Machine.execAbortCommit params s
  | .mapQuery params => Sys2Proof.Machine.execMapQuery params s
  | .tribConfig params => Sys2Proof.Machine.execTribConfig params s
  | .tribStatus params => Sys2Proof.Machine.execTribStatus params s
  | .timingConfig params => Sys2Proof.Machine.execTimingConfig params s
  | .timingStatus params => Sys2Proof.Machine.execTimingStatus params s
  | .trunkConfig params => Sys2Proof.Machine.execTrunkConfig params s
  | .trunkStatus params => Sys2Proof.Machine.execTrunkStatus params s
  | .recentre params => Sys2Proof.Machine.execRecentre params s
  | .detBind params => Sys2Proof.Machine.execDetBind params s
  | .detUnbind params => Sys2Proof.Machine.execDetUnbind params s
  | .detConfig params => Sys2Proof.Machine.execDetConfig params s
  | .detStatus params => Sys2Proof.Machine.execDetStatus params s
  | .keyBind params => Sys2Proof.Machine.execKeyBind params s
  | .keyUnbind params => Sys2Proof.Machine.execKeyUnbind params s
  | .keyConfig params => Sys2Proof.Machine.execKeyConfig params s
  | .keyTest params => Sys2Proof.Machine.execKeyTest params s
  | .keyStatus params => Sys2Proof.Machine.execKeyStatus params s
  | .lineConfig params => Sys2Proof.Machine.execLineConfig params s
  | .lineWrite params => Sys2Proof.Machine.execLineWrite params s
  | .lineRead params => Sys2Proof.Machine.execLineRead params s
  | .alarmMask params => Sys2Proof.Machine.execAlarmMask params s
  | .hardwareReset => Sys2Proof.Machine.execHardwareReset s
  | .resetRelease => Sys2Proof.Machine.execResetRelease s
  | .stationFrame inp => Sys2Proof.Machine.execStationFrame inp s
  | .stationMultiframeStart => Sys2Proof.Machine.execStationMultiframeStart s
  | .mapFlip => Sys2Proof.Machine.execMapFlip s
  | .retireHoldExpiry id => Sys2Proof.Machine.execRetireHoldExpiry id s
  | .tribClockLoss t => Sys2Proof.Machine.execTribClockLoss t s
  | .tribCandidateFound t bits => Sys2Proof.Machine.execTribCandidateFound t bits s
  | .tribAlignmentConfirmed t bits => Sys2Proof.Machine.execTribAlignmentConfirmed t bits s
  | .tribConfirmationFailed t bits => Sys2Proof.Machine.execTribConfirmationFailed t bits s
  | .tribFrameReceived t bits => Sys2Proof.Machine.execTribFrameReceived t bits s
  | .tribAlignmentLoss t bits => Sys2Proof.Machine.execTribAlignmentLoss t bits s
  | .aisWindowEnd t bits => Sys2Proof.Machine.execAisWindowEnd t bits s
  | .tribRemoteAlarmChange t bits => Sys2Proof.Machine.execTribRemoteAlarmChange t bits s
  | .mfAlignmentLoss t bits => Sys2Proof.Machine.execMfAlignmentLoss t bits s
  | .tribTransmitFrame t => Sys2Proof.Machine.execTribTransmitFrame t s
  | .refActivityLoss => Sys2Proof.Machine.execRefActivityLoss s
  | .acquisitionComplete => Sys2Proof.Machine.execAcquisitionComplete s
  | .holdoverExpiry => Sys2Proof.Machine.execHoldoverExpiry s
  | .wtrExpiry => Sys2Proof.Machine.execWtrExpiry s
  | .trunkClockLoss k => Sys2Proof.Machine.execTrunkClockLoss k s
  | .trunkCandidateFound k bits => Sys2Proof.Machine.execTrunkCandidateFound k bits s
  | .trunkAlignmentConfirmed k bits overhead => Sys2Proof.Machine.execTrunkAlignmentConfirmed k bits overhead s
  | .trunkConfirmationFailed k bits => Sys2Proof.Machine.execTrunkConfirmationFailed k bits s
  | .trunkFrameJudged k header => Sys2Proof.Machine.execTrunkFrameJudged k header s
  | .trunkAlignmentLoss k word seq => Sys2Proof.Machine.execTrunkAlignmentLoss k word seq s
  | .trunkFrameHandedOn k payload beforeRead => Sys2Proof.Machine.execTrunkFrameHandedOn k payload beforeRead s
  | .windowLoss k => Sys2Proof.Machine.execWindowLoss k s
  | .windowReturn k => Sys2Proof.Machine.execWindowReturn k s
  | .anchorFrameArrival k payload beforeRead => Sys2Proof.Machine.execAnchorFrameArrival k payload beforeRead s
  | .detectorUnblock d => Sys2Proof.Machine.execDetectorUnblock d s
  | .detectorCommandRecognised d => Sys2Proof.Machine.execDetectorCommandRecognised d s
  | .detectorRelease d => Sys2Proof.Machine.execDetectorRelease d s
  | .trailExpiry d => Sys2Proof.Machine.execTrailExpiry d s
  | .detectorUnavailable d => Sys2Proof.Machine.execDetectorUnavailable d s
  | .lineRequestQualified k => Sys2Proof.Machine.execLineRequestQualified k s
  | .keyerCommandEnd k => Sys2Proof.Machine.execKeyerCommandEnd k s
  | .lockoutExpiry k => Sys2Proof.Machine.execLockoutExpiry k s
  | .testRemainderExpiry k => Sys2Proof.Machine.execTestRemainderExpiry k s
  | .lineLevelChange n wiring => Sys2Proof.Machine.execLineLevelChange n wiring s

end Sys2Proof.Machine
end

