-- ==== Sys2Proof/Machine/Step.lean ====
section
/-! DEFINITION. One step: the command at the front of the queue (log 1). -/

namespace Sys2Proof.Machine

/-- Take the command at the front of the queue and answer its outcome; with an empty queue the part idles (log 1). -/
def step (s : State) : Host.Outcome State Fault Refusal :=
  match s.pending with
  | [] => .next s
  | c :: rest => exec c { s with pending := rest }

/-- The state with the command that a word spells at the front of its queue; no word spells one (log 24). -/
def State.withFetchWord (s : State) (_nbits _w : Nat) : State := s

/-- The state with the transaction whose complete bytes are `bs` at the front of its queue: the first byte picks the command by
12.2 (R162, R164). -/
def State.transaction (s : State) (bs : List Byte) : State := { s with pending := decodeTransaction bs :: s.pending }

end Sys2Proof.Machine
end

