-- ==== Sys2Proof/Safety.lean ====
section
/-! DEFINITION. What must hold of every state: the laws that the spec states of the part, as predicates of a state; and the
conditions and shapes that the statements about commands are made of. -/

namespace Sys2Proof.Machine

/-- The Circuit Attention Queue never holds an id twice and never more than 256 entries (R170). -/
def QueueLaw (s : State) : Prop := s.au.queue.Nodup ∧ s.au.queue.length ≤ 256

/-- A deskew store never holds more than 64 frames (R103). -/
def DeskewLaw (s : State) : Prop := ∀ k, (s.deskew k).frames.length ≤ 64

/-- Each keyer has at most one KEY_IN line (R157). -/
def KeyLineLaw (s : State) : Prop :=
  ∀ m n : Idx8, (s.line m).function = .keyIn → (s.line n).function = .keyIn → (s.line m).unit = (s.line n).unit → m = n

/-- A detector in PENDING, COMMAND or TRAIL (R140). -/
def Detector.armed (d : Detector) : Prop := d.state = .pending ∨ d.state = .command ∨ d.state = .trail

/-- A detector without a binding is the one that is UNBOUND (R135); one in PENDING, COMMAND or TRAIL is bound to an ACTIVE
record whose watched direction has source OK (R140). -/
def DetectorLaw (s : State) : Prop :=
  ∀ d : Idx8, ((s.det d).binding = none ↔ (s.det d).state = .unbound) ∧ ((s.det d).armed →
    ∃ id dir, (s.det d).binding = some (id, dir) ∧ (s.record id).state = .active ∧ (s.record id).failed.get dir = false)

/-- No owner of slot 0, nor of slot 16 where signalling is on (R31). -/
def ReservedFree (s : State) (m : SlotMap) : Prop :=
  ∀ t : Idx8, m.entry (.trib t) 0 = none ∧ ((s.trib t).cfg.signalling = true → m.entry (.trib t) 16 = none)

/-- Slot 0 never has an Active Map owner, nor slot 16 of a tributary with signalling on (R31); the Next Map keeps the
same law, and is vacant except while a commit is pending (R29). -/
def ReservedLaw (s : State) : Prop :=
  ReservedFree s s.ct.activeMap ∧ ReservedFree s s.ct.nextMap ∧ (s.ct.commitPending = false → s.ct.nextMap = .vacant)

/-- A set end lists 1 to 31 numbers of its port, none twice (R3). -/
def End.lawful (e : End) : Prop :=
  1 ≤ e.list.length ∧ e.list.length ≤ 31 ∧ e.list.Nodup ∧ ∀ n ∈ e.list, entryExists e.port n = true

/-- Both ends of a pair lawful, and of equal length when both are set (R3). -/
def EndsLawful (p : Both (Option End)) : Prop :=
  (∀ e ∈ p.x, e.lawful) ∧ (∀ e ∈ p.y, e.lawful) ∧ ∀ ex ∈ p.x, ∀ ey ∈ p.y, ex.list.length = ey.list.length

/-- The ends of every record, and its staged ends (R3). -/
def EndsLaw (s : State) : Prop := ∀ id, EndsLawful (s.record id).ends ∧ EndsLawful (s.record id).stagedEnds

/-- The station frame count and the read position stay in their ranges (R68, R104); a multiframe start that has been taken
has returned the count to 0 (log 5). -/
def CountLaw (s : State) : Prop :=
  s.stu.count < 248 ∧ s.ps.readPos < 248 ∧ (s.stu.begun = true → s.stu.count = 0 ∧ s.stu.started = true)

/-- Each record has at most one bound detector and at most one bound keyer (R135, R148). -/
def BindingLaw (s : State) : Prop :=
  (∀ d e : Idx8, ∀ x ∈ (s.det d).binding, ∀ y ∈ (s.det e).binding, x.1 = y.1 → d = e) ∧
  (∀ k l : Idx8, ∀ x ∈ (s.keyer k).binding, ∀ y ∈ (s.keyer l).binding, x.1 = y.1 → k = l)

/-- The entries of a map are exactly the positions of the ends given (R29, R30). -/
def Agrees (m : SlotMap) (ends : RecId → Both (Option End)) : Prop :=
  ∀ (p : Port) (n : Nat) (e : Entry), n < p.size →
    (m.entry p n = some e ↔ ∃ d, (ends e.owner).get e.side = some d ∧ d.port = p ∧ d.list[e.pos]? = some n)

/-- The ends that a record has in the Active Map (R30). -/
def Record.mapEnds (r : Record) : Both (Option End) := if r.inMap then r.ends else ⟨none, none⟩

/-- A staged operation stands in a state that allows it (R16, R20 to R23). -/
def Record.stagedFits (r : Record) : Prop :=
  match r.staged with
  | none => True
  | some .activate => r.state = .draft
  | some .suspend => r.state = .active
  | some .resume => r.state = .suspended
  | some .remap | some .retire => r.state = .active ∨ r.state = .suspended

/-- The Active Map agrees with the records (R30), and while a commit is pending the Next Map with their candidate ends (R33). -/
def MapLaw (s : State) : Prop :=
  (∀ id, (s.record id).stagedFits) ∧ Agrees s.ct.activeMap (fun id => (s.record id).mapEnds) ∧
  (s.ct.commitPending = true → Agrees s.ct.nextMap fun id => (s.record id).candidate)

/-- Health follows the source states and copy statuses of a record in the map, and is NORMAL in FREE and DRAFT (R116). The copy
statuses follow the trunks and the misroute markers (R111); a record without a trunk end in the map holds the values of R7. -/
def PathLaw (s : State) : Prop :=
  ∀ (id : RecId) (r : Record), r = s.record id →
    (r.inMap = true → r.health = r.healthOf) ∧ (r.inMap = false → r.health = .normal) ∧
    (r.trunkCells.isSome = true → ∀ k, r.copy.get k = copyStatus (s.usable k) (r.tag.get k).misroute) ∧
    (r.trunkCells = none → r.selected = .notApplicable ∧ r.copy = ⟨.down, .down⟩ ∧ r.far = .unknown)

/-! ### The station timing unit at one event -/

/-- The first source of a list that is qualified (R70). -/
def FirstOf (l : List Source) (q : Source → Bool) (src : Source) : Prop :=
  ∃ before after, l = before ++ src :: after ∧ q src = true ∧ ∀ x ∈ before, q x = false

/-- The STU acquires a source (R71 to R74). -/
def Stu.acquiring (u : Stu) (src : Source) : Stu :=
  { u with state := .acquiring, selected := some src, acquisition := 0, wtrTarget := none, wtrCount := 0 }

/-- The selected source is listed and qualified (R72, R73). -/
def Stu.Stands (u : Stu) (q : Source → Bool) : Prop := ∃ src, u.selected = some src ∧ src ∈ u.list ∧ q src = true

/-- What the STU `u` makes of the qualifications `q` at one event: it acquires out of FREE_RUN and HOLDOVER (R71); it leaves a
source that it has lost (R72, R73); in LOCKED it sets its WTR target, and the count anew with it (R74). TIMING is raised by a move
alone (R75). A move to HOLDOVER or FREE_RUN keeps the acquisition count (log 14). -/
def StuReacted (u v : Stu) (q : Source → Bool) (raised : Bool) : Prop :=
  (u.state = .freeRun ∨ u.state = .holdover →
    (∀ src, FirstOf u.list q src → v = u.acquiring src ∧ raised = true) ∧
    ((∀ src ∈ u.list, q src = false) → v = u ∧ raised = false)) ∧
  (u.state = .acquiring → u.Stands q → v = u ∧ raised = false) ∧
  (u.state = .acquiring ∨ u.state = .locked → ¬ u.Stands q →
    (∀ src, FirstOf u.list q src → v = u.acquiring src ∧ raised = true) ∧
    ((∀ src ∈ u.list, q src = false) → raised = true ∧
      (u.state = .locked ∨ u.memory = true → v = { u with
        state := .holdover, selected := none, wtrTarget := none, wtrCount := 0
        holdover := if u.holdover = 0 then 1936 else u.holdover }) ∧
      (u.state = .acquiring → u.memory = false →
        v = { u with state := .freeRun, selected := none, wtrTarget := none, wtrCount := 0 }))) ∧
  (u.state = .locked → u.Stands q → raised = false ∧ ∃ target : Option Source,
    (∀ y, target = some y ↔
      u.revertive = true ∧ FirstOf (u.list.takeWhile fun x => decide (some x ≠ u.selected)) q y) ∧
    v = if target = u.wtrTarget then u else { u with wtrTarget := target, wtrCount := 0 })

/-- What the STU `u` counts at a station multiframe start: an acquisition, ending LOCKED at the second start (R72); HOLDOVER down
to FREE_RUN (R71); the wait to restore, ending in an acquisition of the WTR target (R74). -/
def StuCounted (u v : Stu) (raised : Bool) : Prop :=
  (u.state = .freeRun → v = u ∧ raised = false) ∧
  (u.state = .acquiring → u.acquisition = 0 → v = { u with acquisition := 1 } ∧ raised = false) ∧
  (u.state = .acquiring → 1 ≤ u.acquisition → raised = true ∧
    v = { u with state := .locked, memory := true, holdover := 0, wtrTarget := none, wtrCount := 0 }) ∧
  (u.state = .holdover → 2 ≤ u.holdover → v = { u with holdover := u.holdover - 1 } ∧ raised = false) ∧
  (u.state = .holdover → u.holdover ≤ 1 → raised = true ∧
    v = { u with state := .freeRun, selected := none, memory := false, holdover := 0, wtrTarget := none, wtrCount := 0 }) ∧
  (u.state = .locked → u.wtrTarget = none → v = u ∧ raised = false) ∧
  (u.state = .locked → ∀ src, u.wtrTarget = some src →
    (u.wtrCount + 1 < u.wtrTime → v = { u with wtrCount := u.wtrCount + 1 } ∧ raised = false) ∧
    (u.wtrTime ≤ u.wtrCount + 1 → v = u.acquiring src ∧ raised = true))

/-- The STU has met the qualifications as an event leaves them, TIMING raised by its move (R70 to R75). -/
def StuMet (s t : State) : Prop :=
  ∃ raised, StuReacted s.stu t.stu t.qualified raised ∧
    t.au.flags.getLsbD 10 = (s.au.flags.getLsbD 10 || raised)

/-! ### What an event of a port leaves alone -/

/-- An event of tributary port n touches that port; its flag is raised if the alignment state, the receive condition, the
remote alarm or the multiframe state has changed, and otherwise kept (R58); the STU meets the qualifications as they are then, and
raises TIMING by a move (R70 to R75). Records and detectors are not spoken of. -/
def TribEvent (s t : State) (n : Idx8) : Prop :=
  (∀ m, m ≠ n → t.trib m = s.trib m) ∧ t.trunks = s.trunks ∧ t.ps = s.ps ∧ t.keyers = s.keyers ∧ t.clu = s.clu ∧
  t.au = { s.au with flags := t.au.flags } ∧
  (∀ i, i ≠ n.val → i ≠ 10 → t.au.flags.getLsbD i = s.au.flags.getLsbD i) ∧
  (t.au.flags.getLsbD n.val = true ↔ (s.au.flags.getLsbD n.val = true ∨ (s.trib n).sameShown (t.trib n) = false)) ∧
  StuMet s t ∧ t.stu.list = s.stu.list ∧ t.stu.refActive = s.stu.refActive ∧ t.stu.count = s.stu.count ∧
  t.inReset = s.inReset ∧ t.pending = s.pending

/-- Neither records, detectors nor the command port change. -/
def Aside (s t : State) : Prop := t.ct = s.ct ∧ t.dets = s.dets ∧ t.cp = s.cp

/-- An event of a trunk leaves the tributaries, the keyers, the lines, the maps and every record's state, ends, fields and
source states alone; it raises no flag but those of the trunks and TIMING (R99, R75). The STU meets the qualifications as they are
then, or the event changes none and leaves it alone (R70 to R75). -/
def TrunkEvent (s t : State) : Prop :=
  t.tribs = s.tribs ∧ t.keyers = s.keyers ∧ t.clu = s.clu ∧ t.inReset = s.inReset ∧ t.pending = s.pending ∧
  t.ct = { s.ct with records := t.ct.records } ∧
  (∀ id, (t.record id).state = (s.record id).state ∧ (t.record id).ends = (s.record id).ends ∧
    (t.record id).fields = (s.record id).fields ∧ (t.record id).failed = (s.record id).failed) ∧
  t.ps.sig = s.ps.sig ∧ t.au.mask = s.au.mask ∧ t.au.queueEnable = s.au.queueEnable ∧
  (StuMet s t ∨ t.stu = s.stu ∧ t.au.flags.getLsbD 10 = s.au.flags.getLsbD 10 ∧ ∀ src, t.qualified src = s.qualified src) ∧
  (∀ i, i ≠ 8 → i ≠ 9 → i ≠ 10 → t.au.flags.getLsbD i = s.au.flags.getLsbD i)

/-! ### The judgement of a receive clock -/

/-- A tributary port has entered NO_SIGNAL from SEARCH, CONFIRM or ALIGNED (R52, R65, R79, R83). -/
def ClockLost (p q : Trib) : Prop :=
  q.rx.align = .noSignal ∧ q.rx.absence = 0 ∧ q.rx.kept = [] ∧ q.rx.ais = false ∧ q.rx.aisBits = 0 ∧ q.rx.remote = false ∧
  q.rx.mfAligned = false ∧ q.store = .empty ∧ q.txStore = .empty ∧
  q.counters = { p.counters with
    losses := if p.rx.align = .aligned then bump p.counters.losses else p.counters.losses } ∧
  q.cfg = p.cfg ∧ q.sig = p.sig

/-- A tributary port has judged its receive clock (R52): the first clock ends NO_SIGNAL, and recentres the transmit store of a port
in LOOP timing (R83); a clock returns the count of absent frames to 0; the fourth absent frame is a loss. -/
def TribJudged (p q : Trib) (present : Bool) : Prop :=
  (p.rx.align = .off → q = p) ∧
  (p.rx.align = .noSignal → (present = false → q = p) ∧ (present = true →
    q.rx.align = .search ∧ q.rx.absence = 0 ∧ q.rx.kept = [] ∧ q.rx.ais = false ∧ q.rx.remote = false ∧ q.rx.mfAligned = false ∧
    q = { p with rx := q.rx, txStore := if p.cfg.loopTiming = true then ⟨[p.delivered], none⟩ else p.txStore })) ∧
  (p.rx.align = .search ∨ p.rx.align = .confirm ∨ p.rx.align = .aligned →
    (present = true → q = { p with rx := { p.rx with absence := 0 } }) ∧
    (present = false → p.rx.absence < 3 → q = { p with rx := { p.rx with absence := p.rx.absence + 1 } }) ∧
    (present = false → 3 ≤ p.rx.absence → ClockLost p q))

/-- A trunk port has judged its receive clock (R94); its deskew jumps are not spoken of (R106). -/
def TrunkJudged (p q : TrunkPort) (present : Bool) : Prop :=
  let left := fun (a : Align) => { p with
    align := a, absence := 0, clock := present, kept := [], cand := 0, expected := 0, errorRun := 0, seqRun := 0, inRx := none
    jumps := q.jumps }
  (p.enable = false → q = { p with jumps := q.jumps }) ∧
  (p.enable = true → p.align = .noSignal →
    (present = true → q = left .search) ∧ (present = false → q = { p with clock := false, jumps := q.jumps })) ∧
  (p.enable = true → p.align = .search ∨ p.align = .confirm ∨ p.align = .aligned →
    (present = true → q = { p with clock := true, absence := 0, jumps := q.jumps }) ∧
    (present = false → p.absence < 3 → q = { p with clock := false, absence := p.absence + 1, jumps := q.jumps }) ∧
    (present = false → 3 ≤ p.absence → q = left .noSignal))

/-! ### What a station frame delivers -/

/-- The byte delivered to a slot or cell is that of its owner's direction and position; a vacant one has none (R64, R86, R120). -/
def ByteFilled (w : State) (res : Pair ReadResult) (p : Port) (n : Nat) (b : Option Byte) : Prop :=
  (w.ct.activeMap.entry p n = none → b = none) ∧
  ∀ e, w.ct.activeMap.entry p n = some e → b = some (w.deliveredByte res e.owner e.side e.pos)

/-- The nibble delivered to a slot or cell is that of its VOICE or PROTECTION owner; others carry the vacant nibble, here none (R64,
R89, R120, R131). -/
def NibbleFilled (w : State) (p : Port) (n : Nat) (b : Option Nibble) : Prop :=
  (w.ct.activeMap.entry p n = none → b = none) ∧
  ∀ e, w.ct.activeMap.entry p n = some e →
    ((w.record e.owner).cls = .data → b = none) ∧
    ((w.record e.owner).cls ≠ .data → b = some (w.deliveredNibble (w.record e.owner) e.side e.pos))

/-- A port `q` has read its receive store and written its transmit store, from the port `p` ahead of it: while ALIGNED the oldest
unread frame is read, or the frame last read again with a repeat slip (R79, R80); in LOOP timing the bytes delivered join the
transmit store, the oldest of two going first with a transmit slip (R82). -/
def StoresWorked (p q : Trib) : Prop :=
  (p.rx.align ≠ .aligned → q.store = p.store ∧ q.counters.repeatSlips = p.counters.repeatSlips) ∧
  (p.rx.align = .aligned →
    (∀ f rest, p.store.unread = f :: rest →
      q.store = ⟨rest, some f⟩ ∧ q.counters.repeatSlips = p.counters.repeatSlips) ∧
    (p.store.unread = [] → q.store = p.store ∧ q.counters.repeatSlips = bump p.counters.repeatSlips)) ∧
  (p.cfg.enable = true → p.cfg.loopTiming = true → p.rx.align ≠ .noSignal →
    (p.txStore.unread.length < 2 → q.txStore = ⟨p.txStore.unread ++ [q.delivered], p.txStore.last⟩ ∧
      q.counters.txSlips = p.counters.txSlips) ∧
    (2 ≤ p.txStore.unread.length → q.txStore = ⟨p.txStore.unread.drop 1 ++ [q.delivered], p.txStore.last⟩ ∧
      q.counters.txSlips = bump p.counters.txSlips)) ∧
  (p.cfg.enable = false ∨ p.cfg.loopTiming = false ∨ p.rx.align = .noSignal →
    q.txStore = p.txStore ∧ q.counters.txSlips = p.counters.txSlips) ∧
  q.counters.alignErrors = p.counters.alignErrors ∧ q.counters.losses = p.counters.losses ∧
  q.counters.deleteSlips = p.counters.deleteSlips ∧ q.rx = p.rx ∧ q.cfg = p.cfg ∧ q.sig = p.sig

/-- The repeat slips that count in a record at the reads of one station frame: of the ports that are ALIGNED with nothing unread,
those on which the record, ACTIVE or SUSPENDED, owns an entry (R80, R81). -/
def repeatsCounted (s : State) (id : RecId) : Nat :=
  allUnits.countP fun n => decide ((s.trib n).rx.align = .aligned ∧ (s.trib n).store.unread = [] ∧
    ((s.record id).state = .active ∨ (s.record id).state = .suspended) ∧ id ∈ s.ownersOn (.trib n))

/-! ### A line frame sent -/

/-- The transmit frame of port `p` with the traffic slots given: slot 0 by the frame count, with the remote-alarm bit in odd frames
(R46, R62, R63); with signalling on, slot 16 of the transmit signalling table, the vacant nibble in its vacant positions (R47, R51,
R64); the vacant slot code in vacant slots (R64). -/
def LineSent (p : Trib) (slots : List (Option Byte)) (line : List Byte) : Prop :=
  line.length = 32 ∧
  (p.txCount.getLsbD 0 = false → line.getD 0 0 = 0x9B) ∧
  (p.txCount.getLsbD 0 = true → line.getD 0 0 = if p.remoteSent = true then 0xFF else 0xDF) ∧
  (p.cfg.signalling = true → p.txCount = 0 → line.getD 16 0 = 0x0F) ∧
  (∀ k, 1 ≤ k → k ≤ 15 → p.cfg.signalling = true → p.txCount.toNat = k → line.getD 16 0 =
    joinNibbles ((p.txSig[k - 1]?.join).getD p.cfg.vacantNibble) ((p.txSig[k + 14]?.join).getD p.cfg.vacantNibble)) ∧
  (∀ k, 1 ≤ k → k < 32 → (k ≠ 16 ∨ p.cfg.signalling = false) → line.getD k 0 = (slots.getD k none).getD p.cfg.vacantCode)

/-! ### Records and units at one event -/

/-- The attention unit after the record has been posted by its attention enable (R10, R146, R170). -/
abbrev Posted (s : State) (id : RecId) : Attention :=
  { s.au with queue :=
      if (s.record id).fields.attention = true ∧ id ∉ s.au.queue then s.au.queue ++ [id] else s.au.queue }

/-- A slip or a jump of the port reaches the detector of a binding: its record is ACTIVE or SUSPENDED and owns an entry on the
port, and the watched direction has its source there (R81, R107). -/
def NoticeHits (s : State) (p : Port) (id : RecId) (dir : Side) : Prop :=
  ((s.record id).state = .active ∨ (s.record id).state = .suspended) ∧ id ∈ s.ownersOn p ∧
    (s.record id).portOf (otherSide dir) = some p

/-- The restart notice of the port has reached every detector it hits, and no other (R81, R107, R145). -/
def DetsNotified (s t : State) (p : Port) : Prop :=
  ∀ d : Idx8,
    (∀ id dir, (s.det d).binding = some (id, dir) → NoticeHits s p id dir →
      ((s.det d).state = .pending → t.det d = { s.det d with persist := 0 }) ∧
      ((s.det d).state = .command ∨ (s.det d).state = .blocked → t.det d = { s.det d with release := 0 }) ∧
      ((s.det d).state = .guard ∨ (s.det d).state = .trail → t.det d = s.det d)) ∧
    ((∀ id dir, (s.det d).binding = some (id, dir) → ¬ NoticeHits s p id dir) → t.det d = s.det d)

/-- The tag check of one copy, `x` before and `y` after a read: collecting, and at the read of 247 evaluating (R109). -/
def TagRead (x y : TagCheck) (expected : Tag) (mine last : Prop) (found : ReadResult) : Prop :=
  ∃ read mismatch : Bool,
    (read = true ↔ x.read = true ∨ (mine ∧ ∃ f, found = .present f)) ∧
    (mismatch = true ↔ x.mismatch = true ∨ (mine ∧ ∃ f, found = .present f ∧ f.tag ≠ expected)) ∧
    (¬ last → y = { x with read := read, mismatch := mismatch }) ∧
    (last → found = .off ∨ found = .held → y = { x with read := false, mismatch := false }) ∧
    (last → found ≠ .off → found ≠ .held →
      (expected = 0 ∨ (mismatch = false ∧ read = true) →
        y = ⟨false, false, min 2 (x.matchRun + 1), 0, x.misroute && decide (x.matchRun + 1 < 2)⟩) ∧
      (expected ≠ 0 → mismatch = true →
        y = ⟨false, false, 0, min 3 (x.mismatchRun + 1), x.misroute || decide (3 ≤ x.mismatchRun + 1)⟩) ∧
      (expected ≠ 0 → mismatch = false → read = false → y = { x with read := false, mismatch := false }))

/-- The selection of one read (R113, R114). -/
def PathChosen (f : Fields) (before chosen : PathSel) (valid : Trunk → Prop) : Prop :=
  (f.policy = .forceA → chosen = .a) ∧ (f.policy = .forceB → chosen = .b) ∧
  (f.policy = .lock → ∀ k, before = pathSel k → chosen = before) ∧
  (f.policy = .auto → ∀ k, before = pathSel k →
    (valid k → chosen = before) ∧ (¬ valid k → valid (otherTrunk k) → chosen = pathSel (otherTrunk k)) ∧
    (¬ valid k → ¬ valid (otherTrunk k) → chosen = .none)) ∧
  (f.policy = .auto ∨ f.policy = .lock → (∀ k, before ≠ pathSel k) →
    (valid f.prefer → chosen = pathSel f.prefer) ∧
    (¬ valid f.prefer → valid (otherTrunk f.prefer) → chosen = pathSel (otherTrunk f.prefer)) ∧
    (¬ valid f.prefer → ¬ valid (otherTrunk f.prefer) → chosen = .none))

/-! ### Transactions -/

/-- A transaction is executed at its rise: RESET is not asserted, nor was it at the fall (R162). -/
abbrev Runs (s : State) : Prop := s.inReset = false ∧ s.cp.sel ≠ .ignored

/-- A command that is not BUSY-exempt passes check 3 of R164. -/
abbrev Clear (s : State) : Prop := Runs s ∧ s.ct.commitPending = false

/-- A command that answers and is BUSY-exempt passes checks 3 and 4 of R164. -/
abbrev Free (s : State) : Prop := Runs s ∧ s.cp.response = none

/-- The command port after the rise of a transaction with n parameter bytes: the outcome, the response buffer, and the
status byte shifted out for every byte (R163, R164). -/
abbrev Ended (s t : State) (n : Nat) (c : Code) (response : Option (List Byte)) : Prop :=
  t.cp = ⟨c, response, .idle, List.replicate (n + 1) s.latched⟩

/-- The commands of 12.2 other than FETCH, with their parameter bytes. -/
def serialParams : Instr → Option (List Byte)
  | .nop ps | .softReset ps | .readFlags ps | .nextAttention ps | .setMask ps | .clearCounters ps => some ps
  | .openRecord ps | .discard ps | .setEnd ps | .setField ps | .activate ps | .suspend ps | .resume ps => some ps
  | .retire ps | .revoke ps | .query ps | .queryStaged ps | .cursor ps | .nextRecord ps | .commit ps => some ps
  | .abortCommit ps | .mapQuery ps | .tribConfig ps | .tribStatus ps | .timingConfig ps | .timingStatus ps => some ps
  | .trunkConfig ps | .trunkStatus ps | .recentre ps | .detBind ps | .detUnbind ps | .detConfig ps => some ps
  | .detStatus ps | .keyBind ps | .keyUnbind ps | .keyConfig ps | .keyTest ps | .keyStatus ps => some ps
  | .lineConfig ps | .lineWrite ps | .lineRead ps | .alarmMask ps => some ps
  | _ => none

/-- The byte count fits the command (12.2, R14, R76). -/
def countFits : Instr → Prop
  | .nop ps | .softReset ps | .readFlags ps | .nextAttention ps | .nextRecord ps | .commit ps => ps.length = 0
  | .abortCommit ps | .timingStatus ps | .lineRead ps => ps.length = 0
  | .discard ps | .activate ps | .suspend ps | .resume ps | .retire ps | .revoke ps | .query ps => ps.length = 1
  | .queryStaged ps | .cursor ps | .tribStatus ps | .trunkStatus ps | .recentre ps | .detUnbind ps => ps.length = 1
  | .detStatus ps | .keyUnbind ps | .keyStatus ps | .lineWrite ps | .alarmMask ps => ps.length = 1
  | .clearCounters ps | .openRecord ps | .mapQuery ps => ps.length = 2
  | .setMask ps | .detBind ps | .keyBind ps | .keyTest ps => ps.length = 3
  | .setField ps | .trunkConfig ps | .lineConfig ps => ps.length = 4
  | .tribConfig ps | .keyConfig ps => ps.length = 8
  | .detConfig ps => ps.length = 9
  | .setEnd ps => 1 ≤ (ps.getD 3 0).toNat ∧ (ps.getD 3 0).toNat ≤ 31 ∧ ps.length = 4 + (ps.getD 3 0).toNat
  | .timingConfig ps => (ps.getD 2 0).toNat ≤ 4 ∧ ps.length = 3 + (ps.getD 2 0).toNat
  | _ => False

/-- The BUSY-exempt commands (R165). -/
def busyExempt : Instr → Bool
  | .nop _ | .fetch _ | .abortCommit _ | .readFlags _ | .nextAttention _ | .query _ | .queryStaged _ | .cursor _ => true
  | .nextRecord _ | .mapQuery _ | .tribStatus _ | .timingStatus _ | .trunkStatus _ | .detStatus _ | .keyStatus _ => true
  | .lineRead _ => true
  | _ => false

/-- The commands that produce a response (R165). -/
def leavesResponse : Instr → Bool
  | .readFlags _ | .nextAttention _ | .query _ | .queryStaged _ | .nextRecord _ | .commit _ | .mapQuery _ => true
  | .tribStatus _ | .timingStatus _ | .trunkStatus _ | .detStatus _ | .keyStatus _ | .lineRead _ => true
  | _ => false

end Sys2Proof.Machine
end

