-- ==== Sys2Proof/Certificates/Slice0/Obligations.lean ====
section
/-! DEFINITION. The statements about the part, for the provers. -/

open Sys2Proof Sys2Proof.Machine

/-! ### The queue of commands and the command port -/

/-- A step runs the command at the front of the queue with the queue's rest; with an empty queue the part idles (log 1). -/
def Obligations.StepRunsFrontCommand : Prop :=
  (∀ (c : Instr) (rest : List Instr) (s : State), step { s with pending := c :: rest } = exec c { s with pending := rest }) ∧
  ∀ s : State, s.pending = [] → step s = .next s

/-- Every command answers a next state, and leaves the queue of waiting commands alone (log 22). -/
def Obligations.EveryCommandAnswersAndKeepsQueue : Prop :=
  ∀ (c : Instr) (s : State), ∃ t, exec c s = .next t ∧ t.pending = s.pending

/-- The common checks, in their order: a wrong byte count gives LENGTH, then a pending commit BUSY for a command that is
not exempt, then a waiting response UNREAD for a command that answers; nothing but LAST and the end of the transaction
changes (R164). -/
def Obligations.CommonChecksRefuse : Prop :=
  ∀ (c : Instr) (ps : List Byte) (s : State), serialParams c = some ps → Runs s →
    (¬ countFits c → ∃ t, exec c s = .next t ∧ Ended s t ps.length .length s.cp.response ∧ t = { s with cp := t.cp }) ∧
    (countFits c → busyExempt c = false → s.ct.commitPending = true →
      ∃ t, exec c s = .next t ∧ Ended s t ps.length .busy s.cp.response ∧ t = { s with cp := t.cp }) ∧
    (countFits c → (busyExempt c = true ∨ s.ct.commitPending = false) → leavesResponse c = true →
      s.cp.response.isSome = true →
      ∃ t, exec c s = .next t ∧ Ended s t ps.length .unread s.cp.response ∧ t = { s with cp := t.cp })

/-- A transaction with another outcome than OK changes nothing but LAST, the end of the transaction and the bytes shifted
out, but for COMMIT refused with CONFLICT (R164). -/
def Obligations.RefusedCommandChangesOnlyLast : Prop :=
  ∀ (c : Instr) (s t : State), (serialParams c).isSome = true ∨ (∃ ps, c = .fetch ps) ∨ (∃ b ps, c = .unknownCommand b ps) →
    exec c s = .next t → t.cp.last ≠ .ok → t.cp.last ≠ .conflict →
    t.cp.response = s.cp.response ∧ t = { s with cp := t.cp }

/-- The fall of SEL latches the status byte: BUSY, RESP, ATTN, a 0 and LAST (R163, 12.1). -/
def Obligations.TransactionStartLatchesStatus : Prop :=
  ∀ s : State, s.inReset = false → s.cp.sel = .idle →
    ∃ t b, exec .transactionStart s = .next t ∧ t = { s with cp := { s.cp with sel := .active b, sdo := [] } } ∧
      b.getLsbD 7 = s.ct.commitPending ∧ b.getLsbD 6 = s.cp.response.isSome ∧ b.getLsbD 5 = s.irq ∧
      b.getLsbD 4 = false ∧ b.toNat % 16 = s.cp.last.toNat

/-- NOP is taken and changes nothing but LAST; a rise before a complete command byte has no outcome; a code that is no command is
refused with UNKNOWN. The first byte of a transaction picks the command by 12.2: every byte sequence is the transaction of exactly
one command, and a step on a transaction at the front of the queue runs that command (R162, R164, R165, R175; that the bytes reach
the part by the queue is log 1). -/
def Obligations.NopEmptyAndUnknown : Prop :=
  (∀ s : State, Runs s → ∃ t, exec (.nop []) s = .next t ∧ Ended s t 0 .ok s.cp.response ∧ t = { s with cp := t.cp }) ∧
  (∀ s : State, exec .emptyTransaction s = .next { s with cp := { s.cp with sel := .idle } }) ∧
  (∀ (s : State) (code : Byte) (ps : List Byte), Runs s → code ∉ commandCodes →
    ∃ t, exec (.unknownCommand code ps) s = .next t ∧ Ended s t ps.length .unknown s.cp.response ∧ t = { s with cp := t.cp }) ∧
  (∀ (c : Instr) (bs : List Byte), transactionBytes c = some bs → decodeTransaction bs = c) ∧
  (∀ bs : List Byte, transactionBytes (decodeTransaction bs) = some bs) ∧
  (∀ (s : State) (bs : List Byte), step (s.transaction bs) = exec (decodeTransaction bs) s)

/-- FETCH shifts out the waiting response after the status byte, then 0x00; the response is consumed when its last byte has
been shifted out (R167). -/
def Obligations.FetchShiftsAndConsumes : Prop :=
  ∀ (s : State) (ps : List Byte), Runs s →
    ∃ t, exec (.fetch ps) s = .next t ∧ t = { s with cp := t.cp } ∧ t.cp.sel = .idle ∧
      (s.cp.response = none → t.cp.last = .empty ∧ t.cp.response = none ∧
        t.cp.sdo = s.latched :: List.replicate ps.length 0) ∧
      (∀ r, s.cp.response = some r → r.length ≤ ps.length → t.cp.last = .ok ∧ t.cp.response = none ∧
        t.cp.sdo = s.latched :: (r ++ List.replicate (ps.length - r.length) 0)) ∧
      (∀ r, s.cp.response = some r → ps.length < r.length → t.cp.last = .length ∧ t.cp.response = some r ∧
        t.cp.sdo = s.latched :: r.take ps.length)

/-! ### The attention unit -/

/-- READ FLAGS reports the 13 flags, the mask, the queue enable, the number of ids queued, commit-pending and the epoch,
and clears the flags (R172; the width of each item is log 15). -/
def Obligations.ReadFlagsReportsAndClears : Prop :=
  ∀ s : State, Free s →
    ∃ t, exec (.readFlags []) s = .next t ∧
      Ended s t 0 .ok (some ([11] ++ bytes16 s.au.flags.toNat ++ bytes16 s.au.mask.toNat ++ [yes s.au.queueEnable] ++
        bytes16 s.au.queue.length ++ [yes s.ct.commitPending] ++ bytes16 s.ct.epoch.toNat)) ∧
      t.au = { s.au with flags := 0 } ∧ t = { s with cp := t.cp, au := t.au }

/-- NEXT ATTENTION removes the id at the head of the queue and reports it with the number left; an empty queue refuses it
with EMPTY (R171). -/
def Obligations.NextAttentionTakesHead : Prop :=
  (∀ (s : State) (id : RecId) (rest : List RecId), Free s → s.au.queue = id :: rest →
    ∃ t r, exec (.nextAttention []) s = .next t ∧ Ended s t 0 .ok (some r) ∧ r.length = 15 ∧
      r.take 5 = [15, byte id.val, byte rest.length, byte (s.record id).state.code, byte (s.record id).cls.code] ∧
      t.au = { s.au with queue := rest } ∧ t = { s with cp := t.cp, au := t.au }) ∧
  (∀ s : State, Free s → s.au.queue = [] →
    ∃ t, exec (.nextAttention []) s = .next t ∧ Ended s t 0 .empty none ∧ t = { s with cp := t.cp })

/-- SET MASK writes the mask and the queue enable, or is refused with RANGE for a bit beyond the 13 flags or a queue
enable above 1; the IRQ condition is an enabled queue with an id, or a flag set and unmasked (R173). -/
def Obligations.SetMaskAndIrq : Prop :=
  (∀ (s : State) (hi lo qe : Byte), Clear s →
    ∃ t, exec (.setMask [hi, lo, qe]) s = .next t ∧
      ((hi.toNat < 32 ∧ qe.toNat ≤ 1) → Ended s t 3 .ok s.cp.response ∧
        t.au = { s.au with mask := BitVec.ofNat 13 (hi.toNat * 256 + lo.toNat), queueEnable := decide (qe = 1) } ∧
        t = { s with cp := t.cp, au := t.au }) ∧
      ((32 ≤ hi.toNat ∨ 1 < qe.toNat) → Ended s t 3 .range s.cp.response ∧ t = { s with cp := t.cp })) ∧
  (∀ s : State, s.irq = true ↔
    ((s.au.queue ≠ [] ∧ s.au.queueEnable = true) ∨
      ∃ i, i < 13 ∧ s.au.flags.getLsbD i = true ∧ s.au.mask.getLsbD i = true))

/-- CLEAR COUNTERS of every kind sets the counters of its scope to 0 and leaves every other item of the part alone
(R174). -/
def Obligations.ClearCountersScopes : Prop :=
  ∀ s : State, Clear s →
    (∀ n : Idx8, ∃ t, exec (.clearCounters [0, byte n.val]) s = .next t ∧ Ended s t 2 .ok s.cp.response ∧
      (t.trib n).counters = ⟨0, 0, 0, 0, 0⟩ ∧ t.trib n = { s.trib n with counters := (t.trib n).counters } ∧
      (∀ m, m ≠ n → t.trib m = s.trib m) ∧ t = { s with cp := t.cp, tribs := t.tribs }) ∧
    (∀ k : Trunk, ∃ t, exec (.clearCounters [1, byte (trunkCode k)]) s = .next t ∧ Ended s t 2 .ok s.cp.response ∧
      t.port k = { s.port k with alignErrors := 0, seqErrors := 0, jumps := 0, windowLosses := 0 } ∧
      t.port (otherTrunk k) = s.port (otherTrunk k) ∧
      t = { s with cp := t.cp, trunks := { s.trunks with port := t.trunks.port } }) ∧
    (∀ id : Byte, ∃ t, exec (.clearCounters [2, id]) s = .next t ∧ Ended s t 2 .ok s.cp.response ∧
      t.record (readId id) = { s.record (readId id) with slips := 0, switches := 0, misroutes := 0 } ∧
      (∀ j, j ≠ readId id → t.record j = s.record j) ∧ t = { s with cp := t.cp, ct := { s.ct with records := t.ct.records } }) ∧
    (∀ n : Idx8, ∃ t, exec (.clearCounters [3, byte n.val]) s = .next t ∧ Ended s t 2 .ok s.cp.response ∧
      t.det n = { s.det n with commands := 0, blockedEvents := 0 } ∧ (∀ m, m ≠ n → t.det m = s.det m) ∧
      t = { s with cp := t.cp, dets := t.dets }) ∧
    (∀ n : Idx8, ∃ t, exec (.clearCounters [4, byte n.val]) s = .next t ∧ Ended s t 2 .ok s.cp.response ∧
      t.keyer n = { s.keyer n with sent := 0 } ∧ (∀ m, m ≠ n → t.keyer m = s.keyer m) ∧
      t = { s with cp := t.cp, keyers := t.keyers }) ∧
    (∃ t, exec (.clearCounters [5, 0]) s = .next t ∧ Ended s t 2 .ok s.cp.response ∧
      (∀ n, t.trib n = { s.trib n with counters := ⟨0, 0, 0, 0, 0⟩ }) ∧
      (∀ k, t.port k = { s.port k with alignErrors := 0, seqErrors := 0, jumps := 0, windowLosses := 0 }) ∧
      (∀ id, t.record id = { s.record id with slips := 0, switches := 0, misroutes := 0 }) ∧
      (∀ n, t.det n = { s.det n with commands := 0, blockedEvents := 0 }) ∧
      (∀ n, t.keyer n = { s.keyer n with sent := 0 }) ∧
      t = { s with
        cp := t.cp, tribs := t.tribs, trunks := { s.trunks with port := t.trunks.port }, dets := t.dets, keyers := t.keyers
        ct := { s.ct with records := t.ct.records } }) ∧
    (∀ kind index : Byte, (5 < kind.toNat ∨ (kind.toNat = 0 ∧ 7 < index.toNat) ∨ (kind.toNat = 1 ∧ 1 < index.toNat) ∨
        (kind.toNat = 3 ∧ 7 < index.toNat) ∨ (kind.toNat = 4 ∧ 7 < index.toNat) ∨ (kind.toNat = 5 ∧ index ≠ 0)) →
      ∃ t, exec (.clearCounters [kind, index]) s = .next t ∧ Ended s t 2 .range s.cp.response ∧ t = { s with cp := t.cp })

/-! ### Resets -/

/-- SOFT RESET sets every block to its soft reset value, empties the Response Buffer, clears every unit flag, and keeps the contact
lines and the STU's configuration, REF activity and frame count. The STU meets the loss of every tributary and trunk source: with
REF listed and active it goes to, or stays on, REF; without, it holds over, or runs free as R72 gives; TIMING alone is raised, by
such a move. While a commit is pending the command is refused with BUSY (R71, R72, R73, R74, R75, R78, R155,
R168). An STU that leaves ACQUIRING keeps its acquisition count (log 14). The reset values of a trunk's receive clock
item (log 13) and of the bytes delivered and the frames sent last (log 18) are the model's choice. -/
def Obligations.SoftResetClearsBlocks : Prop :=
  (∀ s : State, Clear s →
    ∃ t, exec (.softReset []) s = .next t ∧ Ended s t 0 .ok none ∧
      t = { State.reset with
        cp := t.cp, stu := t.stu, au := ⟨[], t.au.flags, 0, false⟩, clu := { s.clu with alarmMask := 0x1F }
        pending := s.pending } ∧
      (∀ i, i ≠ 10 → t.au.flags.getLsbD i = false) ∧ t.irq = false ∧
      (Source.ref ∈ s.stu.list → s.stu.refActive = true →
        ((s.stu.state = .freeRun ∨ s.stu.state = .holdover ∨ s.stu.selected ≠ some .ref) →
          t.au.flags.getLsbD 10 = true ∧ t.stu = { s.stu with
            state := .acquiring, selected := some .ref, acquisition := 0, wtrTarget := none, wtrCount := 0 }) ∧
        (s.stu.state = .acquiring → s.stu.selected = some .ref → t.au.flags.getLsbD 10 = false ∧ t.stu = s.stu) ∧
        (s.stu.state = .locked → s.stu.selected = some .ref → t.au.flags.getLsbD 10 = false ∧ t.stu = { s.stu with
          wtrTarget := none, wtrCount := if s.stu.wtrTarget = none then s.stu.wtrCount else 0 })) ∧
      (¬ (Source.ref ∈ s.stu.list ∧ s.stu.refActive = true) →
        (s.stu.state = .freeRun ∨ s.stu.state = .holdover → t.au.flags.getLsbD 10 = false ∧ t.stu = s.stu) ∧
        (s.stu.state = .locked ∨ s.stu.state = .acquiring ∧ s.stu.memory = true →
          t.au.flags.getLsbD 10 = true ∧ t.stu = { s.stu with
            state := .holdover, selected := none, wtrTarget := none, wtrCount := 0
            holdover := if s.stu.holdover = 0 then 1936 else s.stu.holdover }) ∧
        (s.stu.state = .acquiring → s.stu.memory = false → t.au.flags.getLsbD 10 = true ∧ t.stu = { s.stu with
          state := .freeRun, selected := none, wtrTarget := none, wtrCount := 0 }))) ∧
  (∀ s : State, Runs s → s.ct.commitPending = true →
    ∃ t, exec (.softReset []) s = .next t ∧ Ended s t 0 .busy s.cp.response ∧ t = { s with cp := t.cp })

/-- HARDWARE RESET puts every block at its reset value and discards a transaction in progress; the part is in reset until
RESET is released, and takes no transaction meanwhile (log 25). What RESET leaves besides is the wiring of the contact lines (log 12)
and the queue of commands (log 1) (R162, R169). The reset values of a trunk's receive clock item (log 13) and of the bytes delivered,
the frames sent last and SDO (log 18) are the model's choice. -/
def Obligations.HardwareResetAndRelease : Prop :=
  (∀ s : State, ∃ t, exec .hardwareReset s = .next t ∧ t.inReset = true ∧
    t = { State.reset with clu := t.clu, cp := t.cp, inReset := true, pending := s.pending } ∧
    t.cp = { State.reset.cp with sel := t.cp.sel } ∧ (s.cp.sel ≠ .idle → t.cp.sel = .ignored) ∧
    t.clu.alarmMask = 0x1F ∧ ∀ n, t.line n = ⟨.input, false, 0, false, (s.line n).wire, (s.line n).overpowers⟩) ∧
  (∀ s : State, exec .resetRelease s = .next { s with inReset := false }) ∧
  (∀ (s : State) (c : Instr), s.inReset = true → (serialParams c).isSome = true →
    exec c s = .next { s with cp := { s.cp with sel := .idle } })

/-! ### The circuit table -/

/-- OPEN takes a FREE record into DRAFT with the class given, every field at its default, and posts it; a record that is
not FREE is refused with STATE, a class above 2 with RANGE (R12). -/
def Obligations.OpenTakesFreeRecordIntoDraft : Prop :=
  ∀ (s : State) (id cls : Byte), Clear s →
    ∃ t, exec (.openRecord [id, cls]) s = .next t ∧
      ((s.record (readId id)).state ≠ .free → Ended s t 2 .state s.cp.response ∧ t = { s with cp := t.cp }) ∧
      ((s.record (readId id)).state = .free → 2 < cls.toNat → Ended s t 2 .range s.cp.response ∧ t = { s with cp := t.cp }) ∧
      (∀ k, (s.record (readId id)).state = .free → readClass cls.toNat = some k →
        Ended s t 2 .ok s.cp.response ∧
        t.record (readId id) = { Record.freeRecord with state := .draft, cls := k } ∧
        (∀ j, j ≠ readId id → t.record j = s.record j) ∧
        t.au = { s.au with queue := if readId id ∈ s.au.queue then s.au.queue else s.au.queue ++ [readId id] } ∧
        t = { s with cp := t.cp, au := t.au, ct := { s.ct with records := t.ct.records } })

/-- DISCARD returns a DRAFT record to FREE, unbinds its units and posts it by the attention enable it had; in any other
state it is refused with STATE (R13). -/
def Obligations.DiscardFreesDraft : Prop :=
  ∀ (s : State) (id : Byte), Clear s →
    ∃ t, exec (.discard [id]) s = .next t ∧
      ((s.record (readId id)).state ≠ .draft → Ended s t 1 .state s.cp.response ∧ t = { s with cp := t.cp }) ∧
      ((s.record (readId id)).state = .draft →
        Ended s t 1 .ok s.cp.response ∧ t.record (readId id) = .freeRecord ∧ (∀ j, j ≠ readId id → t.record j = s.record j) ∧
        (∀ d, boundTo (s.det d).binding (readId id) = true → (t.det d).binding = none ∧ (t.det d).state = .unbound) ∧
        (∀ d, boundTo (s.det d).binding (readId id) = false → t.det d = s.det d) ∧
        (∀ k, boundTo (s.keyer k).binding (readId id) = true →
          (t.keyer k).binding = none ∧ (t.keyer k).state = .unbound ∧ (t.keyer k).test = 0) ∧
        (∀ k, boundTo (s.keyer k).binding (readId id) = false → t.keyer k = s.keyer k) ∧
        t.au = { s.au with queue := if (s.record (readId id)).fields.attention = true ∧ readId id ∉ s.au.queue
          then s.au.queue ++ [readId id] else s.au.queue } ∧
        t = { s with
          cp := t.cp, au := t.au, dets := t.dets, keyers := t.keyers
          ct := { s.ct with records := t.ct.records, activeMap := t.ct.activeMap, nextMap := t.ct.nextMap } })

/-- SET END on a DRAFT record with no staged operation replaces the named end, keeps the other end only at the same length, and
posts the record; on an ACTIVE or SUSPENDED record it stages REMAP and writes the named staged end, the first write beginning
from copies of the active ends, which stay, and posts nothing. It is refused, in this order, with STATE, RANGE, STAGED, and RANGE
for two staged ends on the trunk (R14, R15, R16, R17). -/
def Obligations.SetEndWritesDraftOrStagedEnd : Prop :=
  (∀ (s : State) (id eb port : Byte) (entries : List Byte) (e : Side) (new : End), Clear s →
     (s.record (readId id)).state = .draft → (s.record (readId id)).staged = none →
     1 ≤ entries.length → entries.length ≤ 31 → readSide eb.toNat = some e → readEnd port.toNat entries = some new →
     ∃ t, exec (.setEnd (id :: eb :: port :: byte entries.length :: entries)) s = .next t ∧
       Ended s t (4 + entries.length) .ok s.cp.response ∧
       (t.record (readId id)).ends.get e = some new ∧
       (∀ o, (s.record (readId id)).ends.get (otherSide e) = some o → o.list.length = new.list.length →
         (t.record (readId id)).ends.get (otherSide e) = some o) ∧
       (∀ o, (s.record (readId id)).ends.get (otherSide e) = some o → o.list.length ≠ new.list.length →
         (t.record (readId id)).ends.get (otherSide e) = none) ∧
       ((s.record (readId id)).ends.get (otherSide e) = none → (t.record (readId id)).ends.get (otherSide e) = none) ∧
       t.record (readId id) = { s.record (readId id) with ends := (t.record (readId id)).ends } ∧
       (∀ j, j ≠ readId id → t.record j = s.record j) ∧
       t.au = { s.au with queue := if (s.record (readId id)).fields.attention = true ∧ readId id ∉ s.au.queue
         then s.au.queue ++ [readId id] else s.au.queue } ∧
       t = { s with cp := t.cp, au := t.au, ct := { s.ct with records := t.ct.records } }) ∧
  (∀ (s : State) (id eb port : Byte) (entries : List Byte) (e : Side) (new : End) (base : Both (Option End)), Clear s →
     ((s.record (readId id)).state = .active ∨ (s.record (readId id)).state = .suspended) →
     ((s.record (readId id)).staged = none ∧ base = (s.record (readId id)).ends ∨
       (s.record (readId id)).staged = some .remap ∧ base = (s.record (readId id)).stagedEnds) →
     1 ≤ entries.length → entries.length ≤ 31 → readSide eb.toNat = some e → readEnd port.toNat entries = some new →
     bothTrunk (writeEnd base e new) = false →
     ∃ t, exec (.setEnd (id :: eb :: port :: byte entries.length :: entries)) s = .next t ∧
       Ended s t (4 + entries.length) .ok s.cp.response ∧
       (t.record (readId id)).stagedEnds.get e = some new ∧
       (t.record (readId id)).stagedEnds.get (otherSide e) =
         (base.get (otherSide e)).filter (fun o => o.list.length == new.list.length) ∧
       t.record (readId id) = { s.record (readId id) with
         staged := some .remap, stagedEnds := (t.record (readId id)).stagedEnds } ∧
       (∀ j, j ≠ readId id → t.record j = s.record j) ∧
       t = { s with cp := t.cp, ct := { s.ct with records := t.ct.records } }) ∧
  (∀ (s : State) (id eb port : Byte) (entries : List Byte) (r : Record), Clear s → r = s.record (readId id) →
     1 ≤ entries.length → entries.length ≤ 31 →
     ∃ t, exec (.setEnd (id :: eb :: port :: byte entries.length :: entries)) s = .next t ∧
       (t.cp.last ≠ .ok → Ended s t (4 + entries.length) t.cp.last s.cp.response ∧ t = { s with cp := t.cp }) ∧
       (r.state = .free ∨ r.state = .retiring → t.cp.last = .state) ∧
       (¬ (r.state = .free ∨ r.state = .retiring) →
         (1 < eb.toNat ∨ 8 < port.toNat ∨ (port.toNat < 8 ∧ ∃ b ∈ entries, 31 < b.toNat) ∨
           (port.toNat = 8 ∧ ∃ b ∈ entries, 247 < b.toNat) ∨ ¬ entries.Nodup → t.cp.last = .range) ∧
         ∀ e new, readSide eb.toNat = some e → readEnd port.toNat entries = some new →
           (r.staged.isSome = true → r.staged ≠ some .remap → t.cp.last = .staged) ∧
           (∀ base, r.state = .active ∨ r.state = .suspended →
             (r.staged = none ∧ base = r.ends ∨ r.staged = some .remap ∧ base = r.stagedEnds) →
             bothTrunk (writeEnd base e new) = true → t.cp.last = .range)))

/-- SET FIELD makes its checks in order; else it writes one field, the one of its code, within that field's range, and the class in
DRAFT only; a change of the expected tag sets
the tag-check runs of both copies to 0 and clears their markers, and leaves the misroute markers; nothing is posted (R18,
R19). -/
def Obligations.SetFieldChecksAndWrites : Prop :=
  (∀ (s : State) (id code hi lo : Byte) (f : Fields), Clear s →
     ((s.record (readId id)).state = .draft ∨ (s.record (readId id)).state = .active ∨
       (s.record (readId id)).state = .suspended) →
     1 ≤ code.toNat → writeField (s.record (readId id)).fields code.toNat (hi.toNat * 256 + lo.toNat) = some f →
     ∃ t, exec (.setField [id, code, hi, lo]) s = .next t ∧ Ended s t 4 .ok s.cp.response ∧
       (t.record (readId id)).fields = f ∧
       (f.expTag = (s.record (readId id)).fields.expTag → (t.record (readId id)).tag = (s.record (readId id)).tag) ∧
       (f.expTag ≠ (s.record (readId id)).fields.expTag → ∀ k, (t.record (readId id)).tag.get k =
         ⟨false, false, 0, 0, ((s.record (readId id)).tag.get k).misroute⟩) ∧
       t.record (readId id) = { s.record (readId id) with fields := f, tag := (t.record (readId id)).tag } ∧
       (∀ j, j ≠ readId id → t.record j = s.record j) ∧
       t = { s with cp := t.cp, ct := { s.ct with records := t.ct.records } }) ∧
  (∀ (s : State) (id code hi lo : Byte) (r : Record), Clear s → r = s.record (readId id) →
     ∃ t, exec (.setField [id, code, hi, lo]) s = .next t ∧
       (r.state = .free ∨ r.state = .retiring → t.cp.last = .state) ∧
       (¬ (r.state = .free ∨ r.state = .retiring) → 17 < code.toNat → t.cp.last = .range) ∧
       (¬ (r.state = .free ∨ r.state = .retiring) → code = 0 → r.state ≠ .draft → t.cp.last = .state) ∧
       (r.state = .draft → code = 0 → 2 < hi.toNat * 256 + lo.toNat → t.cp.last = .range) ∧
       (r.state = .draft → code = 0 → (hi.toNat * 256 + lo.toNat = 1 ∨ hi.toNat * 256 + lo.toNat = 2) →
         ((s.boundDetector (readId id)).isSome = true ∨ (s.boundKeyer (readId id)).isSome = true) → t.cp.last = .inuse) ∧
       (¬ (r.state = .free ∨ r.state = .retiring) → 1 ≤ code.toNat → code.toNat ≤ 17 →
         writeField r.fields code.toNat (hi.toNat * 256 + lo.toNat) = none → t.cp.last = .range) ∧
       (t.cp.last ≠ .ok → Ended s t 4 t.cp.last s.cp.response ∧ t = { s with cp := t.cp })) ∧
  (∀ (s : State) (id hi lo : Byte) (r : Record) (c : RecClass), Clear s → r = s.record (readId id) → r.state = .draft →
     readClass (hi.toNat * 256 + lo.toNat) = some c →
     (c = .protection ∨ (s.boundDetector (readId id) = none ∧ s.boundKeyer (readId id) = none)) →
     ∃ t, exec (.setField [id, 0, hi, lo]) s = .next t ∧ Ended s t 4 .ok s.cp.response ∧
       t.record (readId id) = { r with cls := c } ∧ (∀ j, j ≠ readId id → t.record j = s.record j) ∧
       t = { s with cp := t.cp, ct := { s.ct with records := t.ct.records } }) ∧
  (∀ (f : Fields) (v : Nat),
     (v < 4096 → writeField f 1 v = some { f with txTag := BitVec.ofNat 12 v } ∧
       writeField f 2 v = some { f with expTag := BitVec.ofNat 12 v }) ∧
     (4096 ≤ v → writeField f 1 v = none ∧ writeField f 2 v = none) ∧
     (∀ p, writeField f 3 (PathPolicy.code p) = some { f with policy := p }) ∧ (3 < v → writeField f 3 v = none) ∧
     (∀ k, writeField f 4 (trunkCode k) = some { f with prefer := k }) ∧ (1 < v → writeField f 4 v = none) ∧
     (v < 256 → writeField f 5 v = some { f with cond := ⟨byte v, f.cond.y⟩ } ∧
       writeField f 6 v = some { f with cond := ⟨f.cond.x, byte v⟩ } ∧ writeField f 14 v = some { f with testCode := byte v }) ∧
     (256 ≤ v → writeField f 5 v = none ∧ writeField f 6 v = none ∧ writeField f 14 v = none) ∧
     (∀ d, writeField f 7 (Density.code d) = some { f with density := d }) ∧ (2 < v → writeField f 7 v = none) ∧
     (∀ b : Bool, writeField f 8 b.toNat = some { f with fixed := ⟨b, f.fixed.y⟩ } ∧
       writeField f 9 b.toNat = some { f with fixed := ⟨f.fixed.x, b⟩ } ∧
       writeField f 17 b.toNat = some { f with attention := b }) ∧
     (1 < v → writeField f 8 v = none ∧ writeField f 9 v = none ∧ writeField f 17 v = none) ∧
     (v < 16 → writeField f 10 v = some { f with nib := ⟨BitVec.ofNat 4 v, f.nib.y⟩ } ∧
       writeField f 11 v = some { f with nib := ⟨f.nib.x, BitVec.ofNat 4 v⟩ } ∧
       writeField f 12 v = some { f with faultNib := BitVec.ofNat 4 v } ∧
       writeField f 16 v = some { f with hold := BitVec.ofNat 4 v }) ∧
     (16 ≤ v → writeField f 10 v = none ∧ writeField f 11 v = none ∧ writeField f 12 v = none ∧ writeField f 16 v = none) ∧
     (∀ l, writeField f 13 (Loopback.code l) = some { f with loopback := l }) ∧ (2 < v → writeField f 13 v = none) ∧
     (∀ i, writeField f 15 (Inject.code i) = some { f with inject := i }) ∧ (2 < v → writeField f 15 v = none))

/-- ACTIVATE, SUSPEND and RETIRE stage their operation on a record in the state that allows it, with no staged operation, and touch
nothing else; their checks refuse in order: STATE, STAGED, and for ACTIVATE then INCOMPLETE and RANGE (R20, R21, R23). -/
def Obligations.StagingCommandsStageOnly : Prop :=
  (∀ (s : State) (id : Byte) (r : Record), Clear s → r = s.record (readId id) →
    (∃ t, exec (.activate [id]) s = .next t ∧
      (t.cp.last ≠ .ok → Ended s t 1 t.cp.last s.cp.response ∧ t = { s with cp := t.cp }) ∧
      (r.state ≠ .draft → t.cp.last = .state) ∧ (r.state = .draft → r.staged.isSome = true → t.cp.last = .staged) ∧
      (r.state = .draft → r.staged = none → (r.ends.x = none ∨ r.ends.y = none) → t.cp.last = .incomplete) ∧
      (r.state = .draft → r.staged = none → ∀ x y, r.ends = ⟨some x, some y⟩ → x.port = .trunk → y.port = .trunk →
        t.cp.last = .range)) ∧
    (∃ t, exec (.suspend [id]) s = .next t ∧
      (t.cp.last ≠ .ok → Ended s t 1 t.cp.last s.cp.response ∧ t = { s with cp := t.cp }) ∧
      (r.state ≠ .active → t.cp.last = .state) ∧ (r.state = .active → r.staged.isSome = true → t.cp.last = .staged)) ∧
    (∃ t, exec (.retire [id]) s = .next t ∧
      (t.cp.last ≠ .ok → Ended s t 1 t.cp.last s.cp.response ∧ t = { s with cp := t.cp }) ∧
      (¬ (r.state = .active ∨ r.state = .suspended) → t.cp.last = .state) ∧
      (r.state = .active ∨ r.state = .suspended → r.staged.isSome = true → t.cp.last = .staged))) ∧
  ∀ (s : State) (id : Byte) (r : Record), Clear s → r = s.record (readId id) → r.staged = none →
    (r.state = .draft → r.ends.x.isSome = true → r.ends.y.isSome = true → bothTrunk r.ends = false →
      ∃ t, exec (.activate [id]) s = .next t ∧ Ended s t 1 .ok s.cp.response ∧
        t.record (readId id) = { r with staged := some .activate } ∧ (∀ j, j ≠ readId id → t.record j = s.record j) ∧
        t = { s with cp := t.cp, ct := { s.ct with records := t.ct.records } }) ∧
    (r.state = .active →
      ∃ t, exec (.suspend [id]) s = .next t ∧ Ended s t 1 .ok s.cp.response ∧
        t.record (readId id) = { r with staged := some .suspend } ∧ (∀ j, j ≠ readId id → t.record j = s.record j) ∧
        t = { s with cp := t.cp, ct := { s.ct with records := t.ct.records } }) ∧
    (r.state = .active ∨ r.state = .suspended →
      ∃ t, exec (.retire [id]) s = .next t ∧ Ended s t 1 .ok s.cp.response ∧
        t.record (readId id) = { r with staged := some .retire } ∧ (∀ j, j ≠ readId id → t.record j = s.record j) ∧
        t = { s with cp := t.cp, ct := { s.ct with records := t.ct.records } })

/-- RESUME of a record that is not SUSPENDED is refused with STATE, of a SUSPENDED record that holds a staged operation with
STAGED; else the staged operation becomes RESUME and nothing else of the table changes (R22). -/
def Obligations.ResumeStagesReturnToActive : Prop :=
  ∀ (s : State) (id : Byte) (r : Record), Clear s → r = s.record (readId id) →
    ∃ t, exec (.resume [id]) s = .next t ∧ t.cp.response = s.cp.response ∧
      (r.state ≠ .suspended → t.cp.last = .state ∧ t = { s with cp := t.cp }) ∧
      (r.state = .suspended → r.staged.isSome = true → t.cp.last = .staged ∧ t = { s with cp := t.cp }) ∧
      (r.state = .suspended → r.staged = none → t.cp.last = .ok ∧
        t.record (readId id) = { r with staged := some .resume } ∧ (∀ j, j ≠ readId id → t.record j = s.record j) ∧
        t = { s with cp := t.cp, ct := { s.ct with records := t.ct.records } })

/-- REVOKE removes the staged operation and the staged ends; a FREE or RETIRING record is refused with STATE, a record with
no staged operation with NOTSTAGED (R24). -/
def Obligations.RevokeRemovesStagedPart : Prop :=
  ∀ (s : State) (id : Byte) (r : Record), Clear s → r = s.record (readId id) →
    ∃ t, exec (.revoke [id]) s = .next t ∧
      (r.state = .free ∨ r.state = .retiring → Ended s t 1 .state s.cp.response ∧ t = { s with cp := t.cp }) ∧
      (¬ (r.state = .free ∨ r.state = .retiring) → r.staged = none →
        Ended s t 1 .notStaged s.cp.response ∧ t = { s with cp := t.cp }) ∧
      (¬ (r.state = .free ∨ r.state = .retiring) → r.staged.isSome = true →
        Ended s t 1 .ok s.cp.response ∧ t.record (readId id) = { r with staged := none, stagedEnds := ⟨none, none⟩ } ∧
        (∀ j, j ≠ readId id → t.record j = s.record j) ∧
        t = { s with cp := t.cp, ct := { s.ct with records := t.ct.records } })

/-- QUERY and QUERY STAGED leave their response and change nothing else; a QUERY of a record without ends gives 28 bytes, and
the first bytes are the length, the id, state with class, and the staged operation (R25, R26, 12.5; the descriptor of an absent end
and the unused bits of packed bytes are log 15). -/
def Obligations.QueriesAnswerAndChangeNothing : Prop :=
  ∀ (s : State) (id : Byte) (r : Record), Free s → r = s.record (readId id) →
    (∃ t q, exec (.query [id]) s = .next t ∧ Ended s t 1 .ok (some q) ∧ t = { s with cp := t.cp } ∧
      q.drop 1 = s.queryItems (readId id) ∧ q.head? = some (byte q.length) ∧
      (r.ends = ⟨none, none⟩ → q.length = 28) ∧
      q.getD 1 0 = id ∧ q.getD 2 0 = byte (r.state.code + 16 * r.cls.code)) ∧
    (∃ t q, exec (.queryStaged [id]) s = .next t ∧ Ended s t 1 .ok (some q) ∧ t = { s with cp := t.cp } ∧
      q = byte q.length :: ([id, stagedByte r] ++ endBytes r.stagedEnds.x ++ endBytes r.stagedEnds.y))

/-- CURSOR sets the position and clears the end lock; both resets set position 0 with the lock clear; no command but CURSOR,
NEXT and the resets changes either (R27). -/
def Obligations.CursorSetsPosition : Prop :=
  (∀ (s : State) (id : Byte), Runs s →
    ∃ t, exec (.cursor [id]) s = .next t ∧ Ended s t 1 .ok s.cp.response ∧
      t = { s with cp := t.cp, ct := { s.ct with cursor := readId id, endLock := false } }) ∧
  (∀ s t : State, exec .hardwareReset s = .next t → t.ct.cursor = 0 ∧ t.ct.endLock = false) ∧
  (∀ s t : State, Clear s → exec (.softReset []) s = .next t → t.ct.cursor = 0 ∧ t.ct.endLock = false) ∧
  (∀ (c : Instr) (s t : State), (∀ ps, c ≠ .cursor ps ∧ c ≠ .nextRecord ps ∧ c ≠ .softReset ps) → c ≠ .hardwareReset →
    exec c s = .next t → t.ct.cursor = s.ct.cursor ∧ t.ct.endLock = s.ct.endLock)

/-- NEXT returns the lowest record at or above the cursor that is not FREE and moves the cursor to the next one above it; at
the last one it sets the end lock (R28; an absent end's descriptor and the unused bits are log 15). -/
def Obligations.NextVisitsOccupiedRecords : Prop :=
  (∀ (s : State) (q : RecId), Free s → s.ct.endLock = false → s.ct.cursor ≤ q → (s.record q).state ≠ .free →
    (∀ j, s.ct.cursor ≤ j → j < q → (s.record j).state = .free) →
    ∃ t, exec (.nextRecord []) s = .next t ∧
      (∀ u, q < u → (s.record u).state ≠ .free → (∀ j, q < j → j < u → (s.record j).state = .free) →
        Ended s t 0 .ok (some (s.nextResponse (some q) false)) ∧
        t = { s with cp := t.cp, ct := { s.ct with cursor := u } }) ∧
      ((∀ u, q < u → (s.record u).state = .free) →
        Ended s t 0 .ok (some (s.nextResponse (some q) true)) ∧
        t = { s with cp := t.cp, ct := { s.ct with cursor := q, endLock := true } })) ∧
  (∀ s : State, Free s → s.ct.endLock = false → (∀ j, s.ct.cursor ≤ j → (s.record j).state = .free) →
    ∃ t, exec (.nextRecord []) s = .next t ∧ Ended s t 0 .ok (some [2, 3]) ∧
      t = { s with cp := t.cp, ct := { s.ct with endLock := true } }) ∧
  (∀ s : State, Free s → s.ct.endLock = true →
    ∃ t, exec (.nextRecord []) s = .next t ∧ t = { s with cp := t.cp } ∧
      Ended s t 0 .ok (some (s.nextResponse (if (s.record s.ct.cursor).state = .free then none else some s.ct.cursor) true)))

/-! ### Commit and the slot maps -/

/-- COMMIT: INCOMPLETE leaves no response; a failed placement leaves CONFLICT with its report, the reason and the items of R34, and
changes nothing else; else the built map becomes the Next Map, the commit is pending, and the response carries the staged count and
the coming epoch (R34, R35, R175). -/
def Obligations.CommitOutcomes : Prop :=
  ∀ s : State, Clear s → s.cp.response = none →
    ∃ t, exec (.commit []) s = .next t ∧
      ((∃ id, (s.record id).halfRemap = true) → Ended s t 0 .incomplete none ∧ t = { s with cp := t.cp }) ∧
      ((∀ id, (s.record id).halfRemap = false) →
        (∀ c, s.buildNext = .error c → t = { s with cp := t.cp } ∧ ∀ (p : Placement) (e port : Byte),
          (p.entry.side = .x → e = 0) → (p.entry.side = .y → e = 1) → (∀ n : Idx8, p.port = .trib n → port = byte n.val) →
          (p.port = .trunk → port = 8) →
          (c = .reserved p → Ended s t 0 .conflict
            (some [8, 7, 0, byte p.entry.owner.val, e, byte p.entry.pos, port, byte p.slot])) ∧
          (c = .disabled p → Ended s t 0 .conflict
            (some [8, 7, 1, byte p.entry.owner.val, e, byte p.entry.pos, port, byte p.slot])) ∧
          (∀ first, c = .duplicate first p → Ended s t 0 .conflict
            (some [9, 7, 2, byte first.val, byte p.entry.owner.val, e, byte p.entry.pos, port, byte p.slot]))) ∧
        (∀ m, s.buildNext = .ok m →
          Ended s t 0 .ok (some ([6, 0] ++ bytes16 s.stagedCount ++ bytes16 (s.ct.epoch + 1).toNat)) ∧
          t = { s with cp := t.cp, ct := { s.ct with nextMap := m, commitPending := true } }))

/-- A Next Map that COMMIT accepts gives no owner to slot 0, nor to slot 16 of a port with signalling on, nor to a slot of a
disabled port; a vacated map keeps the entries of every other owner and none of the owners named. Each placement is checked for a
reserved slot, a disabled port and a duplicate, in this order, and the first failure ends the build; over lawful ends an accepted
map holds each candidate entry once and no other. Every step keeps the Active Map in agreement with the records (R30, R31, R33,
R34, R39, R43). -/
def Obligations.MapsKeepReservedSlotsAndVacate : Prop :=
  (∀ (s : State) (m : SlotMap) (p : Placement),
     (s.reservedSlot p.port p.slot = true → s.placeOne m p = .error (.reserved p)) ∧
     (s.reservedSlot p.port p.slot = false → s.portDisabled p.port = true → s.placeOne m p = .error (.disabled p)) ∧
     (s.reservedSlot p.port p.slot = false → s.portDisabled p.port = false →
       (∀ e, m.entry p.port p.slot = some e → s.placeOne m p = .error (.duplicate e.owner p)) ∧
       (m.entry p.port p.slot = none → s.placeOne m p = .ok (m.write p.port p.slot p.entry)))) ∧
  (∀ (s : State) (c : Conflict), s.buildNext = .error c →
     ∃ before p rest m, s.placements = before ++ p :: rest ∧ s.placeAll before .vacant = .ok m ∧ s.placeOne m p = .error c) ∧
  (∀ (s : State) (m : SlotMap), EndsLaw s → s.buildNext = .ok m → Agrees m fun id => (s.record id).candidate) ∧
  (∀ s t : State, EndsLaw s → MapLaw s → step s = .next t → MapLaw t) ∧
  (∀ (s : State) (m : SlotMap), s.buildNext = .ok m → ReservedFree s m ∧
     ∀ (t : Idx8) (n : Nat), n < 32 → (s.trib t).cfg.enable = false → m.entry (.trib t) n = none) ∧
  (∀ (m : SlotMap) (gone : RecId → Bool) (p : Port) (n : Nat),
     (∀ e, m.entry p n = some e → gone e.owner = false → (m.vacate gone).entry p n = some e) ∧
     (∀ e, m.entry p n = some e → gone e.owner = true → (m.vacate gone).entry p n = none) ∧
     (m.entry p n = none → (m.vacate gone).entry p n = none))

/-- ABORT COMMIT clears a pending commit and makes the Next Map vacant, so that no flip follows; without one it is refused with
NOTPENDING; a flip taken first leaves none pending. A COMMIT after it flips at the start at hand only if no part of that start has been
taken (R36, R37). The mark flipClosed is the model's own (log 5), and that MAP_FLIP with no
flip due changes nothing is log 2. -/
def Obligations.AbortCommitCancels : Prop :=
  (∀ s : State, Runs s → s.ct.commitPending = true →
    ∃ t, exec (.abortCommit []) s = .next t ∧ Ended s t 0 .ok s.cp.response ∧
      t.ct = { s.ct with commitPending := false, nextMap := .vacant } ∧
      t = { s with cp := t.cp, ct := t.ct, stu := { s.stu with flipClosed := t.stu.flipClosed } } ∧
      t.flipDue = false ∧ exec .mapFlip t = .next t ∧ t.statusByte.getLsbD 7 = false ∧
      (t.stu.flipClosed = true ↔
        s.stu.flipClosed = true ∨ s.stu.begun = true ∨ s.stu.stuTaken = true ∨ s.stu.retiredNow ≠ []) ∧
      (t.stu.flipClosed = true → ∀ ps u, exec (.commit ps) t = .next u → u.flipDue = false)) ∧
  (∀ s : State, Runs s → s.ct.commitPending = false →
    ∃ t, exec (.abortCommit []) s = .next t ∧ Ended s t 0 .notPending s.cp.response ∧ t = { s with cp := t.cp }) ∧
  (∀ s : State, s.inReset = false → s.flipDue = true →
    ∃ t, exec .mapFlip s = .next t ∧ t.ct.commitPending = false ∧ t.cp = s.cp)

/-- MAP QUERY answers the Active Map's entry with the epoch, and is refused with RANGE outside the ports and their slots
(R32; what a vacant entry's answer leaves out is log 15). -/
def Obligations.MapQueryReportsActiveEntry : Prop :=
  ∀ (s : State) (port slot : Byte), Free s →
    ∃ t, exec (.mapQuery [port, slot]) s = .next t ∧ t = { s with cp := t.cp } ∧
      ((8 < port.toNat ∨ (port.toNat < 8 ∧ 31 < slot.toNat) ∨ (port.toNat = 8 ∧ 247 < slot.toNat)) →
        Ended s t 2 .range none) ∧
      (∀ p, readPort port.toNat = some p → entryExists p slot.toNat = true →
        (s.ct.activeMap.entry p slot.toNat = none → Ended s t 2 .ok (some ([6, port, slot, 1] ++ bytes16 s.ct.epoch.toNat))) ∧
        (∀ e, s.ct.activeMap.entry p slot.toNat = some e →
          Ended s t 2 .ok (some ([10, port, slot, 0, byte e.owner.val, byte e.side.code, byte e.pos,
            byte (s.record e.owner).state.code] ++ bytes16 s.ct.epoch.toNat))))

/-- The map flip installs the Next Map but for the entries of the records it frees, leaves the Next Map vacant, advances the epoch by
1, clears commit-pending and raises COMMIT_DONE; each record's state follows its staged operation, and its staged part is removed.
The records that it changes are posted, with those of the detectors that it moves; a detector on a record that is not ACTIVE after
it is BLOCKED, the units of a freed record are UNBOUND; a record with a new trunk end starts its path selection afresh, and a
record without one takes the values of R7 (R38, R39, R40, R44, R112, R116, R118, R137, R140, R146, R149; which trunk end counts as
changed is log 23). -/
def Obligations.MapFlipAppliesStagedOperations : Prop :=
  ∀ s : State, s.inReset = false → s.flipDue = true →
    ∃ t, exec .mapFlip s = .next t ∧
      t.ct.activeMap = s.ct.nextMap.vacate (fun id => (s.record id).freedByFlip) ∧
      t.ct.nextMap = SlotMap.vacant.vacate (fun id => (s.record id).freedByFlip) ∧
      t.ct.epoch = s.ct.epoch + 1 ∧ t.ct.commitPending = false ∧ t.au.flags.getLsbD 12 = true ∧
      (∀ i, i < 12 → t.au.flags.getLsbD i = s.au.flags.getLsbD i) ∧
      (∀ id, (s.record id).staged = none → t.record id = s.record id) ∧
      (∀ id, (s.record id).staged = some .activate → (t.record id).state = .active ∧ (t.record id).ends = (s.record id).ends) ∧
      (∀ id, (s.record id).staged = some .suspend → (t.record id).state = .suspended ∧ (t.record id).ends = (s.record id).ends) ∧
      (∀ id, (s.record id).staged = some .resume → (t.record id).state = .active ∧ (t.record id).ends = (s.record id).ends) ∧
      (∀ id, (s.record id).staged = some .remap →
        (t.record id).state = (s.record id).state ∧ (t.record id).ends = (s.record id).stagedEnds) ∧
      (∀ id, (s.record id).staged = some .retire → (s.record id).fields.hold ≠ 0 →
        (t.record id).state = .retiring ∧ (t.record id).holdRemaining = (s.record id).fields.hold) ∧
      (∀ id, (s.record id).staged = some .retire → (s.record id).fields.hold = 0 → t.record id = .freeRecord) ∧
      (∀ id, (s.record id).staged.isSome = true → (t.record id).staged = none ∧ (t.record id).stagedEnds = ⟨none, none⟩) ∧
      t.tribs = s.tribs ∧ t.trunks = s.trunks ∧ t.clu = s.clu ∧ t.cp = s.cp ∧ t.ct.cursor = s.ct.cursor ∧
      t.ps = { s.ps with sig := t.ps.sig } ∧ s.au.queue <+: t.au.queue ∧
      (∀ id, id ∈ t.au.queue ↔ id ∈ s.au.queue ∨ ((s.record id).fields.attention = true ∧
        ((s.record id).sameShown (t.record id) = false ∨
          (s.record id).freedByFlip = false ∧
            ∃ d dir, (s.det d).binding = some (id, dir) ∧ (t.det d).state ≠ (s.det d).state))) ∧
      (∀ d, (s.det d).binding = none → t.det d = s.det d) ∧ (∀ k, (s.keyer k).binding = none → t.keyer k = s.keyer k) ∧
      (∀ d id dir, (s.det d).binding = some (id, dir) →
        ((s.record id).freedByFlip = true → t.det d = { Detector.reset with
          cfg := (s.det d).cfg, commands := (s.det d).commands, blockedEvents := (s.det d).blockedEvents }) ∧
        ((s.record id).freedByFlip = false → (t.record id).state ≠ .active →
          ((s.det d).state = .blocked → t.det d = { s.det d with release := 0 }) ∧
          ((s.det d).state ≠ .blocked →
            t.det d = { s.det d with state := .blocked, persist := 0, release := 0, prolong := 0, unknown := 0 })) ∧
        ((t.record id).state = .active → (t.record id).far ≠ .sourceFail → (t.record id).far ≠ .conditioned →
          t.det d = s.det d)) ∧
      (∀ k id dir, (s.keyer k).binding = some (id, dir) →
        ((s.record id).freedByFlip = true →
          t.keyer k = { Keyer.reset with cfg := (s.keyer k).cfg, sent := (s.keyer k).sent }) ∧
        ((s.record id).freedByFlip = false → t.keyer k = s.keyer k)) ∧
      (∀ (id : RecId) (r q : Record), r = s.record id → q = t.record id → r.staged.isSome = true →
        (q.trunkCells.isSome = true → q.trunkCells ≠ r.trunkCells →
          q.selected = .none ∧ q.lastPath = none ∧ (∀ k, q.copy.get k = if s.usable k = true then .good else .down) ∧
          (∀ k, q.tag.get k = ⟨false, false, 0, 0, false⟩) ∧ q.far = .unknown ∧ q.farCand = none ∧
          q.switches = r.switches ∧ q.misroutes = r.misroutes ∧ q.health = q.healthOf) ∧
        (q.trunkCells.isSome = true → q.trunkCells = r.trunkCells →
          q.selected = r.selected ∧ q.lastPath = r.lastPath ∧ q.copy = r.copy ∧ q.tag = r.tag ∧ q.far = r.far ∧
          q.farCand = r.farCand ∧ q.health = r.health) ∧
        (q.trunkCells = none → q.selected = .notApplicable ∧ q.copy = ⟨.down, .down⟩ ∧ q.far = .unknown ∧
          (q.inMap = true → q.health = q.healthOf))) ∧
      (∀ n : Fin 248,
        ((∃ id cells, (t.record id).trunkCells = some cells ∧ n.val ∈ cells ∧ (s.record id).trunkCells ≠ some cells) →
          t.ps.sig.get n = ⟨0xF, none⟩) ∧
        ((∀ id cells, (t.record id).trunkCells = some cells → n.val ∈ cells → (s.record id).trunkCells = some cells) →
          t.ps.sig.get n = s.ps.sig.get n))

/-- At a station multiframe start the count returns to 0 and the hold of each RETIRING record decreases by 1, but for the
records that the flip at the same start made RETIRING; a record whose hold reaches 0 becomes FREE. A pending flip stays due; with no
commit pending the start passes with no flip, and a COMMIT after it waits for the next (R36, R42, R43, R68; the rows and marks of a
start are log 5). -/
def Obligations.MultiframeStartCountsHolds : Prop :=
  ∀ s : State, s.inReset = false → s.atBoundary = true → s.stu.begun = false →
    ∃ t, exec .stationMultiframeStart s = .next t ∧ t.stu.count = 0 ∧
      (∀ id, (s.record id).state ≠ .retiring → t.record id = s.record id) ∧
      (∀ id, (s.record id).state = .retiring → id ∈ s.stu.retiredNow → t.record id = s.record id) ∧
      (∀ id, (s.record id).state = .retiring → id ∉ s.stu.retiredNow → 1 < (s.record id).holdRemaining →
        t.record id = { s.record id with holdRemaining := (s.record id).holdRemaining - 1 }) ∧
      (∀ id, (s.record id).state = .retiring → id ∉ s.stu.retiredNow → (s.record id).holdRemaining ≤ 1 →
        t.record id = .freeRecord) ∧
      t.ct.epoch = s.ct.epoch ∧ t.ct.commitPending = s.ct.commitPending ∧ t.tribs = s.tribs ∧ t.trunks = s.trunks ∧
      t.ps = s.ps ∧ t.clu = s.clu ∧ t.cp = s.cp ∧ (s.flipDue = true → t.flipDue = true) ∧
      (s.ct.commitPending = false → t.flipDue = false ∧ ∀ ps u, exec (.commit ps) t = .next u → u.flipDue = false)

/-- The expiry of one record's release hold makes it FREE, its entries vacant in both maps, its detector and keyer UNBOUND,
and posts it by the attention enable it had; the epoch stays. A pending flip stays due; with no commit pending the start at which the
record expires passes with no flip, and a COMMIT after the expiry waits for the next (R36, R43, R44; the rows and marks of a start are
log 5). -/
def Obligations.RetireHoldExpiryFreesRecord : Prop :=
  ∀ (s : State) (id : RecId), s.inReset = false → s.atBoundary = true → s.stu.begun = false →
    (s.record id).state = .retiring → id ∉ s.stu.retiredNow → (s.record id).holdRemaining = 1 →
    ∃ t, exec (.retireHoldExpiry id) s = .next t ∧ t.record id = .freeRecord ∧ (∀ j, j ≠ id → t.record j = s.record j) ∧
      t.ct.activeMap = s.ct.activeMap.vacate (fun i => i == id) ∧ t.ct.nextMap = s.ct.nextMap.vacate (fun i => i == id) ∧
      (∀ d, boundTo (s.det d).binding id = true → (t.det d).binding = none ∧ (t.det d).state = .unbound) ∧
      (∀ d, boundTo (s.det d).binding id = false → t.det d = s.det d) ∧
      (∀ k, boundTo (s.keyer k).binding id = true → (t.keyer k).binding = none ∧ (t.keyer k).test = 0) ∧
      (∀ k, boundTo (s.keyer k).binding id = false → t.keyer k = s.keyer k) ∧
      t.au = { s.au with queue := if (s.record id).fields.attention = true ∧ id ∉ s.au.queue
        then s.au.queue ++ [id] else s.au.queue } ∧
      t = { s with
        au := t.au, dets := t.dets, keyers := t.keyers
        ct := { s.ct with records := t.ct.records, activeMap := t.ct.activeMap, nextMap := t.ct.nextMap }
        stu := { s.stu with
          flipClosed := s.stu.flipClosed || !s.ct.commitPending, retiredNow := t.stu.retiredNow } } ∧
      (s.flipDue = true → t.flipDue = true) ∧
      (s.ct.commitPending = false → ∀ ps u, exec (.commit ps) t = .next u → u.flipDue = false)

/-! ### Tributary ports -/

/-- TRIB CONFIG: RANGE for a port above 7, a flag or a timing above 1, or a vacant nibble above 0xF; INUSE for a port to be disabled
that owns slots, or for signalling turned on while slot 16 is owned; else all seven items are written, and a change of the enable
or of the signalling mode acts at once (R48, R49, R50, R51). An STU that leaves ACQUIRING keeps its acquisition count (log 14). -/
def Obligations.TribConfigChecksAndWrites : Prop :=
  ∀ (s : State) (tb en sg tim auto force code nib : Byte), Clear s →
    ∃ t, exec (.tribConfig [tb, en, sg, tim, auto, force, code, nib]) s = .next t ∧
      (7 < tb.toNat ∨ 1 < en.toNat ∨ 1 < sg.toNat ∨ 1 < tim.toNat ∨ 1 < auto.toNat ∨ 1 < force.toNat ∨ 15 < nib.toNat →
        Ended s t 8 .range s.cp.response ∧ t = { s with cp := t.cp }) ∧
      ∀ (n : Idx8) (c : TribConfig), tb = byte n.val → en.toNat ≤ 1 → sg.toNat ≤ 1 → tim.toNat ≤ 1 → auto.toNat ≤ 1 →
        force.toNat ≤ 1 → nib.toNat ≤ 15 →
        c = ⟨decide (en = 1), decide (sg = 1), decide (tim = 1), decide (auto = 1), decide (force = 1), code, nib.setWidth 4⟩ →
        ((c.enable = false ∧ s.ownersOn (.trib n) ≠ []) ∨ (c.signalling = true ∧ (s.trib n).cfg.signalling = false ∧
            s.ct.activeMap.entry (.trib n) 16 ≠ none) →
          Ended s t 8 .inuse s.cp.response ∧ t = { s with cp := t.cp }) ∧
        ((c.enable = true ∨ s.ownersOn (.trib n) = []) → (c.signalling = false ∨ (s.trib n).cfg.signalling = true ∨
            s.ct.activeMap.entry (.trib n) 16 = none) →
          Ended s t 8 .ok s.cp.response ∧ TribEvent s t n ∧ t.ct = s.ct ∧ t.dets = s.dets ∧
          (t.trib n).cfg = c ∧ (t.trib n).counters = (s.trib n).counters ∧
          (c.enable = true → (s.trib n).cfg.enable = false → (t.trib n).rx.align = .noSignal ∧ (t.trib n).rx.absence = 0 ∧
            (t.trib n).txCount = 0 ∧ (t.trib n).store = .empty ∧ (t.trib n).txStore = .empty) ∧
          (c.enable = false → (s.trib n).cfg.enable = true → (t.trib n).rx.align = .off ∧ (t.trib n).rx.ais = false ∧
            (t.trib n).rx.remote = false ∧ (t.trib n).rx.mfAligned = false ∧ (t.trib n).good = false ∧
            (t.trib n).store = .empty ∧ (t.trib n).txStore = .empty) ∧
          (c.enable = (s.trib n).cfg.enable → (t.trib n).rx.align = (s.trib n).rx.align ∧
            (t.trib n).txCount = (s.trib n).txCount ∧ (t.trib n).store = (s.trib n).store) ∧
          (c.signalling = (s.trib n).cfg.signalling → (t.trib n).sig = (s.trib n).sig) ∧
          (c.signalling ≠ (s.trib n).cfg.signalling →
            (t.trib n).sig = Vector.replicate 30 ⟨0xF, none⟩ ∧ (t.trib n).rx.mfAligned = false) ∧
          (c = (s.trib n).cfg → t.trib n = s.trib n))

/-- The six status queries leave a response that begins with its length and the unit's first items, and change nothing
else; a unit number out of range is refused with RANGE (R66, R77, R101, R147, R154, R158, R175). The count ahead of the list in
TIMING STATUS, the one byte of the vacant nibble in TRIB STATUS, the bytes of an absent binding in DET STATUS and KEY STATUS, and the
masks of LINE READ are the model's layout (log 15); the clock that TRUNK STATUS shows is the last judgement (log 13), and
its RDI being transmitted is that of the frame on the line, 1 while that is ones (log 16). -/
def Obligations.StatusQueriesAnswer : Prop :=
  ∀ s : State, Free s →
    (∀ n : Idx8, ∃ t r, exec (.tribStatus [byte n.val]) s = .next t ∧ Ended s t 1 .ok (some r) ∧ t = { s with cp := t.cp } ∧
      r.length = 44 ∧ r.take 9 = [44, yes (s.trib n).cfg.enable, yes (s.trib n).cfg.signalling,
        yes (s.trib n).cfg.loopTiming, yes (s.trib n).cfg.autoRa, yes (s.trib n).cfg.forceRa, (s.trib n).cfg.vacantCode,
        byte (s.trib n).cfg.vacantNibble.toNat, byte (s.trib n).rx.align.code] ∧
      r.drop 34 = counter (s.trib n).counters.alignErrors ++ counter (s.trib n).counters.losses ++
        counter (s.trib n).counters.repeatSlips ++ counter (s.trib n).counters.deleteSlips ++
        counter (s.trib n).counters.txSlips) ∧
    (∃ t r, exec (.timingStatus []) s = .next t ∧ Ended s t 0 .ok (some r) ∧ t = { s with cp := t.cp } ∧
      r.length = 16 + s.stu.list.length ∧ r.take 2 = [byte r.length, byte s.stu.list.length] ∧
      (r.drop 2).take s.stu.list.length = s.stu.list.map fun x => byte x.code) ∧
    (∀ k : Trunk, ∃ t r, exec (.trunkStatus [byte (trunkCode k)]) s = .next t ∧ Ended s t 1 .ok (some r) ∧
      t = { s with cp := t.cp } ∧ r.length = 25 ∧
      r.take 6 = [25, yes (s.port k).enable, byte s.trunks.skew, s.trunks.vacantCode, byte (s.port k).align.code,
        yes (s.port k).clock] ∧ r.getD 9 0 = yes (((s.port k).lineOut.getD 7 0xFF).getLsbD 7) ∧
      r.drop 17 = counter (s.port k).alignErrors ++ counter (s.port k).seqErrors ++ counter (s.port k).jumps ++
        counter (s.port k).windowLosses) ∧
    (∀ n : Idx8, ∃ t r, exec (.detStatus [byte n.val]) s = .next t ∧ Ended s t 1 .ok (some r) ∧ t = { s with cp := t.cp } ∧
      r.length = 25 ∧ (r.drop 4).take 9 = [(s.det n).cfg.guard, (s.det n).cfg.c1, (s.det n).cfg.c2, yes (s.det n).cfg.dual,
        byte (s.det n).cfg.p, byte (s.det n).cfg.r, byte (s.det n).cfg.m, byte (s.det n).cfg.u, byte (s.det n).state.code] ∧
      r.drop 21 = counter (s.det n).commands ++ counter (s.det n).blockedEvents) ∧
    (∀ n : Idx8, ∃ t r, exec (.keyStatus [byte n.val]) s = .next t ∧ Ended s t 1 .ok (some r) ∧ t = { s with cp := t.cp } ∧
      r.length = 25 ∧ (r.drop 4).take 8 = [(s.keyer n).cfg.guard, (s.keyer n).cfg.c1, (s.keyer n).cfg.c2,
        yes (s.keyer n).cfg.dual, byte (s.keyer n).cfg.kmin, byte (s.keyer n).cfg.g, byte (s.keyer n).cfg.q,
        byte (s.keyer n).state.code] ∧ r.drop 23 = counter (s.keyer n).sent) ∧
    (∃ t r, exec (.lineRead []) s = .next t ∧ Ended s t 0 .ok (some r) ∧ t = { s with cp := t.cp } ∧ r.length = 30 ∧
      (∀ n : Idx8, (r.getD 1 0).getLsbD n.val = s.presented n ∧ (r.getD 2 0).getLsbD n.val = (s.line n).latch) ∧
      r.drop 27 = [yes s.alarmSummary, byte (maskOf s.alarmTerms), s.clu.alarmMask.setWidth 8]) ∧
    (∀ b : Byte, 7 < b.toNat → ∀ c ∈ [Instr.tribStatus [b], .detStatus [b], .keyStatus [b]],
      ∃ t, exec c s = .next t ∧ Ended s t 1 .range none ∧ t = { s with cp := t.cp }) ∧
    (∀ b : Byte, 1 < b.toNat →
      ∃ t, exec (.trunkStatus [b]) s = .next t ∧ Ended s t 1 .range none ∧ t = { s with cp := t.cp })

/-- The judgement of receive clocks. The fourth station frame without a receive clock takes a tributary port or a trunk to
NO_SIGNAL: alarms, runs, stores and a frame in reception are discarded; a tributary port that was ALIGNED counts one loss; a trunk
that was ALIGNED becomes UNANCHORED, and the pair anchors on the other trunk if it is ALIGNED and no trunk is usable. Every station
frame judges the clocks of all ten ports, after its traffic: a clock ends NO_SIGNAL, and recentres the transmit store of a port in
LOOP timing; it returns the count of absent frames to 0; an absent one is counted, and the fourth is a loss (R52, R83, R94, R105,
R106; that a frame judges last, one port after another, is log 6; the
receive clock item of TRUNK STATUS, set at each judgement and kept while the trunk is disabled, is log 13, the model's choice).
An STU that leaves ACQUIRING keeps its acquisition count (log 14). -/
def Obligations.ClockLossEntersNoSignal : Prop :=
  (∀ (s : State) (n : Idx8), s.inReset = false → (s.trib n).rx.absence = 3 →
    ((s.trib n).rx.align = .search ∨ (s.trib n).rx.align = .confirm ∨ (s.trib n).rx.align = .aligned) →
    ∃ t, exec (.tribClockLoss n) s = .next t ∧ TribEvent s t n ∧ Aside s t ∧
      ClockLost (s.trib n) (t.trib n)) ∧
  (∀ (s : State) (k : Trunk), s.inReset = false → (s.port k).enable = true → (s.port k).absence = 3 →
    ((s.port k).align = .search ∨ (s.port k).align = .confirm ∨ (s.port k).align = .aligned) →
    ∃ t, exec (.trunkClockLoss k) s = .next t ∧ TrunkEvent s t ∧ t.cp = s.cp ∧
      t.port k = { s.port k with
        align := .noSignal, absence := 0, clock := false, kept := [], cand := 0, expected := 0, errorRun := 0, seqRun := 0,
        inRx := none } ∧
      ((s.port k).align = .aligned → t.deskew k = ⟨[], .unanchored, 0, 0, .none⟩) ∧
      ((s.port k).align ≠ .aligned → t.ps = s.ps ∧ t.port (otherTrunk k) = s.port (otherTrunk k)) ∧
      ((s.usable (otherTrunk k) = true ∨ (s.port (otherTrunk k)).align ≠ .aligned) →
        t.deskew (otherTrunk k) = s.deskew (otherTrunk k) ∧ t.port (otherTrunk k) = s.port (otherTrunk k)) ∧
      ((s.port k).align = .aligned → s.usable (otherTrunk k) = false → (s.port (otherTrunk k)).align = .aligned →
        t.deskew (otherTrunk k) = ⟨[], .inWindow, 0, 0, .awaiting⟩)) ∧
  (∀ (s m : State) (inp : FrameIn), s.inReset = false → m = (s.opening inp).traffic inp →
    ∃ t, exec (.stationFrame inp) s = .next t ∧
      (∀ n : Idx8, (m.trib n).rx = (s.trib n).rx ∧ (m.trib n).cfg = (s.trib n).cfg ∧
        TribJudged (m.trib n) (t.trib n) (inp.tribClock.getLsbD n.val) ∧
        (t.au.flags.getLsbD n.val = true ↔
          (m.au.flags.getLsbD n.val = true ∨ (m.trib n).sameShown (t.trib n) = false))) ∧
      TrunkJudged (m.port .a) (t.port .a) inp.trunkAClock ∧ TrunkJudged (m.port .b) (t.port .b) inp.trunkBClock ∧
      (∀ k, (m.port k).align = (s.port k).align ∧ (m.port k).absence = (s.port k).absence ∧
        (m.port k).enable = (s.port k).enable ∧
        ((t.port k).align ≠ (m.port k).align → t.au.flags.getLsbD (trunkFlag k) = true) ∧
        ((m.port k).align = .aligned → (t.port k).align ≠ .aligned → t.deskew k = ⟨[], .unanchored, 0, 0, .none⟩)) ∧
      ((∀ k, (m.port k).align = .aligned → (t.port k).align = .aligned) →
        t.ps = m.ps ∧ ∀ k, (t.port k).jumps = (m.port k).jumps))

/-- SEARCH and CONFIRM of a tributary port: the first place of the seven bits 0011011 is the candidate; a marker 0, or another
word in the frame after, resumes the search one bit after it; both checks passed, the port is ALIGNED with its store
centred. No event of these counts an error or a loss (R53, R79).
An STU that leaves ACQUIRING keeps its acquisition count (log 14). -/
def Obligations.TribSearchAndConfirmation : Prop :=
  ∀ (s : State) (n : Idx8) (bits all : List Bool), s.inReset = false → all = (s.trib n).rx.kept ++ bits →
    (∀ i, (s.trib n).rx.align = .search → bits ≠ [] → all.length = i + 7 → all.drop i = tribWord →
      (∀ j, j < i → (all.drop j).take 7 ≠ tribWord) →
      ∃ t, exec (.tribCandidateFound n bits) s = .next t ∧ TribEvent s t n ∧ Aside s t ∧
        (t.trib n).rx.align = .confirm ∧ (t.trib n).rx.kept = all.drop (i + 1) ∧
        (t.trib n).rx.ais = ((s.trib n).rx.aisFeed bits).ais ∧ (t.trib n).counters = (s.trib n).counters) ∧
    ((s.trib n).rx.align = .confirm →
      (all.length = 256 ∧ all.getD 255 false = false ∨
        all.length = 518 ∧ all.getD 255 false = true ∧ (all.drop 511).take 7 ≠ tribWord) →
      ∃ t, exec (.tribConfirmationFailed n bits) s = .next t ∧ TribEvent s t n ∧ Aside s t ∧
        (t.trib n).rx.align = .search ∧ (t.trib n).rx.kept = all ∧ (t.trib n).counters = (s.trib n).counters) ∧
    ((s.trib n).rx.align = .confirm → all.length = 518 → all.getD 255 false = true → (all.drop 511).take 7 = tribWord →
      ∃ t, exec (.tribAlignmentConfirmed n bits) s = .next t ∧ TribEvent s t n ∧ Aside s t ∧
        (t.trib n).rx.align = .aligned ∧ (t.trib n).rx.part = all.drop 510 ∧ (t.trib n).rx.odd = false ∧
        (t.trib n).rx.errorRun = 0 ∧ (t.trib n).rx.remote = false ∧ (t.trib n).rx.setRun = 0 ∧
        (t.trib n).rx.clearRun = 0 ∧ (t.trib n).rx.mfAligned = false ∧
        (t.trib n).store = ⟨[List.replicate 32 0xFF], none⟩ ∧ (t.trib n).counters = (s.trib n).counters)

/-- A line frame completes in ALIGNED and is not the one that ends it: its word or its remote-alarm bit is judged, and it joins
the receive store; with two unread frames there the oldest goes, a delete slip is counted, every ACTIVE or SUSPENDED record on
the port counts a slip, and the detectors that watch it restart. The remote-alarm bit of an odd frame advances or ends the runs
and turns the indicator at the third. Slot 16 brings multiframe alignment, its markers, and the receipts of two positions (R54,
R56, R59, R60, R79, R80, R81, R145). An STU that leaves ACQUIRING keeps its acquisition count (log 14). -/
def Obligations.TribFrameIsJudgedAndStored : Prop :=
  ∀ (s : State) (n : Idx8) (bits frame : List Bool), s.inReset = false → frame = (s.trib n).rx.part ++ bits →
    (s.trib n).rx.align = .aligned → frame.length = 256 → (s.trib n).thirdError (byteAt frame 0) = false →
    ∃ t, exec (.tribFrameReceived n bits) s = .next t ∧ TribEvent s t n ∧ t.cp = s.cp ∧
      (t.trib n).rx.align = .aligned ∧ (t.trib n).rx.odd = !(s.trib n).rx.odd ∧ (t.trib n).rx.part = [] ∧
      ((s.trib n).rx.odd = true → (t.trib n).rx.errorRun = (s.trib n).rx.errorRun ∧
        (t.trib n).counters.alignErrors = (s.trib n).counters.alignErrors ∧
        ((s.trib n).rx.remote = false → (byteAt frame 0).getLsbD 5 = true → (t.trib n).rx.clearRun = 0 ∧
          (t.trib n).rx.setRun = (s.trib n).rx.setRun + 1 ∧ (t.trib n).rx.remote = decide (3 ≤ (s.trib n).rx.setRun + 1)) ∧
        ((s.trib n).rx.remote = false → (byteAt frame 0).getLsbD 5 = false → (t.trib n).rx.setRun = 0 ∧
          (t.trib n).rx.clearRun = (s.trib n).rx.clearRun ∧ (t.trib n).rx.remote = false) ∧
        ((s.trib n).rx.remote = true → (byteAt frame 0).getLsbD 5 = false → (t.trib n).rx.setRun = 0 ∧
          (t.trib n).rx.clearRun = (s.trib n).rx.clearRun + 1 ∧
          (t.trib n).rx.remote = decide ((s.trib n).rx.clearRun + 1 < 3)) ∧
        ((s.trib n).rx.remote = true → (byteAt frame 0).getLsbD 5 = true → (t.trib n).rx.clearRun = 0 ∧
          (t.trib n).rx.setRun = (s.trib n).rx.setRun ∧ (t.trib n).rx.remote = true)) ∧
      ((s.trib n).cfg.signalling = false →
        (t.trib n).sig = (s.trib n).sig ∧ (t.trib n).rx.mfAligned = (s.trib n).rx.mfAligned) ∧
      ((s.trib n).cfg.signalling = true → (s.trib n).rx.mfAligned = false →
        (upper (byteAt frame 16) = 0 → (t.trib n).rx.mfAligned = true ∧ (t.trib n).rx.mfNext = 1 ∧ (t.trib n).rx.mfWrong = 0 ∧
          ∀ i : Fin 30, (t.trib n).sig.get i = ⟨((s.trib n).sig.get i).nib, none⟩) ∧
        (upper (byteAt frame 16) ≠ 0 → (t.trib n).rx.mfAligned = false ∧ (t.trib n).sig = (s.trib n).sig)) ∧
      ((s.trib n).cfg.signalling = true → (s.trib n).rx.mfAligned = true → (s.trib n).rx.mfNext = 0 →
        (t.trib n).sig = (s.trib n).sig ∧
        (upper (byteAt frame 16) = 0 →
          (t.trib n).rx.mfAligned = true ∧ (t.trib n).rx.mfNext = 1 ∧ (t.trib n).rx.mfWrong = 0) ∧
        (upper (byteAt frame 16) ≠ 0 → (s.trib n).rx.mfWrong = 0 →
          (t.trib n).rx.mfAligned = true ∧ (t.trib n).rx.mfNext = 1 ∧ (t.trib n).rx.mfWrong = 1) ∧
        (upper (byteAt frame 16) ≠ 0 → 1 ≤ (s.trib n).rx.mfWrong → (t.trib n).rx.mfAligned = false)) ∧
      (∀ k, (s.trib n).cfg.signalling = true → (s.trib n).rx.mfAligned = true → (s.trib n).rx.mfNext = k → 1 ≤ k → k ≤ 15 →
        (t.trib n).rx.mfAligned = true ∧ (t.trib n).rx.mfNext = (k + 1) % 16 ∧
        ∀ (i : Fin 30) (v : Nibble),
          (i.val + 1 = k ∧ v = upper (byteAt frame 16) ∨ i.val = k + 14 ∧ v = lower (byteAt frame 16) →
            (((s.trib n).sig.get i).cand = some v → (t.trib n).sig.get i = ⟨v, some v⟩) ∧
            (((s.trib n).sig.get i).cand ≠ some v →
              (t.trib n).sig.get i = ⟨((s.trib n).sig.get i).nib, some v⟩)) ∧
          (i.val + 1 ≠ k → i.val ≠ k + 14 → (t.trib n).sig.get i = (s.trib n).sig.get i)) ∧
      ((s.trib n).rx.odd = false → (t.trib n).rx.remote = (s.trib n).rx.remote ∧
        (byteAt frame 0 &&& 0x7F = 0x1B → (t.trib n).rx.errorRun = 0 ∧
          (t.trib n).counters.alignErrors = (s.trib n).counters.alignErrors) ∧
        (byteAt frame 0 &&& 0x7F ≠ 0x1B → (t.trib n).rx.errorRun = (s.trib n).rx.errorRun + 1 ∧
          (t.trib n).counters.alignErrors = bump (s.trib n).counters.alignErrors)) ∧
      (t.trib n).counters.losses = (s.trib n).counters.losses ∧
      ((s.trib n).store.unread.length < 2 →
        (t.trib n).store = ⟨(s.trib n).store.unread ++ [bytesOf frame 32], (s.trib n).store.last⟩ ∧
        (t.trib n).counters.deleteSlips = (s.trib n).counters.deleteSlips ∧ t.ct = s.ct ∧ t.dets = s.dets) ∧
      (2 ≤ (s.trib n).store.unread.length →
        (t.trib n).store = ⟨(s.trib n).store.unread.drop 1 ++ [bytesOf frame 32], (s.trib n).store.last⟩ ∧
        (t.trib n).counters.deleteSlips = bump (s.trib n).counters.deleteSlips ∧
        t.ct = { s.ct with records := t.ct.records } ∧ DetsNotified s t (.trib n) ∧
        ∀ id, t.record id = { s.record id with
          slips := if ((s.record id).state = .active ∨ (s.record id).state = .suspended) ∧ id ∈ s.ownersOn (.trib n)
            then bump (s.record id).slips else (s.record id).slips })

/-- The rows for a change of the remote alarm and for the loss of multiframe alignment act as the completion of the frame that
causes them: the third set bit in a row turns the indicator on, the third clear bit off; the second wrong marker in a row
ends MF_ALIGNED and keeps the table (R56, R59, R60). That these rows fall at the frame's end, and so give the very state of
TRIB_FRAME_RECEIVED, is the model's choice (log 7). -/
def Obligations.RemoteAlarmAndMultiframeLoss : Prop :=
  ∀ (s : State) (n : Idx8) (bits frame : List Bool), s.inReset = false → frame = (s.trib n).rx.part ++ bits →
    (s.trib n).rx.align = .aligned → frame.length = 256 →
    ((s.trib n).rx.odd = true → (s.trib n).rx.remote = false → (s.trib n).rx.setRun = 2 →
      (byteAt frame 0).getLsbD 5 = true →
      ∃ t, exec (.tribRemoteAlarmChange n bits) s = .next t ∧ exec (.tribFrameReceived n bits) s = .next t ∧
        (t.trib n).rx.remote = true) ∧
    ((s.trib n).rx.odd = true → (s.trib n).rx.remote = true → (s.trib n).rx.clearRun = 2 →
      (byteAt frame 0).getLsbD 5 = false →
      ∃ t, exec (.tribRemoteAlarmChange n bits) s = .next t ∧ exec (.tribFrameReceived n bits) s = .next t ∧
        (t.trib n).rx.remote = false) ∧
    ((s.trib n).thirdError (byteAt frame 0) = false → (s.trib n).cfg.signalling = true → (s.trib n).rx.mfAligned = true →
      (s.trib n).rx.mfNext = 0 → (s.trib n).rx.mfWrong = 1 → upper (byteAt frame 16) ≠ 0 →
      ∃ t, exec (.mfAlignmentLoss n bits) s = .next t ∧ exec (.tribFrameReceived n bits) s = .next t ∧
        (t.trib n).rx.mfAligned = false ∧ (t.trib n).sig = (s.trib n).sig)

/-- The third errored word in a row takes a tributary port from ALIGNED to SEARCH with one loss, its store empty, remote alarm
off and the multiframe state MF_SEARCH; AIS and its window run on; the search takes the bits after slot 0, at slot 0 itself
or with the whole frame (R54, R79; log 26). An STU that leaves ACQUIRING keeps its acquisition count (log 14). -/
def Obligations.ThirdErroredWordEndsAlignment : Prop :=
  ∀ (s : State) (n : Idx8) (bits frame : List Bool), s.inReset = false → frame = (s.trib n).rx.part ++ bits →
    (s.trib n).rx.align = .aligned → (s.trib n).rx.odd = false → (s.trib n).rx.errorRun = 2 →
    byteAt frame 0 &&& 0x7F ≠ 0x1B →
    (frame.length = 8 → ∃ t, exec (.tribAlignmentLoss n bits) s = .next t ∧ (t.trib n).rx.kept = [] ∧
      TribEvent s t n ∧ Aside s t ∧ (t.trib n).rx.align = .search ∧ (t.trib n).store = .empty ∧
      (t.trib n).rx.remote = false ∧ (t.trib n).rx.mfAligned = false ∧ (t.trib n).rx.ais = ((s.trib n).rx.aisFeed bits).ais ∧
      (t.trib n).counters = { (s.trib n).counters with
        alignErrors := bump (s.trib n).counters.alignErrors, losses := bump (s.trib n).counters.losses }) ∧
    (frame.length = 256 → ∃ t, exec (.tribFrameReceived n bits) s = .next t ∧ (t.trib n).rx.kept = frame.drop 8 ∧
      TribEvent s t n ∧ Aside s t ∧ (t.trib n).rx.align = .search ∧ (t.trib n).store = .empty ∧
      (t.trib n).rx.remote = false ∧ (t.trib n).rx.mfAligned = false ∧ (t.trib n).rx.ais = ((s.trib n).rx.aisFeed bits).ais ∧
      (t.trib n).counters = { (s.trib n).counters with
        alignErrors := bump (s.trib n).counters.alignErrors, losses := bump (s.trib n).counters.losses })

/-- The end of an AIS window sets AIS by the zeros of its 512 bits and begins a new window; nothing else of the port changes
but the bits it keeps (R55; that no other event falls in these bits is log 7).
An STU that leaves ACQUIRING keeps its acquisition count (log 14). -/
def Obligations.AisWindowEndJudgesZeros : Prop :=
  ∀ (s : State) (n : Idx8) (bits : List Bool), s.inReset = false → (s.trib n).rx.aisBits < 512 →
    (s.trib n).rx.aisBits + bits.length = 512 → (s.trib n).quiet bits = true →
    ∃ t, exec (.aisWindowEnd n bits) s = .next t ∧ TribEvent s t n ∧ Aside s t ∧
      (t.trib n).rx.ais = decide ((s.trib n).rx.aisZeros + bits.count false < 3) ∧ (t.trib n).rx.aisBits = 0 ∧
      (t.trib n).rx.aisZeros = 0 ∧
      t.trib n = { s.trib n with rx := { (s.trib n).rx with
        ais := (t.trib n).rx.ais, aisBits := 0, aisZeros := 0, kept := (t.trib n).rx.kept, part := (t.trib n).rx.part } }

/-- A transmit frame in LOOP timing takes the oldest unread frame of the transmit store, or repeats the frame last read and
counts a transmit slip; a station-paced frame left due takes the bytes delivered; slot 0 is 0x9B in an even frame and 0xDF in an odd
one, 0xFF with remote alarm; slot 16 carries the signalling multiframe with signalling on, and the vacant nibble of the port as it
stands for a position without a circuit's; vacant slots carry the vacant slot code; the frame count advances. The remote-alarm bit on
the line, which TRIB STATUS reports, is that of the last odd frame. A frame due at a disabled port is sent with every bit 1 (R46,
R47, R51, R62, R63, R64, R82, R83, R131; that a station-paced frame is left due is log 4, the bit reported for ones log 16). -/
def Obligations.TribTransmitFrameSent : Prop :=
  (∀ (s : State) (n : Idx8), s.inReset = false → (s.trib n).cfg.enable = false → (s.trib n).txDue = true →
    ∃ t, exec (.tribTransmitFrame n) s = .next t ∧ t = { s with tribs := t.tribs } ∧ (∀ m, m ≠ n → t.trib m = s.trib m) ∧
      t.trib n = { s.trib n with lineOut := List.replicate 32 0xFF, lineRemote := true, txDue := false }) ∧
  (∀ (s : State) (n : Idx8), s.inReset = false → (s.trib n).cfg.enable = true → (s.trib n).txDue = true →
    ((s.trib n).cfg.loopTiming = false ∨ (s.trib n).rx.align = .noSignal) → (s.trib n).delivered.length = 32 →
    ∃ t, exec (.tribTransmitFrame n) s = .next t ∧ t = { s with tribs := t.tribs } ∧ (∀ m, m ≠ n → t.trib m = s.trib m) ∧
      LineSent (s.trib n) (s.trib n).delivered (t.trib n).lineOut ∧
      t.trib n = { s.trib n with
        lineOut := (t.trib n).lineOut, txCount := (s.trib n).txCount + 1, txDue := false
        lineRemote := if (s.trib n).txCount.getLsbD 0 = true then (s.trib n).remoteSent else (s.trib n).lineRemote }) ∧
  ∀ (s : State) (n : Idx8), s.inReset = false → (s.trib n).cfg.enable = true → (s.trib n).cfg.loopTiming = true →
    (s.trib n).rx.align ≠ .noSignal →
    ∃ t, exec (.tribTransmitFrame n) s = .next t ∧ t = { s with tribs := t.tribs } ∧ (∀ m, m ≠ n → t.trib m = s.trib m) ∧
      (t.trib n).txCount = (s.trib n).txCount + 1 ∧ (t.trib n).cfg = (s.trib n).cfg ∧ (t.trib n).rx = (s.trib n).rx ∧
      (t.trib n).txSig = (s.trib n).txSig ∧
      (t.trib n).lineRemote =
        (if (s.trib n).txCount.getLsbD 0 = true then (s.trib n).remoteSent else (s.trib n).lineRemote) ∧
      (∀ f rest, (s.trib n).txStore.unread = f :: rest →
        (t.trib n).txStore = ⟨rest, some f⟩ ∧ (t.trib n).counters = (s.trib n).counters) ∧
      ((s.trib n).txStore.unread = [] → (t.trib n).txStore = (s.trib n).txStore ∧
        (t.trib n).counters = { (s.trib n).counters with txSlips := bump (s.trib n).counters.txSlips }) ∧
      ∀ f, (∃ rest, (s.trib n).txStore.unread = f :: rest) ∨
          ((s.trib n).txStore.unread = [] ∧ (s.trib n).txStore.last = some f) → f.length = 32 →
        LineSent (s.trib n) f (t.trib n).lineOut

/-! ### Station timing -/

/-- TIMING CONFIG: RANGE for a revertive flag above 1, a WTR time of 0, a source code above 10 or a source twice; else the
three items are written, the WTR count returns to 0, and the STU meets the qualifications with them (R71 to R76).
An STU that leaves ACQUIRING keeps its acquisition count (log 14). -/
def Obligations.TimingConfigWritesList : Prop :=
  ∀ (s : State) (rev wtr : Byte) (codes : List Byte), Clear s → codes.length ≤ 4 →
    ∃ t, exec (.timingConfig (rev :: wtr :: byte codes.length :: codes)) s = .next t ∧
      (1 < rev.toNat ∨ wtr = 0 ∨ (∃ c ∈ codes, 10 < c.toNat) ∨ ¬ codes.Nodup →
        Ended s t (3 + codes.length) .range s.cp.response ∧ t = { s with cp := t.cp }) ∧
      (rev.toNat ≤ 1 → wtr ≠ 0 → (∀ c ∈ codes, c.toNat ≤ 10) → codes.Nodup →
        Ended s t (3 + codes.length) .ok s.cp.response ∧
        t.stu.list.map (fun x => byte x.code) = codes ∧ t.stu.revertive = decide (rev = 1) ∧ t.stu.wtrTime = wtr.toNat ∧
        t.stu.wtrCount = 0 ∧ t.stu.refActive = s.stu.refActive ∧ t.stu.count = s.stu.count ∧
        (∃ raised, StuReacted { s.stu with
            list := t.stu.list, revertive := t.stu.revertive, wtrTime := t.stu.wtrTime, wtrCount := 0 } t.stu s.qualified raised ∧
          t.au.flags.getLsbD 10 = (s.au.flags.getLsbD 10 || raised)) ∧
        t = { s with cp := t.cp, stu := t.stu, au := t.au })

/-- The STU at a multiframe start: a completed acquisition locks on the candidate, a holdover that runs out gives FREE_RUN, and
an ended wait to restore acquires the target; the fourth frame without edges makes REF inactive, and a station LOCKED on REF
with no other source holds over. The start makes every count of the STU's, and then the STU meets the qualifications: it acquires out
of FREE_RUN and HOLDOVER, leaves a lost source, and follows its WTR target. A station frame judges REF's edges, the STU meets what
comes of it, and no reaction is left at its end (R70, R71, R72, R73, R74, R75; the order of the judgements is log 6, the marks of a
multiframe start, which each of its rows closes to a later COMMIT, log 5). An STU that leaves ACQUIRING keeps its acquisition count (log 14). -/
def Obligations.TimingUnitChangesState : Prop :=
  (∀ (s : State) (src : Source), s.inReset = false → s.atBoundary = true → s.stu.stuTaken = false →
    s.stu.state = .acquiring → s.stu.acquisition = 1 → s.stu.selected = some src → src ∈ s.stu.list → s.qualified src = true →
    ∃ t, exec .acquisitionComplete s = .next t ∧ t.stu.state = .locked ∧ t.stu.selected = some src ∧
      t.stu.memory = true ∧ t.stu.holdover = 0 ∧ t.au.flags.getLsbD 10 = true ∧
      t.stu.flipClosed = (s.stu.flipClosed || !s.ct.commitPending) ∧ t = { s with stu := t.stu, au := t.au }) ∧
  (∀ s : State, s.inReset = false → s.atBoundary = true → s.stu.stuTaken = false →
    s.stu.state = .holdover → s.stu.holdover = 1 → (∀ src ∈ s.stu.list, s.qualified src = false) →
    ∃ t, exec .holdoverExpiry s = .next t ∧ t.stu.state = .freeRun ∧ t.stu.selected = none ∧ t.stu.memory = false ∧
      t.stu.holdover = 0 ∧ t.au.flags.getLsbD 10 = true ∧
      t.stu.flipClosed = (s.stu.flipClosed || !s.ct.commitPending) ∧ t = { s with stu := t.stu, au := t.au }) ∧
  (∀ (s : State) (src : Source), s.inReset = false → s.atBoundary = true → s.stu.stuTaken = false →
    s.stu.state = .locked → s.stu.wtrTarget = some src → s.stu.wtrCount + 1 = s.stu.wtrTime → src ∈ s.stu.list →
    s.qualified src = true →
    ∃ t, exec .wtrExpiry s = .next t ∧ t.stu.state = .acquiring ∧ t.stu.selected = some src ∧ t.stu.acquisition = 0 ∧
      t.stu.wtrTarget = none ∧ t.au.flags.getLsbD 10 = true ∧
      t.stu.flipClosed = (s.stu.flipClosed || !s.ct.commitPending) ∧ t = { s with stu := t.stu, au := t.au }) ∧
  (∀ s : State, s.inReset = false → s.stu.refActive = true → s.stu.refIdle = 3 →
    ∃ t, exec .refActivityLoss s = .next t ∧ t.stu.refActive = false ∧ t.qualified .ref = false ∧
      t = { s with stu := t.stu, au := t.au } ∧
      (s.stu.state = .locked → s.stu.selected = some .ref → (∀ src ∈ s.stu.list, src ≠ .ref → s.qualified src = false) →
        t.stu.state = .holdover ∧ t.stu.selected = none ∧ t.au.flags.getLsbD 10 = true ∧
        t.stu.holdover = if s.stu.holdover = 0 then 1936 else s.stu.holdover) ∧
      ∃ raised, StuReacted { s.stu with refActive := false, refIdle := 0 } t.stu t.qualified raised ∧
        t.au.flags.getLsbD 10 = (s.au.flags.getLsbD 10 || raised)) ∧
  (∀ s : State, s.inReset = false → s.atBoundary = true → s.stu.begun = false → s.stu.stuTaken = false →
    ∃ t v w r1 r2, exec .stationMultiframeStart s = .next t ∧ StuCounted s.stu v r1 ∧ StuReacted v w s.qualified r2 ∧
      t.stu = { w with
        count := 0, started := true, begun := true, flipClosed := s.stu.flipClosed || !s.ct.commitPending, stuTaken := true
        retiredNow := t.stu.retiredNow } ∧
      t.au.flags.getLsbD 10 = (s.au.flags.getLsbD 10 || r1 || r2)) ∧
  (∀ (s m : State) (inp : FrameIn), s.inReset = false → m = (s.opening inp).traffic inp →
    ∃ t, exec (.stationFrame inp) s = .next t ∧
      (inp.refEdges = true → t.stu.refActive = true ∧ t.stu.refIdle = 0) ∧
      (inp.refEdges = false → s.stu.refActive = false → t.stu.refActive = false ∧ t.stu.refIdle = s.stu.refIdle) ∧
      (inp.refEdges = false → s.stu.refActive = true → s.stu.refIdle < 3 →
        t.stu.refActive = true ∧ t.stu.refIdle = s.stu.refIdle + 1) ∧
      (inp.refEdges = false → s.stu.refActive = true → 3 ≤ s.stu.refIdle →
        t.stu.refActive = false ∧ t.stu.refIdle = 0) ∧
      StuReacted t.stu t.stu t.qualified false ∧
      ((∀ src, src ≠ .ref → t.qualified src = m.qualified src) → StuReacted m.stu m.stu m.qualified false →
        ∃ raised, StuReacted { m.stu with refActive := t.stu.refActive, refIdle := t.stu.refIdle } t.stu t.qualified raised ∧
          t.au.flags.getLsbD 10 = (m.au.flags.getLsbD 10 || raised)))

/-! ### The trunk pair and the path selector -/

/-- TRUNK CONFIG: RANGE for an enable above 1 or a skew above 24; else the four items are written; a trunk enabled goes to
NO_SIGNAL, a trunk disabled to OFF with its frame in reception discarded; recorded far-end items and counters stay, but that the
pair anchors on an ALIGNED trunk that the other's departure leaves without a usable one, and a deskew jump is counted there (R91,
R92, R93, R105, R106). An STU that leaves ACQUIRING keeps its acquisition count (log 14). -/
def Obligations.TrunkConfigWritesPair : Prop :=
  ∀ (s : State) (ea eb skew code : Byte), Clear s →
    ∃ t, exec (.trunkConfig [ea, eb, skew, code]) s = .next t ∧
      (1 < ea.toNat ∨ 1 < eb.toNat ∨ 24 < skew.toNat → Ended s t 4 .range s.cp.response ∧ t = { s with cp := t.cp }) ∧
      (ea.toNat ≤ 1 → eb.toNat ≤ 1 → skew.toNat ≤ 24 →
        Ended s t 4 .ok s.cp.response ∧ TrunkEvent s t ∧ t.trunks.skew = skew.toNat ∧ t.trunks.vacantCode = code ∧
        (t.port .a).enable = decide (ea = 1) ∧ (t.port .b).enable = decide (eb = 1) ∧
        t.ps.readPos = s.ps.readPos ∧
        ∀ k, ((t.port k).enable = true → (s.port k).enable = false →
            (t.port k).align = .noSignal ∧ (t.port k).absence = 0) ∧
          ((t.port k).enable = false → (s.port k).enable = true →
            (t.port k).align = .off ∧ (t.port k).inRx = none ∧ t.usable k = false ∧
            ((s.port k).align = .aligned → t.deskew k = ⟨[], .unanchored, 0, 0, .none⟩)) ∧
          ((t.port k).enable = (s.port k).enable → t.port k = { s.port k with jumps := (t.port k).jumps }) ∧
          ((s.port (otherTrunk k)).align = .aligned ∧ (t.port (otherTrunk k)).align ≠ .aligned ∧
              (t.port k).align = .aligned ∧ s.usable k = false →
            t.deskew k = ⟨[], .inWindow, 0, 0, .awaiting⟩ ∧ t.ps.anchored = true ∧
            (t.port k).jumps = if s.ps.anchored = true then bump (s.port k).jumps else (s.port k).jumps) ∧
          (¬ ((s.port (otherTrunk k)).align = .aligned ∧ (t.port (otherTrunk k)).align ≠ .aligned ∧
              (t.port k).align = .aligned ∧ s.usable k = false) →
            (t.port k).jumps = (s.port k).jumps ∧ ((t.port k).align = (s.port k).align → t.deskew k = s.deskew k)) ∧
          (t.port k).alignErrors = (s.port k).alignErrors ∧ (t.port k).seqErrors = (s.port k).seqErrors ∧
          (t.port k).windowLosses = (s.port k).windowLosses ∧ (t.port k).farEpoch = (s.port k).farEpoch ∧
          (t.port k).farClock = (s.port k).farClock ∧ (t.port k).farRdi = (s.port k).farRdi)

/-- SEARCH and CONFIRM of a trunk: the first 0x6C with a sequence number 0 to 247 after it is the candidate; the first failed
check resumes the search one bit after it; six passed checks make the trunk ALIGNED, with the next number expected, the third
frame in reception and its overhead recorded, and the trunk OUT_OF_WINDOW beside a usable one, else anchored (R95, R98, R105,
R106; the overhead delivered with the event is log 8). An STU that leaves ACQUIRING keeps its acquisition count (log 14). -/
def Obligations.TrunkSearchAndConfirmation : Prop :=
  ∀ (s : State) (k : Trunk) (bits all : List Bool), s.inReset = false → all = (s.port k).kept ++ bits →
    (∀ i, (s.port k).align = .search → bits ≠ [] → all.length = i + 16 → byteAt (all.drop i) 0 = 0x6C →
      (byteAt (all.drop i) 1).toNat < 248 →
      (∀ j, j < i → ¬ (byteAt (all.drop j) 0 = 0x6C ∧ (byteAt (all.drop j) 1).toNat < 248)) →
      ∃ t, exec (.trunkCandidateFound k bits) s = .next t ∧ TrunkEvent s t ∧ t.cp = s.cp ∧ t.ps = s.ps ∧
        t.port k = { s.port k with
          align := .confirm, cand := (byteAt (all.drop i) 1).toNat, kept := all.drop (i + 1) } ∧
        t.port (otherTrunk k) = s.port (otherTrunk k)) ∧
    ((s.port k).align = .confirm →
      (confirmChecks (s.port k).cand all).find? (fun c => !c.2) = some (all.length, false) →
      ∃ t, exec (.trunkConfirmationFailed k bits) s = .next t ∧ TrunkEvent s t ∧ t.cp = s.cp ∧ t.ps = s.ps ∧
        t.port k = { s.port k with align := .search, cand := 0, kept := all } ∧
        t.port (otherTrunk k) = s.port (otherTrunk k)) ∧
    (∀ overhead : List Byte, (s.port k).align = .confirm → all.length = 6159 → overhead.length = 6 →
      (∀ j, 1 ≤ j → j ≤ 3 → byteAt (all.drop (2048 * j - 1)) 0 = 0x6C ∧
        (byteAt (all.drop (2048 * j - 1)) 1).toNat = ((s.port k).cand + j) % 248) →
      ∃ t, exec (.trunkAlignmentConfirmed k bits overhead) s = .next t ∧ TrunkEvent s t ∧ t.cp = s.cp ∧
        (t.port k).align = .aligned ∧ (t.port k).expected = ((s.port k).cand + 4) % 248 ∧
        (t.port k).errorRun = 0 ∧ (t.port k).seqRun = 0 ∧
        (t.port k).inRx = some (((s.port k).cand + 3) % 248, [0x6C, byte (((s.port k).cand + 3) % 248)] ++ overhead) ∧
        (t.port k).farEpoch = overhead.getD 4 0 ∧ (t.port k).farRdi = (overhead.getD 5 0).getLsbD 7 ∧
        (t.port k).farClock.code = (overhead.getD 5 0).toNat % 4 ∧
        (s.usable (otherTrunk k) = true →
          t.deskew k = ⟨[], .outOfWindow, 0, 0, .none⟩ ∧ (t.port k).jumps = (s.port k).jumps) ∧
        (s.usable (otherTrunk k) = false →
          t.deskew k = ⟨[], .inWindow, 0, 0, .awaiting⟩ ∧ t.ps.anchored = true ∧
          (t.port k).jumps = if s.ps.anchored = true then bump (s.port k).jumps else (s.port k).jumps) ∧
        t.deskew (otherTrunk k) = s.deskew (otherTrunk k))

/-- A trunk frame judged in ALIGNED: an errored word and a wrong number are counted and run; the fourth errored word in a row or
the second wrong number takes the trunk to SEARCH; else the frame is taken as the expected one, and it is recorded only if it
passes both checks (R96, R98; the bytes delivered with the event are log 8).
An STU that leaves ACQUIRING keeps its acquisition count (log 14). -/
def Obligations.TrunkFrameJudgedOrLost : Prop :=
  ∀ (s : State) (k : Trunk) (word seq : Byte) (header : List Byte) (e q : Nat), s.inReset = false →
    (s.port k).align = .aligned → (s.port k).inRx = none → header.length = 8 → header.take 2 = [word, seq] →
    e = (if word = 0x6C then 0 else (s.port k).errorRun + 1) →
    q = (if seq.toNat = (s.port k).expected then 0 else (s.port k).seqRun + 1) →
    (∃ t, exec (.trunkFrameJudged k header) s = .next t ∧ TrunkEvent s t ∧ t.cp = s.cp ∧
      (t.port k).alignErrors = (if word = 0x6C then (s.port k).alignErrors else bump (s.port k).alignErrors) ∧
      (t.port k).seqErrors =
        (if seq.toNat = (s.port k).expected then (s.port k).seqErrors else bump (s.port k).seqErrors) ∧
      (e < 4 → q < 2 → (t.port k).align = .aligned ∧ (t.port k).errorRun = e ∧ (t.port k).seqRun = q ∧
        (t.port k).inRx = some ((s.port k).expected, header) ∧
        (t.port k).expected = ((s.port k).expected + 1) % 248 ∧ t.ps = s.ps ∧
        (e = 0 → q = 0 → (t.port k).farEpoch = header.getD 6 0 ∧ (t.port k).farRdi = (header.getD 7 0).getLsbD 7 ∧
          (t.port k).farClock.code = (header.getD 7 0).toNat % 4) ∧
        (e ≠ 0 ∨ q ≠ 0 → (t.port k).farEpoch = (s.port k).farEpoch ∧ (t.port k).farRdi = (s.port k).farRdi ∧
          (t.port k).farClock = (s.port k).farClock)) ∧
      (4 ≤ e ∨ 2 ≤ q → (t.port k).align = .search ∧ (t.port k).inRx = none ∧ (t.port k).errorRun = 0 ∧
        (t.port k).seqRun = 0 ∧ (t.port k).kept = (header.drop 2).flatMap bitsOfByte ∧
        t.deskew k = ⟨[], .unanchored, 0, 0, .none⟩)) ∧
    (4 ≤ e ∨ 2 ≤ q → ∃ t, exec (.trunkAlignmentLoss k word seq) s = .next t ∧ TrunkEvent s t ∧ t.cp = s.cp ∧
      (t.port k).align = .search ∧ (t.port k).inRx = none ∧ (t.port k).kept = [] ∧
      t.deskew k = ⟨[], .unanchored, 0, 0, .none⟩)

/-- A complete trunk frame joins the deskew store with its tag, its decoded end-status, its four nibbles and its payload, the oldest
of 64 going first; under an anchor hold that awaits its frame it
is the anchor frame, and the read position is set behind it by the skew allowance and 1, or 2 before the read of its station
frame (R97, R103, R106; the side of the read is log 9). -/
def Obligations.TrunkFrameHandedOn : Prop :=
  ∀ (s : State) (k : Trunk) (seq : Nat) (header payload : List Byte) (before : Bool), s.inReset = false →
    (s.port k).inRx = some (seq, header) → payload.length = 248 →
    ∃ t, exec (.trunkFrameHandedOn k payload before) s = .next t ∧
      t = { s with trunks := t.trunks, ps := t.ps } ∧ t.port k = { s.port k with inRx := none } ∧
      t.port (otherTrunk k) = s.port (otherTrunk k) ∧ t.trunks.skew = s.trunks.skew ∧
      t.deskew (otherTrunk k) = s.deskew (otherTrunk k) ∧ t.ps.sig = s.ps.sig ∧
      (∃ f : DFrame, f.seq = seq ∧ f.cells = payload ∧
        f.tag.toNat = (header.getD 2 0).toNat * 16 + (header.getD 3 0).toNat / 16 ∧
        f.nibbles.map BitVec.toNat = [(header.getD 4 0).toNat / 16, (header.getD 4 0).toNat % 16,
          (header.getD 5 0).toNat / 16, (header.getD 5 0).toNat % 16] ∧
        (∀ c, c = (header.getD 3 0).toNat % 16 →
          (c = 0 → f.status = .ok) ∧ (c = 1 → f.status = .sourceFail) ∧ (c = 2 → f.status = .sinkFail) ∧
          (c = 3 → f.status = .conditioned) ∧ (c = 4 → f.status = .test) ∧ (5 ≤ c → f.status = .unknown)) ∧
        (t.deskew k).frames =
          (if 64 ≤ (s.deskew k).frames.length then (s.deskew k).frames.drop 1 else (s.deskew k).frames) ++ [f]) ∧
      ((s.deskew k).hold ≠ .awaiting → t.ps.readPos = s.ps.readPos ∧
        t.deskew k = { s.deskew k with frames := (t.deskew k).frames }) ∧
      ((s.deskew k).hold = .awaiting → exec (.anchorFrameArrival k payload before) s = .next t ∧
        t.deskew k = { s.deskew k with frames := (t.deskew k).frames, hold := .until seq } ∧
        (s.trunks.skew ≤ 24 → seq < 248 →
          t.ps.readPos < 248 ∧ (t.ps.readPos + s.trunks.skew + (if before = true then 2 else 1)) % 248 = seq))

/-- RECENTRE is refused with RANGE or, for a trunk not ALIGNED, with STATE; else it anchors again and counts a deskew jump.
The third missing read in a row takes a trunk OUT_OF_WINDOW, or anchors it anew when the other is not usable, and counts a
window loss; the eighth present read in a row brings it back (R105, R106, R107, R108). That the rows WINDOW_LOSS and WINDOW_RETURN
are taken ahead of the read that R105 counts is the model's choice (log 2).
An STU that leaves ACQUIRING keeps its acquisition count (log 14). -/
def Obligations.RecentreAndWindowChanges : Prop :=
  (∀ (s : State) (b : Byte), Clear s → ∃ t, exec (.recentre [b]) s = .next t ∧
    (1 < b.toNat → Ended s t 1 .range s.cp.response ∧ t = { s with cp := t.cp }) ∧
    ∀ k, readTrunk b.toNat = some k →
      ((s.port k).align ≠ .aligned → Ended s t 1 .state s.cp.response ∧ t = { s with cp := t.cp }) ∧
      ((s.port k).align = .aligned → Ended s t 1 .ok s.cp.response ∧ TrunkEvent s t ∧
        t.deskew k = ⟨[], .inWindow, 0, 0, .awaiting⟩ ∧ t.deskew (otherTrunk k) = s.deskew (otherTrunk k) ∧
        t.port k = { s.port k with jumps := bump (s.port k).jumps } ∧
        t.port (otherTrunk k) = s.port (otherTrunk k) ∧
        ∀ id, (t.record id).slips = if ((s.record id).state = .active ∨ (s.record id).state = .suspended) ∧
          id ∈ s.ownersOn .trunk then bump (s.record id).slips else (s.record id).slips)) ∧
  (∀ (s : State) (k : Trunk), s.inReset = false → (s.port k).align = .aligned → (s.deskew k).hold = .none →
    ((s.deskew k).state = .inWindow → (s.deskew k).missing = 2 →
      (∀ f ∈ (s.deskew k).frames, f.seq ≠ s.ps.readPos) →
      ∃ t, exec (.windowLoss k) s = .next t ∧ TrunkEvent s t ∧ t.cp = s.cp ∧
        (t.port k).windowLosses = bump (s.port k).windowLosses ∧ t.au.flags.getLsbD (trunkFlag k) = true ∧
        (s.usable (otherTrunk k) = true →
          t.deskew k = { s.deskew k with state := .outOfWindow, missing := 0, present := 0 }) ∧
        (s.usable (otherTrunk k) = false → t.deskew k = ⟨[], .inWindow, 0, 0, .awaiting⟩)) ∧
    ((s.deskew k).state = .outOfWindow → (s.deskew k).present = 7 →
      (∃ f ∈ (s.deskew k).frames, f.seq = s.ps.readPos) →
      ∃ t, exec (.windowReturn k) s = .next t ∧ TrunkEvent s t ∧ t.cp = s.cp ∧ t.port k = s.port k ∧
        t.au.flags.getLsbD (trunkFlag k) = true ∧
        t.deskew k = { s.deskew k with state := .inWindow, missing := 0, present := 0 } ∧ t.usable k = true))

/-! ### The station frame and the cross-connect -/

/-- A station frame advances the station frame count, or returns it to 0 at a multiframe start; the read position advances; every
enabled trunk sends the count as its sequence number after 0x6C, with the epoch's low byte and its RDI, both trunks alike but
for the overhead status byte; a disabled trunk sends ones; an enabled tributary in station timing sends one frame. The frame reads
the receive stores, with repeat slips that the ports and the records count, and writes the transmit stores; to each slot it delivers
the byte of its Active Map owner and to each position of the transmit signalling table that owner's nibble, and the tributary lines
carry them; the trunk frame carries the tag channel, four cells' nibbles and 248 cells, with the vacant code and the vacant nibble
in vacant ones (R62, R64, R68, R79, R80, R81, R82, R84 to R87, R89, R90, R104, R120; the order of the work and where repeat slips are taken
is log 6, the transmit frame left due log 4, the vacant slots of a store log 28). -/
def Obligations.StationFrameAdvancesAndSends : Prop :=
  (∀ (s : State) (inp : FrameIn), s.inReset = false → CountLaw s →
     ∃ t, exec (.stationFrame inp) s = .next t ∧
       (s.atBoundary = true → t.stu.count = 0) ∧ (s.atBoundary = false → t.stu.count = s.stu.count + 1) ∧
       t.stu.started = (s.stu.started || s.atBoundary) ∧
       t.ps.readPos = (s.ps.readPos + 1) % 248 ∧ t.clu = s.clu ∧ t.cp = s.cp ∧
       (∀ k, (s.port k).enable = true → (t.port k).lineOut.length = 256 ∧ (t.port k).lineOut.getD 0 0 = 0x6C ∧
         (t.port k).lineOut.getD 1 0 = byte t.stu.count ∧ (t.port k).lineOut.getD 6 0 = t.ct.epoch.setWidth 8 ∧
         ((t.port k).lineOut.getD 7 0).getLsbD 7 = decide ((s.port k).align ≠ .aligned)) ∧
       ((s.port .a).enable = true → (s.port .b).enable = true →
         ∀ i, i ≠ 7 → (t.port .a).lineOut.getD i 0 = (t.port .b).lineOut.getD i 0) ∧
       (∀ k, (s.port k).enable = false → (t.port k).lineOut = List.replicate 256 0xFF) ∧
       (∀ n : Idx8, (s.trib n).cfg.enable = true → (s.trib n).txDue = false → inp.deferTx.getLsbD n.val = false →
         ((s.trib n).cfg.loopTiming = false ∨ (s.trib n).rx.align = .noSignal) →
         (t.trib n).txCount = (s.trib n).txCount + 1 ∧ (t.trib n).lineOut.length = 32 ∧
         ((s.trib n).txCount.getLsbD 0 = false → (t.trib n).lineOut.getD 0 0 = 0x9B))) ∧
  (∀ (s u v w : State) (inp : FrameIn), s.inReset = false → u = s.opening inp → v = u.psRead u.reads → w = u.filled inp →
    ∃ t, exec (.stationFrame inp) s = .next t ∧
      (∀ n : Idx8, StoresWorked (u.trib n) (w.trib n) ∧
        ((t.trib n).rx.align = (u.trib n).rx.align → (t.trib n).store = (w.trib n).store ∧
          (t.trib n).txStore = (w.trib n).txStore ∧ (t.trib n).counters = (w.trib n).counters) ∧
        (t.trib n).delivered = (w.trib n).delivered ∧ (t.trib n).delivered.length = 32 ∧
        (∀ j, j < 32 → ByteFilled w u.reads (.trib n) j ((t.trib n).delivered.getD j none)) ∧
        (∀ i : Fin 30, NibbleFilled w (.trib n) (if i.val < 15 then i.val + 1 else i.val + 2) ((t.trib n).txSig.get i)) ∧
        ((u.trib n).cfg.enable = true → (u.trib n).cfg.loopTiming = false ∨ (u.trib n).rx.align = .noSignal →
          inp.deferTx.getLsbD n.val = false →
          LineSent { u.trib n with txSig := (t.trib n).txSig } (t.trib n).delivered (t.trib n).lineOut ∧
          (t.trib n).txCount = (u.trib n).txCount + 1 ∧ (t.trib n).txDue = false ∧
          (t.trib n).lineRemote =
            if (u.trib n).txCount.getLsbD 0 = true then (u.trib n).remoteSent else (u.trib n).lineRemote) ∧
        ((u.trib n).cfg.enable = false → inp.deferTx.getLsbD n.val = false →
          (t.trib n).lineOut = List.replicate 32 0xFF ∧ (t.trib n).lineRemote = true ∧
          (t.trib n).txCount = (u.trib n).txCount) ∧
        ((u.trib n).cfg.enable = false ∨ (u.trib n).cfg.loopTiming = false ∨ (u.trib n).rx.align = .noSignal →
          inp.deferTx.getLsbD n.val = true → (t.trib n).txDue = true ∧
          (t.trib n).lineOut = (u.trib n).lineOut ∧ (t.trib n).txCount = (u.trib n).txCount) ∧
        ((u.trib n).cfg.enable = true → (u.trib n).cfg.loopTiming = true → (u.trib n).rx.align ≠ .noSignal →
          (t.trib n).lineOut = (u.trib n).lineOut ∧ (t.trib n).txCount = (u.trib n).txCount)) ∧
      (∃ nib : Nat → Nibble, (∀ c, c < 248 → ∃ b, NibbleFilled w .trunk c b ∧ nib c = b.getD 9) ∧
        ∀ k, (u.port k).enable = true →
          (t.port k).lineOut.take 8 = w.overhead t.stu.count nib (decide ((u.port k).align ≠ .aligned)) ∧
          (t.port k).lineOut.getD 4 0 = joinNibbles (nib (4 * (t.stu.count % 62))) (nib (4 * (t.stu.count % 62) + 1)) ∧
          (t.port k).lineOut.getD 5 0 = joinNibbles (nib (4 * (t.stu.count % 62) + 2)) (nib (4 * (t.stu.count % 62) + 3)) ∧
          (t.port k).lineOut.getD 7 0 =
            byte (128 * (decide ((u.port k).align ≠ .aligned)).toNat + w.stu.state.code) ∧
          ∀ c, c < 248 → ∃ b, ByteFilled w u.reads .trunk c b ∧
            (t.port k).lineOut.getD (8 + c) 0 = b.getD u.trunks.vacantCode) ∧
      (∀ id, (inp.slipsFirst = false →
          (w.record id).slips.toNat = min 65535 ((v.record id).slips.toNat + repeatsCounted u id)) ∧
        (inp.slipsFirst = true → (w.record id).slips = (v.record id).slips) ∧
        ((∀ k, (t.port k).align = (u.port k).align) → (t.record id).slips = (w.record id).slips)) ∧
      (inp.slipsFirst = true → ∃ q : State, u = q.newFrame ∧ ∀ id,
        (q.record id).slips.toNat = min 65535 ((s.record id).slips.toNat + repeatsCounted s id)))

/-- The byte delivered at a position of a direction is the first of: conditioning in SUSPENDED and RETIRING, the loopback, conditioning
for a FAILED source, the keyer's byte, the test code, the source byte after density treatment; the delivered nibble is the
fault nibble, the fixed nibble or the received one. A station frame writes both source states of every record in the Active Map:
FAILED for a tributary source whose receive condition is FAILED, and for a trunk source without a valid selected copy; a record
with a changed source state is posted by its attention enable (R112, R122, R123, R124, R126, R127, R128, R129, R130; that the
frame judges ahead of the clocks' judgement is log 6). What the chains choose from: the received byte of a position is that of the
slot named in the frame last read from the port's receive store, while its condition is GOOD, or that of the cell named in the selected
copy's frame, while it is valid; the received nibble is the accepted one, for a tributary while its signalling is available; the
keyer's byte is that of the keyer bound for the direction, so that a keyer unbound since its row was taken sends none (R61, R118, R121,
R127; that one so unbound sends none is log 4). -/
def Obligations.TreatmentChainsInOrder : Prop :=
  (∀ (s u : State) (inp : FrameIn), s.inReset = false → u = s.opening inp →
    ∃ t, exec (.stationFrame inp) s = .next t ∧
      ∀ (id : RecId) (r : Record), r = (u.psRead u.reads).record id →
        (r.inMap = false → (t.record id).failed = r.failed) ∧
        (r.inMap = true → ∀ dir,
          (∀ n : Idx8, r.portOf (otherSide dir) = some (.trib n) → (t.record id).failed.get dir = !(s.trib n).good) ∧
          (r.portOf (otherSide dir) = some .trunk → ((t.record id).failed.get dir = false ↔
            ∃ k f, r.selected = pathSel k ∧ r.copy.get k = .good ∧ u.reads.get k = .present f))) ∧
        (r.fields.attention = true → (t.record id).failed ≠ r.failed → id ∈ t.au.queue)) ∧
  (∀ (s : State) (res : Pair ReadResult) (id : RecId) (dir : Side) (k : Nat) (r : Record) (b cond : Byte),
    r = s.record id → b = s.deliveredByte res id dir k → cond = r.fields.cond.get dir →
    (r.state = .suspended ∨ r.state = .retiring → b = cond) ∧
    (r.state = .active →
      ((r.fields.loopback = .loopX ∧ dir = .x ∨ r.fields.loopback = .loopY ∧ dir = .y) →
        b = (s.receivedByte res r dir k).getD cond) ∧
      ((r.fields.loopback = .loopX ∧ dir = .y ∨ r.fields.loopback = .loopY ∧ dir = .x) → b = cond) ∧
      (r.fields.loopback = .none → r.failed.get dir = true → b = cond) ∧
      (r.fields.loopback = .none → r.failed.get dir = false →
        (∀ v, s.keyerByte id dir = some v → b = v) ∧
        (s.keyerByte id dir = none →
          ((r.fields.inject = .towardX ∧ dir = .x ∨ r.fields.inject = .towardY ∧ dir = .y) → b = r.fields.testCode) ∧
          (¬ (r.fields.inject = .towardX ∧ dir = .x ∨ r.fields.inject = .towardY ∧ dir = .y) →
            ∀ v, s.receivedByte res r (otherSide dir) k = some v →
              (v ≠ 0 → b = v) ∧ (v = 0 → r.fields.density = .none → b = 0) ∧
              (v = 0 → r.fields.density = .lowBit → b = 0x01) ∧ (v = 0 → r.fields.density = .substitute → b = 0x4C)))))) ∧
  (∀ (s : State) (r : Record) (dir : Side) (k : Nat),
    (r.state = .suspended ∨ r.state = .retiring ∨ r.failed.get dir = true →
      s.deliveredNibble r dir k = r.fields.faultNib) ∧
    (r.state = .active → r.failed.get dir = false → ∀ (d : End) (n : Nat), r.ends.get (otherSide dir) = some d →
      d.list[k]? = some n →
      (s.receivedNibble d.port n = none → s.deliveredNibble r dir k = r.fields.faultNib) ∧
      (∀ v, s.receivedNibble d.port n = some v →
        s.deliveredNibble r dir k = if r.fields.fixed.get dir = true then r.fields.nib.get dir else v))) ∧
  (∀ (s : State) (res : Pair ReadResult) (r : Record) (e : Side) (d : End) (k n : Nat), r.ends.get e = some d →
    d.list[k]? = some n →
    (∀ p : Idx8, d.port = .trib p →
      ((s.trib p).good = true → ∀ f, (s.trib p).store.last = some f → s.receivedByte res r e k = f[n]?) ∧
      ((s.trib p).good = false ∨ (s.trib p).store.last = none → s.receivedByte res r e k = none)) ∧
    (d.port = .trunk →
      (∀ j f, r.selected = pathSel j → r.copy.get j = .good → res.get j = .present f →
        s.receivedByte res r e k = f.cells[n]?) ∧
      ((¬ ∃ j f, r.selected = pathSel j ∧ r.copy.get j = .good ∧ res.get j = .present f) →
        s.receivedByte res r e k = none))) ∧
  (∀ (s : State) (n : Nat),
    (∀ p : Idx8, ((s.trib p).cfg.signalling = true ∧ (s.trib p).good = true ∧ (s.trib p).rx.mfAligned = true →
        (∀ i : Fin 30, (n = i.val + 1 ∧ i.val < 15 ∨ n = i.val + 2 ∧ 15 ≤ i.val) →
          s.receivedNibble (.trib p) n = some ((s.trib p).sig.get i).nib)) ∧
      (¬ ((s.trib p).cfg.signalling = true ∧ (s.trib p).good = true ∧ (s.trib p).rx.mfAligned = true) →
        s.receivedNibble (.trib p) n = none)) ∧
    (∀ i : Fin 248, n = i.val → s.receivedNibble .trunk n = some (s.ps.sig.get i).nib)) ∧
  (∀ (s : State) (id : RecId) (dir : Side),
    (BindingLaw s → ∀ k, (s.keyer k).binding = some (id, dir) → s.keyerByte id dir = (s.keyer k).last.byte) ∧
    ((∀ k, (s.keyer k).binding ≠ some (id, dir)) → s.keyerByte id dir = none))

/-- The tag channel of the frame with number n carries the tag and end-status of cell n, tag 0 with VACANT for a vacant cell; the
end-status of an owner is the first that applies of CONDITIONED, TEST, SOURCE_FAIL, SINK_FAIL, OK. At the read of a station frame
the tags that come back are checked, the copy statuses follow, a path is selected, the far end's status and the trunk signalling
are received; the station frame ends with these items, and every step keeps health and copy statuses as their rules give them (R7,
R84, R87, R88, R104, R109, R111, R112, R113, R114, R115, R116, R117, R118; an anchoring made by the read of 247 itself is log 30, that a
misroute event is counted as the marker goes on is log 32,
the order of the trunks at one read log 10). -/
def Obligations.TagChannelAndEndStatus : Prop :=
  (∀ (u v : State) (res : Pair ReadResult) (id : RecId) (r q : Record) (cells : List Nat), v = u.psRead res →
    r = u.record id → q = v.record id → r.trunkCells = some cells →
    (∀ k, TagRead (r.tag.get k) (q.tag.get k) r.fields.expTag (u.ps.readPos ∈ cells) (u.ps.readPos = 247) (res.get k)) ∧
    (∀ k, q.copy.get k =
      if v.usable k = true then (if (q.tag.get k).misroute = true then .misrouted else .good) else .down) ∧
    PathChosen r.fields r.selected q.selected (fun k => q.copy.get k = .good ∧ ∃ f, res.get k = .present f) ∧
    (∀ k, q.selected = pathSel k → q.lastPath = some k ∧
      q.switches = if r.lastPath = some (otherTrunk k) then bump r.switches else r.switches) ∧
    (q.selected = .none → q.lastPath = r.lastPath ∧ q.switches = r.switches ∧ q.far = .unknown ∧ q.farCand = none) ∧
    (∀ k, q.selected = pathSel k →
      (∀ f, cells.head? = some u.ps.readPos → q.copy.get k = .good → res.get k = .present f →
        (r.farCand = some f.status → q.far = f.status ∧ q.farCand = r.farCand) ∧
        (r.farCand ≠ some f.status → q.far = r.far ∧ q.farCand = some f.status)) ∧
      (¬ (cells.head? = some u.ps.readPos ∧ q.copy.get k = .good ∧ ∃ f, res.get k = .present f) →
        q.far = r.far ∧ q.farCand = r.farCand)) ∧
    (∀ k, (q.tag.get (otherTrunk k)).misroute = true → (r.tag.get (otherTrunk k)).misroute = false →
      q.misroutes = if (q.tag.get k).misroute = true ∧ (r.tag.get k).misroute = false
        then bump (bump r.misroutes) else bump r.misroutes) ∧
    ((∀ k, (q.tag.get k).misroute = true → (r.tag.get k).misroute = true) → q.misroutes = r.misroutes) ∧
    (r.fields.attention = true → r.sameShown q = false → id ∈ v.au.queue)) ∧
  (∀ (u v : State) (res : Pair ReadResult) (n : Fin 248) (turn : Prop), v = u.psRead res →
    turn = (4 * (u.ps.readPos % 62) ≤ n.val ∧ n.val < 4 * (u.ps.readPos % 62) + 4) →
    (∀ x k f nib, turn → u.ct.activeMap.entry .trunk n.val = some x → (v.record x.owner).selected = pathSel k →
      ((v.record x.owner).copy.get k) = .good → res.get k = .present f → f.nibbles[n.val % 4]? = some nib →
      ((u.ps.sig.get n).cand = some nib → v.ps.sig.get n = ⟨nib, some nib⟩) ∧
      ((u.ps.sig.get n).cand ≠ some nib → v.ps.sig.get n = ⟨(u.ps.sig.get n).nib, some nib⟩)) ∧
    (¬ turn ∨ (∀ x, u.ct.activeMap.entry .trunk n.val = some x → ¬ ∃ k f, (v.record x.owner).selected = pathSel k ∧
        (v.record x.owner).copy.get k = .good ∧ res.get k = .present f) →
      v.ps.sig.get n = u.ps.sig.get n)) ∧
  (∀ (s v : State) (inp : FrameIn), s.inReset = false → v = (s.opening inp).psRead (s.opening inp).reads →
    ∃ t, exec (.stationFrame inp) s = .next t ∧ t.ps.sig = v.ps.sig ∧ t.ps.readPos = v.ps.readPos ∧
      (∀ id ∈ v.au.queue, id ∈ t.au.queue) ∧
      ∀ id, (t.record id).selected = (v.record id).selected ∧ (t.record id).lastPath = (v.record id).lastPath ∧
        (t.record id).switches = (v.record id).switches ∧ (t.record id).misroutes = (v.record id).misroutes ∧
        (t.record id).far = (v.record id).far ∧ (t.record id).farCand = (v.record id).farCand) ∧
  (∀ r : Record,
    (r.healthOf = .faulted ↔ r.failed.x = true ∨ r.failed.y = true ∨ (r.trunkSide.isSome = true ∧ ∀ k, r.copy.get k ≠ .good)) ∧
    (r.healthOf = .unprotected ↔ r.failed = ⟨false, false⟩ ∧ r.trunkSide.isSome = true ∧
      ∃ k, r.copy.get k = .good ∧ r.copy.get (otherTrunk k) ≠ .good)) ∧
  (∀ s t : State, PathLaw s → step s = .next t → PathLaw t) ∧
  (∀ (s : State) (n : Nat) (nib : Nat → Nibble) (rdi : Bool),
    (s.ct.activeMap.entry .trunk n = none → (s.overhead n nib rdi).getD 2 0 = 0 ∧ (s.overhead n nib rdi).getD 3 0 = 0x0F) ∧
    (∀ e, s.ct.activeMap.entry .trunk n = some e →
      ((s.overhead n nib rdi).getD 2 0).toNat = (s.record e.owner).fields.txTag.toNat / 16 ∧
      ((s.overhead n nib rdi).getD 3 0).toNat = (s.record e.owner).fields.txTag.toNat % 16 * 16 +
        (s.endStatus (s.record e.owner) e.side).toNat)) ∧
  (∀ (s : State) (r : Record) (e : Side) (test fail remote : Prop),
    test = (r.fields.loopback ≠ .none ∨ r.fields.inject ≠ .none) → fail = (r.failed.get e = true) →
    remote = (∃ n : Idx8, r.portOf (otherSide e) = some (.trib n) ∧ (s.trib n).rx.remote = true) →
    (r.state = .suspended ∨ r.state = .retiring → s.endStatus r e = 3) ∧
    (r.state = .active →
      (test → s.endStatus r e = 4) ∧ (¬ test → fail → s.endStatus r e = 1) ∧
      (¬ test → ¬ fail → remote → s.endStatus r e = 2) ∧ (¬ test → ¬ fail → ¬ remote → s.endStatus r e = 0)))

/-! ### Detectors and keyers -/

/-- DET BIND, DET UNBIND and DET CONFIG: their refusals in order, and their effects: a bound detector is BLOCKED with every count
0; an unbound one keeps its configuration and counters; a configuration restarts the counts under the new codes. Binding and
unbinding post the record by its attention enable, a configuration posts nothing; a detector number above 7 is refused with RANGE
(R136, R137, R138, R146). -/
def Obligations.DetectorCommands : Prop :=
  (∀ (s : State) (db id dirb : Byte) (r : Record), Clear s → r = s.record (readId id) →
    ∃ t, exec (.detBind [db, id, dirb]) s = .next t ∧ t.cp.response = s.cp.response ∧ (t.cp.last ≠ .ok → t = { s with cp := t.cp }) ∧
      (7 < db.toNat ∨ 1 < dirb.toNat → t.cp.last = .range) ∧
      ∀ d dir, readUnit db.toNat = some d → readSide dirb.toNat = some dir →
        (r.state = .free ∨ r.state = .retiring → t.cp.last = .state) ∧
        (¬ (r.state = .free ∨ r.state = .retiring) → r.cls ≠ .protection → t.cp.last = .range) ∧
        (¬ (r.state = .free ∨ r.state = .retiring) → r.cls = .protection →
          ((s.boundDetector (readId id)).isSome = true ∨ (s.det d).binding ≠ none) → t.cp.last = .inuse) ∧
        (¬ (r.state = .free ∨ r.state = .retiring) → r.cls = .protection → s.boundDetector (readId id) = none →
          (s.det d).binding = none → t.cp.last = .ok ∧
          t.det d = { (s.det d).freed with state := .blocked, binding := some (readId id, dir) } ∧
          ((s.det d).state = .unbound → t.au = Posted s (readId id)) ∧
          (∀ m, m ≠ d → t.det m = s.det m) ∧ t = { s with cp := t.cp, au := t.au, dets := t.dets })) ∧
  (∀ (s : State) (d : Idx8), Clear s → ∃ t, exec (.detUnbind [byte d.val]) s = .next t ∧ (∀ m, m ≠ d → t.det m = s.det m) ∧
    t = { s with cp := t.cp, au := t.au, dets := t.dets } ∧
    ((s.det d).state = .command ∨ (s.det d).state = .trail → t.cp.last = .state ∧ t.det d = s.det d ∧ t.au = s.au) ∧
    ((s.det d).state = .unbound → t.cp.last = .ok ∧ t.det d = s.det d ∧ t.au = s.au) ∧
    ((s.det d).state = .blocked ∨ (s.det d).state = .guard ∨ (s.det d).state = .pending → t.cp.last = .ok ∧
      (∀ id dir, (s.det d).binding = some (id, dir) → t.au = Posted s id) ∧
      (t.det d).state = .unbound ∧ (t.det d).binding = none ∧ (t.det d).prev = none ∧ (t.det d).cfg = (s.det d).cfg ∧
      (t.det d).commands = (s.det d).commands ∧ (t.det d).blockedEvents = (s.det d).blockedEvents)) ∧
  (∀ (s : State) (db : Byte), Clear s → 7 < db.toNat →
    ∃ t, exec (.detUnbind [db]) s = .next t ∧ Ended s t 1 .range s.cp.response ∧ t = { s with cp := t.cp }) ∧
  (∀ (s : State) (db g c1 c2 mode p r m u : Byte), Clear s →
    ∃ t, exec (.detConfig [db, g, c1, c2, mode, p, r, m, u]) s = .next t ∧ t.cp.response = s.cp.response ∧
      (7 < db.toNat ∨ 1 < mode.toNat ∨ p = 0 ∨ 32 < p.toNat ∨ r = 0 ∨ 32 < r.toNat ∨ u = 0 ∨ g = c1 ∨
        (mode = 1 ∧ (c2 = c1 ∨ c2 = g)) → t.cp.last = .range ∧ t = { s with cp := t.cp }) ∧
      ∀ d, readUnit db.toNat = some d → mode.toNat ≤ 1 → p ≠ 0 → p.toNat ≤ 32 → r ≠ 0 → r.toNat ≤ 32 → u ≠ 0 → g ≠ c1 →
        (mode = 1 → c2 ≠ c1 ∧ c2 ≠ g) →
        ((s.det d).state = .pending ∨ (s.det d).state = .command ∨ (s.det d).state = .trail →
          t.cp.last = .state ∧ t = { s with cp := t.cp }) ∧
        ((s.det d).state = .unbound ∨ (s.det d).state = .blocked ∨ (s.det d).state = .guard →
          t.cp.last = .ok ∧ t.det d = { s.det d with
            cfg := ⟨g, c1, c2, decide (mode = 1), p.toNat, r.toNat, m.toNat, u.toNat⟩, release := 0, unknown := 0, prev := none } ∧
          (∀ n, n ≠ d → t.det n = s.det n) ∧ t = { s with cp := t.cp, dets := t.dets }))

/-- The rows of a detector's frame event, at the byte handed to it with no blocking condition: the R-th guard frame opens a
BLOCKED detector, the P-th command frame enters COMMAND and counts a command event, the R-th guard frame leaves it for TRAIL or
GUARD, the prolongation runs out, and the U-th unknown frame blocks and counts; each posts the record by its attention enable. The
class of a byte and every other outcome of a frame event are stated too. A station frame hands each detector of a record in the
map the byte delivered at position 0, restarts it by the frame's slips and jump, and leaves it BLOCKED under any blocking condition
(R81, R107, R139, R140, R141, R142, R143, R144, R145, R146; that a byte may be left to a row of its own is log 4, the order of
notices and frame events log 6, the counts that no rule returns to 0 log 14). -/
def Obligations.DetectorFrameEvents : Prop :=
  (∀ (d : Detector) (b : Byte),
    (d.classify b = .guard ↔ b = d.cfg.guard) ∧
    (d.classify b = .command ↔ b ≠ d.cfg.guard ∧ ((d.cfg.dual = false ∧ b = d.cfg.c1) ∨
      (d.cfg.dual = true ∧ (b = d.cfg.c1 ∨ b = d.cfg.c2) ∧
        ∀ p, d.prev = some p → (p ≠ d.cfg.c1 ∧ p ≠ d.cfg.c2) ∨ p ≠ b)))) ∧
  (∀ (d e : Detector) (b : Byte), d.state ≠ .unbound →
    (e = d.frame true b → (d.state = .blocked → e = { d with release := 0, prev := some b, handed := none }) ∧
      (d.state ≠ .blocked → e = { d with
        state := .blocked, persist := 0, release := 0, prolong := 0, unknown := 0, prev := some b, handed := none })) ∧
    (e = d.frame false b →
      (d.state = .blocked → b ≠ d.cfg.guard → e = { d with release := 0, prev := some b, handed := none }) ∧
      (d.state = .blocked → b = d.cfg.guard → d.release + 1 < d.cfg.r →
        e = { d with release := d.release + 1, prev := some b, handed := none }) ∧
      (d.state = .guard → b = d.cfg.guard → e = { d with unknown := 0, prev := some b, handed := none }) ∧
      (d.state = .guard → d.classify b = .command → d.cfg.p ≠ 1 →
        e = { d with state := .pending, persist := 1, unknown := 0, prev := some b, handed := none }) ∧
      (d.state = .pending → b = d.cfg.guard →
        e = { d with state := .guard, persist := 0, unknown := 0, prev := some b, handed := none }) ∧
      (d.state = .pending → d.classify b = .command → d.persist + 1 < d.cfg.p →
        e = { d with persist := d.persist + 1, unknown := 0, prev := some b, handed := none }) ∧
      (d.state = .command → b = d.cfg.guard → d.release + 1 < d.cfg.r →
        e = { d with release := d.release + 1, unknown := 0, prev := some b, handed := none }) ∧
      (d.state = .command → d.classify b = .command →
        e = { d with release := 0, unknown := 0, prev := some b, handed := none }) ∧
      (d.state = .trail → d.prolong ≤ 1 → e = { d with state := .guard, prolong := d.prolong - 1 }.frame false b) ∧
      (d.state = .trail → 1 < d.prolong → b = d.cfg.guard →
        e = { d with prolong := d.prolong - 1, unknown := 0, prev := some b, handed := none }) ∧
      (d.state = .trail → 1 < d.prolong → d.classify b = .command →
        e = { d with state := .command, release := 0, prolong := 0, unknown := 0, prev := some b, handed := none }) ∧
      (d.state ≠ .blocked → (d.state = .trail → 1 < d.prolong) → d.classify b = .unknown → d.unknown + 1 < d.cfg.u →
        e = { d with
          state := if d.state = .pending then .guard else d.state
          persist := if d.state = .pending then 0 else d.persist
          release := if d.state = .command then 0 else d.release
          prolong := if d.state = .trail then d.prolong - 1 else d.prolong
          unknown := d.unknown + 1, prev := some b, handed := none }))) ∧
  (∀ (s u w : State) (inp : FrameIn) (n : Idx8) (id : RecId) (dir : Side) (b : Byte) (hit : Prop), s.inReset = false →
    u = s.opening inp → w = u.filled inp → (u.det n).binding = some (id, dir) → (u.det n).state ≠ .unbound →
    (w.record id).inMap = true → w.circuitBlocks id = false → (w.record id).failed.get dir = false →
    b = w.deliveredByte u.reads id dir 0 → hit = (∃ p ∈ u.notices w (u.repeatsNow inp), NoticeHits w p id dir) →
    exec (.stationFrame inp) s = .next ((u.traffic inp).judge inp) ∧
    (inp.deferDet.getLsbD n.val = false → inp.unitsFirst = false →
      (hit → ((u.traffic inp).det n) = (u.det n).restart.frame false b) ∧
      (¬ hit → ((u.traffic inp).det n) = (u.det n).frame false b)) ∧
    (inp.deferDet.getLsbD n.val = false → inp.unitsFirst = true → (u.record id).far.blocks = false →
      (hit → ((u.traffic inp).det n) = ((u.det n).frame false b).restart) ∧
      (¬ hit → ((u.traffic inp).det n) = (u.det n).frame false b)) ∧
    (inp.deferDet.getLsbD n.val = true → ((u.traffic inp).det n).handed = some b)) ∧
  (∀ d : Detector, (d.state = .pending → d.restart = { d with persist := 0 }) ∧
    (d.state = .command ∨ d.state = .blocked → d.restart = { d with release := 0 }) ∧
    (d.state = .guard ∨ d.state = .trail → d.restart = d)) ∧
  (∀ (s : State) (inp : FrameIn), s.inReset = false → DetectorLaw s →
    ∃ t, exec (.stationFrame inp) s = .next t ∧
      ∀ (d : Idx8) (id : RecId) (dir : Side), (t.det d).binding = some (id, dir) →
        ((t.record id).state ≠ .active ∨ (t.record id).failed.get dir = true ∨ (t.record id).far = .sourceFail ∨
          (t.record id).far = .conditioned) → (t.det d).state = .blocked) ∧
  ∀ (s : State) (n : Idx8) (d : Detector) (b : Byte) (id : RecId) (dir : Side), s.inReset = false → d = s.det n →
    d.handed = some b → d.binding = some (id, dir) → s.circuitBlocks id = false → (s.record id).failed.get dir = false →
    (d.state = .blocked → b = d.cfg.guard → d.release + 1 = d.cfg.r →
      ∃ t, exec (.detectorUnblock n) s = .next t ∧ t.det n = { d with
          state := .guard, release := 0, unknown := 0, prev := some b, handed := none } ∧
        (∀ m, m ≠ n → t.det m = s.det m) ∧ t = { s with dets := t.dets, au := Posted s id }) ∧
    (d.classify b = .command → (d.state = .guard ∧ d.cfg.p = 1 ∨ d.state = .pending ∧ d.persist + 1 = d.cfg.p) →
      ∃ t, exec (.detectorCommandRecognised n) s = .next t ∧ t.det n = { d with
          state := .command, persist := d.cfg.p, release := 0, unknown := 0, commands := bump d.commands
          prev := some b, handed := none } ∧
        (t.det n).indicates = true ∧ (∀ m, m ≠ n → t.det m = s.det m) ∧ t = { s with dets := t.dets, au := Posted s id }) ∧
    (d.state = .command → b = d.cfg.guard → d.release + 1 = d.cfg.r →
      ∃ t, exec (.detectorRelease n) s = .next t ∧ (∀ m, m ≠ n → t.det m = s.det m) ∧
        t = { s with dets := t.dets, au := Posted s id } ∧ t.det n = { d with
          state := if d.cfg.m = 0 then .guard else .trail, prolong := if d.cfg.m = 0 then d.prolong else d.cfg.m
          release := d.cfg.r, unknown := 0, prev := some b, handed := none }) ∧
    (d.state = .trail → b = d.cfg.guard → d.prolong = 1 →
      ∃ t, exec (.trailExpiry n) s = .next t ∧ t.det n = { d with
          state := .guard, prolong := 0, unknown := 0, prev := some b, handed := none } ∧
        (t.det n).indicates = false ∧ (∀ m, m ≠ n → t.det m = s.det m) ∧ t = { s with dets := t.dets, au := Posted s id }) ∧
    (d.classify b = .unknown → d.unknown + 1 = d.cfg.u →
      (d.state = .guard ∨ d.state = .pending ∨ d.state = .command ∨ d.state = .trail) →
      ∃ t, exec (.detectorUnavailable n) s = .next t ∧ t.det n = { d with
          state := .blocked, persist := 0, release := 0, prolong := 0, unknown := 0
          blockedEvents := bump d.blockedEvents, prev := some b, handed := none } ∧
        (∀ m, m ≠ n → t.det m = s.det m) ∧ t = { s with dets := t.dets, au := Posted s id })

/-- KEY BIND, KEY UNBIND, KEY CONFIG and KEY TEST: their refusals in order, RANGE for a keyer number above 7 among them, and their
effects (R149, R150, R153). -/
def Obligations.KeyerCommands : Prop :=
  (∀ (s : State) (kb hi lo : Byte), Clear s → 7 < kb.toNat →
    (∃ t, exec (.keyUnbind [kb]) s = .next t ∧ Ended s t 1 .range s.cp.response ∧ t = { s with cp := t.cp }) ∧
    (∃ t, exec (.keyTest [kb, hi, lo]) s = .next t ∧ Ended s t 3 .range s.cp.response ∧ t = { s with cp := t.cp })) ∧
  (∀ (s : State) (kb id dirb : Byte) (r : Record), Clear s → r = s.record (readId id) →
    ∃ t, exec (.keyBind [kb, id, dirb]) s = .next t ∧ t.cp.response = s.cp.response ∧ (t.cp.last ≠ .ok → t = { s with cp := t.cp }) ∧
      (7 < kb.toNat ∨ 1 < dirb.toNat → t.cp.last = .range) ∧
      ∀ k dir, readUnit kb.toNat = some k → readSide dirb.toNat = some dir →
        (r.state = .free ∨ r.state = .retiring → t.cp.last = .state) ∧
        (¬ (r.state = .free ∨ r.state = .retiring) → r.cls ≠ .protection → t.cp.last = .range) ∧
        (¬ (r.state = .free ∨ r.state = .retiring) → r.cls = .protection →
          ((s.boundKeyer (readId id)).isSome = true ∨ (s.keyer k).binding ≠ none) → t.cp.last = .inuse) ∧
        (¬ (r.state = .free ∨ r.state = .retiring) → r.cls = .protection → s.boundKeyer (readId id) = none →
          (s.keyer k).binding = none → t.cp.last = .ok ∧
          t.keyer k = { (s.keyer k).freed with state := .guard, binding := some (readId id, dir) } ∧
          (∀ m, m ≠ k → t.keyer m = s.keyer m) ∧ t = { s with cp := t.cp, keyers := t.keyers })) ∧
  (∀ (s : State) (k : Idx8), Clear s → ∃ t, exec (.keyUnbind [byte k.val]) s = .next t ∧
    (∀ m, m ≠ k → t.keyer m = s.keyer m) ∧ t = { s with cp := t.cp, keyers := t.keyers } ∧
    ((s.keyer k).state = .command ∨ (s.keyer k).state = .lockout → t.cp.last = .state ∧ t.keyer k = s.keyer k) ∧
    ((s.keyer k).state = .unbound → t.cp.last = .ok ∧ t.keyer k = s.keyer k) ∧
    ((s.keyer k).state = .guard → t.cp.last = .ok ∧ (t.keyer k).state = .unbound ∧ (t.keyer k).binding = none ∧
      (t.keyer k).cfg = (s.keyer k).cfg ∧ (t.keyer k).sent = (s.keyer k).sent ∧ (t.keyer k).test = 0)) ∧
  (∀ (s : State) (kb g c1 c2 mode kmin gap q : Byte), Clear s →
    ∃ t, exec (.keyConfig [kb, g, c1, c2, mode, kmin, gap, q]) s = .next t ∧ t.cp.response = s.cp.response ∧
      (7 < kb.toNat ∨ 1 < mode.toNat ∨ kmin = 0 ∨ 15 < q.toNat ∨ g = c1 ∨ (mode = 1 ∧ (c2 = c1 ∨ c2 = g)) →
        t.cp.last = .range ∧ t = { s with cp := t.cp }) ∧
      ∀ k, readUnit kb.toNat = some k → mode.toNat ≤ 1 → kmin ≠ 0 → q.toNat ≤ 15 → g ≠ c1 →
        (mode = 1 → c2 ≠ c1 ∧ c2 ≠ g) →
        ((s.keyer k).state = .command ∨ (s.keyer k).state = .lockout → t.cp.last = .state ∧ t = { s with cp := t.cp }) ∧
        ((s.keyer k).state = .unbound ∨ (s.keyer k).state = .guard → t.cp.last = .ok ∧
          t.keyer k = { s.keyer k with cfg := ⟨g, c1, c2, decide (mode = 1), kmin.toNat, gap.toNat, q.toNat⟩ } ∧
          (∀ m, m ≠ k → t.keyer m = s.keyer m) ∧ t = { s with cp := t.cp, keyers := t.keyers })) ∧
  (∀ (s : State) (k : Idx8) (hi lo : Byte), Clear s →
    ∃ t, exec (.keyTest [byte k.val, hi, lo]) s = .next t ∧ t.cp.response = s.cp.response ∧
      (hi.toNat * 256 + lo.toNat = 0 ∨ 8000 < hi.toNat * 256 + lo.toNat → t.cp.last = .range ∧ t = { s with cp := t.cp }) ∧
      (1 ≤ hi.toNat * 256 + lo.toNat → hi.toNat * 256 + lo.toNat ≤ 8000 →
        (¬ (∃ id dir, (s.keyer k).binding = some (id, dir) ∧ (s.record id).state = .active) →
          t.cp.last = .state ∧ t = { s with cp := t.cp }) ∧
        (∀ id dir, (s.keyer k).binding = some (id, dir) → (s.record id).state = .active →
          ((s.keyer k).test ≠ 0 → t.cp.last = .busyUnit ∧ t = { s with cp := t.cp }) ∧
          ((s.keyer k).test = 0 → t.cp.last = .ok ∧
            t.keyer k = { s.keyer k with test := hi.toNat * 256 + lo.toNat } ∧
            (∀ m, m ≠ k → t.keyer m = s.keyer m) ∧ t = { s with cp := t.cp, keyers := t.keyers }))))

/-- The rows of a keyer's frame event: the run of asserted levels that reaches Q + 1 makes a key request, which sends a command
from GUARD; a COMMAND of at least Kmin frames ends without a request; LOCKOUT ends after G frames; the last command byte of a
test leaves no remainder. Every outcome of a frame event is stated, and that a station frame takes it for every bound keyer, with
whether its byte was delivered (R127, R151, R152, R153, R154, R157; that the event may be taken ahead of its station frame is log
4, the level without a KEY_IN line log 31, the number of a command frame log 19, a run above Q + 1 log 33, the duration count after a COMMAND
log 14). -/
def Obligations.KeyerFrameEvents : Prop :=
  (∀ (k e : Keyer) (level : Option Bool) (req : Bool), k.state ≠ .unbound → e = k.frame level →
    req = (decide (level = some true ∧ k.cfg.q ≤ k.run) || decide (0 < k.test)) →
    k.run = (if k.gained = true then 0 else k.qual) ∧ e.gained = false ∧ e.binding = k.binding ∧ e.cfg = k.cfg ∧
    e.qual = (if level = some true then min (k.run + 1) (k.cfg.q + 1) else 0) ∧
    e.last.level = level.getD false ∧ e.last.request = req ∧
    ((k.state = .guard ∨ k.state = .lockout ∧ k.lockout = 0) →
      (req = true → e.state = .command ∧ e.duration = 1 ∧ e.sent = bump k.sent ∧ e.last.byte = some k.cfg.c1 ∧
        e.oddFrame = true ∧ e.test = k.test - 1) ∧
      (req = false → e.state = .guard ∧ e.last.byte = some k.cfg.guard ∧ e.sent = k.sent ∧ e.duration = k.duration ∧
        e.test = k.test)) ∧
    (k.state = .command → k.cfg.kmin ≤ k.duration → req = false → e.last.byte = some k.cfg.guard ∧ e.sent = k.sent ∧
      e.test = k.test ∧ (k.cfg.g = 0 → e.state = .guard) ∧ (k.cfg.g ≠ 0 → e.state = .lockout ∧ e.lockout = k.cfg.g - 1)) ∧
    (k.state = .command → (k.duration < k.cfg.kmin ∨ req = true) → e.state = .command ∧
      e.duration = min (k.duration + 1) k.cfg.kmin ∧ e.sent = k.sent ∧ e.test = k.test - 1 ∧ e.oddFrame = !k.oddFrame ∧
      e.last.byte = some (if k.cfg.dual = true ∧ k.oddFrame = true then k.cfg.c2 else k.cfg.c1)) ∧
    (k.state = .lockout → 0 < k.lockout → e.state = .lockout ∧ e.lockout = k.lockout - 1 ∧
      e.last.byte = some k.cfg.guard ∧ e.sent = k.sent ∧ e.test = k.test)) ∧
  (∀ (s u : State) (inp : FrameIn) (n : Idx8), s.inReset = false → u = s.opening inp →
    ∃ t, exec (.stationFrame inp) s = .next t ∧ (t.keyer n).taken = false ∧
      ((u.keyer n).state = .unbound → (u.keyer n).binding = none → t.keyer n = { u.keyer n with taken := false }) ∧
      ∀ id dir, (u.keyer n).binding = some (id, dir) → ∃ e : Keyer,
        ((u.keyer n).taken = true → e = { u.keyer n with taken := false }) ∧
        ((u.keyer n).taken = false → e = (u.keyer n).frame (u.keyLevel n)) ∧
        ∃ yes : Bool, t.keyer n = { e with last := { e.last with delivered := yes } } ∧
          (yes = true ↔ (t.record id).state = .active ∧ (t.record id).fields.loopback = .none ∧
            (t.record id).failed.get dir = false)) ∧
  ∀ (s : State) (n : Idx8) (k : Keyer), s.inReset = false → k = s.keyer n → k.state ≠ .unbound → k.taken = false →
    (s.keyLevel n = some true → k.run = k.cfg.q →
      ∃ t, exec (.lineRequestQualified n) s = .next t ∧ t = { s with keyers := t.keyers } ∧
        (∀ m, m ≠ n → t.keyer m = s.keyer m) ∧ (t.keyer n).qual = k.cfg.q + 1 ∧ (t.keyer n).last.request = true ∧
        (t.keyer n).last.level = true ∧ (t.keyer n).taken = true ∧
        (k.state = .guard → (t.keyer n).state = .command ∧ (t.keyer n).duration = 1 ∧
          (t.keyer n).sent = bump k.sent ∧ (t.keyer n).last.byte = some k.cfg.c1)) ∧
    (k.state = .command → k.cfg.kmin ≤ k.duration → s.keyLevel n ≠ some true → k.test = 0 →
      ∃ t, exec (.keyerCommandEnd n) s = .next t ∧ t = { s with keyers := t.keyers } ∧
        (∀ m, m ≠ n → t.keyer m = s.keyer m) ∧ (t.keyer n).last.byte = some k.cfg.guard ∧
        (t.keyer n).last.request = false ∧ (t.keyer n).qual = 0 ∧ (t.keyer n).sent = k.sent ∧
        (k.cfg.g = 0 → (t.keyer n).state = .guard) ∧
        (k.cfg.g ≠ 0 → (t.keyer n).state = .lockout ∧ (t.keyer n).lockout + 1 = k.cfg.g)) ∧
    (k.state = .lockout → k.lockout = 0 →
      ∃ t, exec (.lockoutExpiry n) s = .next t ∧ t = { s with keyers := t.keyers } ∧
        (∀ m, m ≠ n → t.keyer m = s.keyer m) ∧
        (s.keyLevel n ≠ some true → k.test = 0 →
          (t.keyer n).state = .guard ∧ (t.keyer n).last.byte = some k.cfg.guard ∧ (t.keyer n).sent = k.sent) ∧
        (0 < k.test →
          (t.keyer n).state = .command ∧ (t.keyer n).last.byte = some k.cfg.c1 ∧ (t.keyer n).sent = bump k.sent)) ∧
    (k.test = 1 → (k.state = .guard ∨ k.state = .command) →
      ∃ t, exec (.testRemainderExpiry n) s = .next t ∧ t = { s with keyers := t.keyers } ∧
        (∀ m, m ≠ n → t.keyer m = s.keyer m) ∧ (t.keyer n).test = 0 ∧ (t.keyer n).state = .command ∧
        (k.state = .guard → (t.keyer n).last.byte = some k.cfg.c1) ∧
        (k.cfg.dual = false → (t.keyer n).last.byte = some k.cfg.c1))

/-! ### Contact lines -/

/-- LINE CONFIG and LINE WRITE, and a change of the wiring's level: on an INPUT or KEY_IN line it raises LINES and is presented
with its polarity, on a line that drives it raises nothing; the pin of a driven line stands at the wiring's level only where the
wiring overpowers it. A keyer that gains a KEY_IN line counts its run from its next frame event. A level change and a LINE CONFIG
leave the same lines and levels in both orders (R156, R157, R158, R159; how the wiring overpowers a drive is log 12). -/
def Obligations.ContactLineCommandsAndLevels : Prop :=
  (∀ (s : State) (nb fb pb ub : Byte), Clear s →
    ∃ t, exec (.lineConfig [nb, fb, pb, ub]) s = .next t ∧ t.cp.response = s.cp.response ∧
      (7 < nb.toNat ∨ 4 < fb.toNat ∨ 1 < pb.toNat ∨ 7 < ub.toNat → t.cp.last = .range ∧ t = { s with cp := t.cp }) ∧
      ∀ n f u, readUnit nb.toNat = some n → readFunction fb.toNat = some f → pb.toNat ≤ 1 → readUnit ub.toNat = some u →
        ((f = .keyIn ∧ ∃ m, m ≠ n ∧ (s.line m).function = .keyIn ∧ (s.line m).unit = u) →
          t.cp.last = .inuse ∧ t = { s with cp := t.cp }) ∧
        (¬ (f = .keyIn ∧ ∃ m, m ≠ n ∧ (s.line m).function = .keyIn ∧ (s.line m).unit = u) →
          t.cp.last = .ok ∧ (t.line n).function = f ∧ (t.line n).activeLow = decide (pb = 1) ∧ (t.line n).unit = u ∧
          (t.line n).latch = (s.line n).latch ∧ (t.line n).wire = (s.line n).wire ∧
          (t.line n).overpowers = (s.line n).overpowers ∧ (∀ m, m ≠ n → t.line m = s.line m) ∧
          (∀ k, k ≠ u → t.keyer k = s.keyer k) ∧
          (f ≠ .keyIn ∨ (s.line n).function = .keyIn ∧ (s.line n).unit = u → t.keyer u = s.keyer u) ∧
          (f = .keyIn → ¬ ((s.line n).function = .keyIn ∧ (s.line n).unit = u) →
            t.keyer u = { s.keyer u with gained := true } ∧ (t.keyer u).run = 0) ∧
          t = { s with cp := t.cp, clu := { s.clu with lines := t.clu.lines }, keyers := t.keyers })) ∧
  (∀ (s : State) (b : Byte), Clear s → ∃ t, exec (.lineWrite [b]) s = .next t ∧ Ended s t 1 .ok s.cp.response ∧
    (∀ n : Idx8, t.line n = { s.line n with latch := b.getLsbD n.val }) ∧
    t = { s with cp := t.cp, clu := { s.clu with lines := t.clu.lines } }) ∧
  (∀ (s t1 t2 t3 t4 : State) (n : Idx8) (w : Wiring) (ps : List Byte),
    exec (.lineLevelChange n w) s = .next t1 → exec (.lineConfig ps) t1 = .next t2 →
    exec (.lineConfig ps) s = .next t3 → exec (.lineLevelChange n w) t3 = .next t4 →
    t2.clu = t4.clu ∧ ∀ m, t2.presented m = t4.presented m ∧ t2.pinLevel m = t4.pinLevel m) ∧
  (∀ (s : State) (n : Idx8) (w : Wiring), s.inReset = false →
    ∃ t, exec (.lineLevelChange n w) s = .next t ∧ (∀ m, m ≠ n → t.line m = s.line m) ∧
      t = { s with clu := { s.clu with lines := t.clu.lines }, au := t.au } ∧
      t.line n = { s.line n with wire := w.level, overpowers := w.overpowers } ∧
      (∀ b, t.driven n = some b → t.pinLevel n = if w.overpowers = true then w.level else b) ∧
      (((s.line n).function = .input ∨ (s.line n).function = .keyIn) →
        t.presented n = (w.level != (s.line n).activeLow) ∧ ((s.line n).wire = w.level → t.au = s.au) ∧
        ((s.line n).wire ≠ w.level → t.au.flags.getLsbD 11 = true ∧
          (∀ i, i ≠ 11 → t.au.flags.getLsbD i = s.au.flags.getLsbD i) ∧ t.au = { s.au with flags := t.au.flags })) ∧
      (¬ ((s.line n).function = .input ∨ (s.line n).function = .keyIn) → t.au = s.au))

/-- ALARM MASK writes the mask, or is refused with RANGE above 0x1F and with BUSY while a commit is pending; the summary is true
exactly when a term of a set mask bit holds; both resets set 0x1F (R161). The five terms are those of R160. -/
def Obligations.AlarmMaskSelectsTerms : Prop :=
  (∀ (s : State) (b : Byte), Clear s → ∃ t, exec (.alarmMask [b]) s = .next t ∧
    (0x1F < b.toNat → Ended s t 1 .range s.cp.response ∧ t = { s with cp := t.cp }) ∧
    (b.toNat ≤ 0x1F → Ended s t 1 .ok s.cp.response ∧ t = { s with cp := t.cp, clu := t.clu } ∧
      t.clu = { s.clu with alarmMask := t.clu.alarmMask } ∧ t.clu.alarmMask.toNat = b.toNat ∧
      t.alarmTerms = s.alarmTerms ∧
      (∀ n : Idx8, (t.line n).function = .alarmOut → t.driven n = some (t.alarmSummary != (t.line n).activeLow)))) ∧
  (∀ (s : State) (b : Byte), Runs s → s.ct.commitPending = true →
    ∃ t, exec (.alarmMask [b]) s = .next t ∧ Ended s t 1 .busy s.cp.response ∧ t = { s with cp := t.cp }) ∧
  (∀ s : State, s.alarmSummary = true ↔ ∃ i, i < 5 ∧ s.clu.alarmMask.getLsbD i = true ∧ s.alarmTerms.getD i false = true) ∧
  (∀ s : State, s.alarmTerms.length = 5 ∧
    (s.alarmTerms.getD 0 false = true ↔
      ∃ n, (s.trib n).cfg.enable = true ∧ ((s.trib n).rx.align ≠ .aligned ∨ (s.trib n).rx.ais = true)) ∧
    (s.alarmTerms.getD 1 false = true ↔
      ∃ k, (s.port k).enable = true ∧ ((s.port k).align ≠ .aligned ∨ (s.deskew k).state ≠ .inWindow)) ∧
    (s.alarmTerms.getD 2 false = true ↔ ∃ d, (s.det d).state = .blocked) ∧
    (s.alarmTerms.getD 3 false = true ↔ s.stu.state ≠ .locked) ∧
    (s.alarmTerms.getD 4 false = true ↔ ∃ id, (s.record id).state = .active ∧ (s.record id).health = .faulted)) ∧
  (∀ s : State, s.clu.alarmMask = 0 → s.alarmSummary = false) ∧
  (∀ s t : State, exec .hardwareReset s = .next t → t.clu.alarmMask = 0x1F) ∧
  (∀ s t : State, Clear s → exec (.softReset []) s = .next t → t.clu.alarmMask = 0x1F)

/-! ### What every step keeps -/

/-- Every step keeps each of the laws on the attention queue, the deskew stores, the KEY_IN lines, the counts of station timing
and the bindings (R68, R103, R104, R135, R148, R157, R170). -/
def Obligations.StepKeepsQueueAndBufferLaws : Prop :=
  ∀ s t : State, step s = .next t →
    (QueueLaw s → QueueLaw t) ∧ (DeskewLaw s → DeskewLaw t) ∧ (KeyLineLaw s → KeyLineLaw t) ∧ (CountLaw s → CountLaw t) ∧
      (BindingLaw s → BindingLaw t)

/-- Every step keeps the detectors' law: a detector in PENDING, COMMAND or TRAIL is bound to an ACTIVE record whose watched
direction has source OK (R140). -/
def Obligations.StepKeepsDetectorLaw : Prop :=
  ∀ s t : State, DetectorLaw s → step s = .next t → DetectorLaw t

/-- Every step keeps the reserved slots free of owners in both maps, and the Next Map vacant except while a commit is pending
(R29, R31). -/
def Obligations.StepKeepsReservedSlotsFree : Prop :=
  ∀ s t : State, ReservedLaw s → step s = .next t → ReservedLaw t

/-- Every step keeps the ends and staged ends of every record lawful: 1 to 31 numbers of the port, none twice, both ends of
equal length (R3). -/
def Obligations.StepKeepsEndsLawful : Prop :=
  ∀ s t : State, EndsLaw s → step s = .next t → EndsLaw t

/-- Every law holds after reset. -/
def Obligations.LawsHoldAtReset : Prop :=
  QueueLaw .reset ∧ DeskewLaw .reset ∧ KeyLineLaw .reset ∧ DetectorLaw .reset ∧ ReservedLaw .reset ∧ EndsLaw .reset ∧
    CountLaw .reset ∧ BindingLaw .reset ∧ MapLaw .reset ∧ PathLaw .reset
end

