-- ==== Sys2Proof/Laws/State.lean ====
section
/-! SUPPORT. What each named update of the state leaves alone, field by field, and what its reads give. -/

namespace Sys2Proof.Machine

variable (s : State)

/-! ### setRecord -/

@[simp] theorem setRecord_tribs (id : RecId) (r : Record) : (s.setRecord id r).tribs = s.tribs := rfl
@[simp] theorem setRecord_stu (id : RecId) (r : Record) : (s.setRecord id r).stu = s.stu := rfl
@[simp] theorem setRecord_trunks (id : RecId) (r : Record) : (s.setRecord id r).trunks = s.trunks := rfl
@[simp] theorem setRecord_ps (id : RecId) (r : Record) : (s.setRecord id r).ps = s.ps := rfl
@[simp] theorem setRecord_dets (id : RecId) (r : Record) : (s.setRecord id r).dets = s.dets := rfl
@[simp] theorem setRecord_keyers (id : RecId) (r : Record) : (s.setRecord id r).keyers = s.keyers := rfl
@[simp] theorem setRecord_clu (id : RecId) (r : Record) : (s.setRecord id r).clu = s.clu := rfl
@[simp] theorem setRecord_cp (id : RecId) (r : Record) : (s.setRecord id r).cp = s.cp := rfl
@[simp] theorem setRecord_au (id : RecId) (r : Record) : (s.setRecord id r).au = s.au := rfl
@[simp] theorem setRecord_inReset (id : RecId) (r : Record) : (s.setRecord id r).inReset = s.inReset := rfl
@[simp] theorem setRecord_pending (id : RecId) (r : Record) : (s.setRecord id r).pending = s.pending := rfl

/-! ### setTrib -/

@[simp] theorem setTrib_ct (t : Idx8) (p : Trib) : (s.setTrib t p).ct = s.ct := rfl
@[simp] theorem setTrib_stu (t : Idx8) (p : Trib) : (s.setTrib t p).stu = s.stu := rfl
@[simp] theorem setTrib_trunks (t : Idx8) (p : Trib) : (s.setTrib t p).trunks = s.trunks := rfl
@[simp] theorem setTrib_ps (t : Idx8) (p : Trib) : (s.setTrib t p).ps = s.ps := rfl
@[simp] theorem setTrib_dets (t : Idx8) (p : Trib) : (s.setTrib t p).dets = s.dets := rfl
@[simp] theorem setTrib_keyers (t : Idx8) (p : Trib) : (s.setTrib t p).keyers = s.keyers := rfl
@[simp] theorem setTrib_clu (t : Idx8) (p : Trib) : (s.setTrib t p).clu = s.clu := rfl
@[simp] theorem setTrib_cp (t : Idx8) (p : Trib) : (s.setTrib t p).cp = s.cp := rfl
@[simp] theorem setTrib_au (t : Idx8) (p : Trib) : (s.setTrib t p).au = s.au := rfl
@[simp] theorem setTrib_inReset (t : Idx8) (p : Trib) : (s.setTrib t p).inReset = s.inReset := rfl
@[simp] theorem setTrib_pending (t : Idx8) (p : Trib) : (s.setTrib t p).pending = s.pending := rfl

/-! ### setPort -/

@[simp] theorem setPort_ct (k : Trunk) (p : TrunkPort) : (s.setPort k p).ct = s.ct := rfl
@[simp] theorem setPort_tribs (k : Trunk) (p : TrunkPort) : (s.setPort k p).tribs = s.tribs := rfl
@[simp] theorem setPort_stu (k : Trunk) (p : TrunkPort) : (s.setPort k p).stu = s.stu := rfl
@[simp] theorem setPort_ps (k : Trunk) (p : TrunkPort) : (s.setPort k p).ps = s.ps := rfl
@[simp] theorem setPort_dets (k : Trunk) (p : TrunkPort) : (s.setPort k p).dets = s.dets := rfl
@[simp] theorem setPort_keyers (k : Trunk) (p : TrunkPort) : (s.setPort k p).keyers = s.keyers := rfl
@[simp] theorem setPort_clu (k : Trunk) (p : TrunkPort) : (s.setPort k p).clu = s.clu := rfl
@[simp] theorem setPort_cp (k : Trunk) (p : TrunkPort) : (s.setPort k p).cp = s.cp := rfl
@[simp] theorem setPort_au (k : Trunk) (p : TrunkPort) : (s.setPort k p).au = s.au := rfl
@[simp] theorem setPort_inReset (k : Trunk) (p : TrunkPort) : (s.setPort k p).inReset = s.inReset := rfl
@[simp] theorem setPort_pending (k : Trunk) (p : TrunkPort) : (s.setPort k p).pending = s.pending := rfl

/-! ### setDeskew -/

@[simp] theorem setDeskew_ct (k : Trunk) (d : Deskew) : (s.setDeskew k d).ct = s.ct := rfl
@[simp] theorem setDeskew_tribs (k : Trunk) (d : Deskew) : (s.setDeskew k d).tribs = s.tribs := rfl
@[simp] theorem setDeskew_stu (k : Trunk) (d : Deskew) : (s.setDeskew k d).stu = s.stu := rfl
@[simp] theorem setDeskew_trunks (k : Trunk) (d : Deskew) : (s.setDeskew k d).trunks = s.trunks := rfl
@[simp] theorem setDeskew_dets (k : Trunk) (d : Deskew) : (s.setDeskew k d).dets = s.dets := rfl
@[simp] theorem setDeskew_keyers (k : Trunk) (d : Deskew) : (s.setDeskew k d).keyers = s.keyers := rfl
@[simp] theorem setDeskew_clu (k : Trunk) (d : Deskew) : (s.setDeskew k d).clu = s.clu := rfl
@[simp] theorem setDeskew_cp (k : Trunk) (d : Deskew) : (s.setDeskew k d).cp = s.cp := rfl
@[simp] theorem setDeskew_au (k : Trunk) (d : Deskew) : (s.setDeskew k d).au = s.au := rfl
@[simp] theorem setDeskew_inReset (k : Trunk) (d : Deskew) : (s.setDeskew k d).inReset = s.inReset := rfl
@[simp] theorem setDeskew_pending (k : Trunk) (d : Deskew) : (s.setDeskew k d).pending = s.pending := rfl

/-! ### setKeyer -/

@[simp] theorem setKeyer_ct (k : Idx8) (u : Keyer) : (s.setKeyer k u).ct = s.ct := rfl
@[simp] theorem setKeyer_tribs (k : Idx8) (u : Keyer) : (s.setKeyer k u).tribs = s.tribs := rfl
@[simp] theorem setKeyer_stu (k : Idx8) (u : Keyer) : (s.setKeyer k u).stu = s.stu := rfl
@[simp] theorem setKeyer_trunks (k : Idx8) (u : Keyer) : (s.setKeyer k u).trunks = s.trunks := rfl
@[simp] theorem setKeyer_ps (k : Idx8) (u : Keyer) : (s.setKeyer k u).ps = s.ps := rfl
@[simp] theorem setKeyer_dets (k : Idx8) (u : Keyer) : (s.setKeyer k u).dets = s.dets := rfl
@[simp] theorem setKeyer_clu (k : Idx8) (u : Keyer) : (s.setKeyer k u).clu = s.clu := rfl
@[simp] theorem setKeyer_cp (k : Idx8) (u : Keyer) : (s.setKeyer k u).cp = s.cp := rfl
@[simp] theorem setKeyer_au (k : Idx8) (u : Keyer) : (s.setKeyer k u).au = s.au := rfl
@[simp] theorem setKeyer_inReset (k : Idx8) (u : Keyer) : (s.setKeyer k u).inReset = s.inReset := rfl
@[simp] theorem setKeyer_pending (k : Idx8) (u : Keyer) : (s.setKeyer k u).pending = s.pending := rfl

/-! ### setLine -/

@[simp] theorem setLine_ct (n : Idx8) (l : Line) : (s.setLine n l).ct = s.ct := rfl
@[simp] theorem setLine_tribs (n : Idx8) (l : Line) : (s.setLine n l).tribs = s.tribs := rfl
@[simp] theorem setLine_stu (n : Idx8) (l : Line) : (s.setLine n l).stu = s.stu := rfl
@[simp] theorem setLine_trunks (n : Idx8) (l : Line) : (s.setLine n l).trunks = s.trunks := rfl
@[simp] theorem setLine_ps (n : Idx8) (l : Line) : (s.setLine n l).ps = s.ps := rfl
@[simp] theorem setLine_dets (n : Idx8) (l : Line) : (s.setLine n l).dets = s.dets := rfl
@[simp] theorem setLine_keyers (n : Idx8) (l : Line) : (s.setLine n l).keyers = s.keyers := rfl
@[simp] theorem setLine_cp (n : Idx8) (l : Line) : (s.setLine n l).cp = s.cp := rfl
@[simp] theorem setLine_au (n : Idx8) (l : Line) : (s.setLine n l).au = s.au := rfl
@[simp] theorem setLine_inReset (n : Idx8) (l : Line) : (s.setLine n l).inReset = s.inReset := rfl
@[simp] theorem setLine_pending (n : Idx8) (l : Line) : (s.setLine n l).pending = s.pending := rfl

/-! ### post -/

@[simp] theorem post_ct (ids : List RecId) : (s.post ids).ct = s.ct := rfl
@[simp] theorem post_tribs (ids : List RecId) : (s.post ids).tribs = s.tribs := rfl
@[simp] theorem post_stu (ids : List RecId) : (s.post ids).stu = s.stu := rfl
@[simp] theorem post_trunks (ids : List RecId) : (s.post ids).trunks = s.trunks := rfl
@[simp] theorem post_ps (ids : List RecId) : (s.post ids).ps = s.ps := rfl
@[simp] theorem post_dets (ids : List RecId) : (s.post ids).dets = s.dets := rfl
@[simp] theorem post_keyers (ids : List RecId) : (s.post ids).keyers = s.keyers := rfl
@[simp] theorem post_clu (ids : List RecId) : (s.post ids).clu = s.clu := rfl
@[simp] theorem post_cp (ids : List RecId) : (s.post ids).cp = s.cp := rfl
@[simp] theorem post_inReset (ids : List RecId) : (s.post ids).inReset = s.inReset := rfl
@[simp] theorem post_pending (ids : List RecId) : (s.post ids).pending = s.pending := rfl

/-! ### raise -/

@[simp] theorem raise_ct (n : Nat) : (s.raise n).ct = s.ct := rfl
@[simp] theorem raise_tribs (n : Nat) : (s.raise n).tribs = s.tribs := rfl
@[simp] theorem raise_stu (n : Nat) : (s.raise n).stu = s.stu := rfl
@[simp] theorem raise_trunks (n : Nat) : (s.raise n).trunks = s.trunks := rfl
@[simp] theorem raise_ps (n : Nat) : (s.raise n).ps = s.ps := rfl
@[simp] theorem raise_dets (n : Nat) : (s.raise n).dets = s.dets := rfl
@[simp] theorem raise_keyers (n : Nat) : (s.raise n).keyers = s.keyers := rfl
@[simp] theorem raise_clu (n : Nat) : (s.raise n).clu = s.clu := rfl
@[simp] theorem raise_cp (n : Nat) : (s.raise n).cp = s.cp := rfl
@[simp] theorem raise_inReset (n : Nat) : (s.raise n).inReset = s.inReset := rfl
@[simp] theorem raise_pending (n : Nat) : (s.raise n).pending = s.pending := rfl

/-! ### mapRecords -/

@[simp] theorem mapRecords_tribs (f : RecId → Record → Record) : (s.mapRecords f).tribs = s.tribs := rfl
@[simp] theorem mapRecords_stu (f : RecId → Record → Record) : (s.mapRecords f).stu = s.stu := rfl
@[simp] theorem mapRecords_trunks (f : RecId → Record → Record) : (s.mapRecords f).trunks = s.trunks := rfl
@[simp] theorem mapRecords_ps (f : RecId → Record → Record) : (s.mapRecords f).ps = s.ps := rfl
@[simp] theorem mapRecords_dets (f : RecId → Record → Record) : (s.mapRecords f).dets = s.dets := rfl
@[simp] theorem mapRecords_keyers (f : RecId → Record → Record) : (s.mapRecords f).keyers = s.keyers := rfl
@[simp] theorem mapRecords_clu (f : RecId → Record → Record) : (s.mapRecords f).clu = s.clu := rfl
@[simp] theorem mapRecords_cp (f : RecId → Record → Record) : (s.mapRecords f).cp = s.cp := rfl
@[simp] theorem mapRecords_au (f : RecId → Record → Record) : (s.mapRecords f).au = s.au := rfl
@[simp] theorem mapRecords_inReset (f : RecId → Record → Record) : (s.mapRecords f).inReset = s.inReset := rfl
@[simp] theorem mapRecords_pending (f : RecId → Record → Record) : (s.mapRecords f).pending = s.pending := rfl

/-! ### answer -/

@[simp] theorem answer_ct (r : List Byte) : (s.answer r).ct = s.ct := rfl
@[simp] theorem answer_tribs (r : List Byte) : (s.answer r).tribs = s.tribs := rfl
@[simp] theorem answer_stu (r : List Byte) : (s.answer r).stu = s.stu := rfl
@[simp] theorem answer_trunks (r : List Byte) : (s.answer r).trunks = s.trunks := rfl
@[simp] theorem answer_ps (r : List Byte) : (s.answer r).ps = s.ps := rfl
@[simp] theorem answer_dets (r : List Byte) : (s.answer r).dets = s.dets := rfl
@[simp] theorem answer_keyers (r : List Byte) : (s.answer r).keyers = s.keyers := rfl
@[simp] theorem answer_clu (r : List Byte) : (s.answer r).clu = s.clu := rfl
@[simp] theorem answer_au (r : List Byte) : (s.answer r).au = s.au := rfl
@[simp] theorem answer_inReset (r : List Byte) : (s.answer r).inReset = s.inReset := rfl
@[simp] theorem answer_pending (r : List Byte) : (s.answer r).pending = s.pending := rfl

/-! ### rise -/

@[simp] theorem rise_ct (sdo : List Byte) (c : Code) : (s.rise sdo c).ct = s.ct := rfl
@[simp] theorem rise_tribs (sdo : List Byte) (c : Code) : (s.rise sdo c).tribs = s.tribs := rfl
@[simp] theorem rise_stu (sdo : List Byte) (c : Code) : (s.rise sdo c).stu = s.stu := rfl
@[simp] theorem rise_trunks (sdo : List Byte) (c : Code) : (s.rise sdo c).trunks = s.trunks := rfl
@[simp] theorem rise_ps (sdo : List Byte) (c : Code) : (s.rise sdo c).ps = s.ps := rfl
@[simp] theorem rise_dets (sdo : List Byte) (c : Code) : (s.rise sdo c).dets = s.dets := rfl
@[simp] theorem rise_keyers (sdo : List Byte) (c : Code) : (s.rise sdo c).keyers = s.keyers := rfl
@[simp] theorem rise_clu (sdo : List Byte) (c : Code) : (s.rise sdo c).clu = s.clu := rfl
@[simp] theorem rise_au (sdo : List Byte) (c : Code) : (s.rise sdo c).au = s.au := rfl
@[simp] theorem rise_inReset (sdo : List Byte) (c : Code) : (s.rise sdo c).inReset = s.inReset := rfl
@[simp] theorem rise_pending (sdo : List Byte) (c : Code) : (s.rise sdo c).pending = s.pending := rfl

/-! ### release -/

@[simp] theorem release_ct : (s.release ).ct = s.ct := rfl
@[simp] theorem release_tribs : (s.release ).tribs = s.tribs := rfl
@[simp] theorem release_stu : (s.release ).stu = s.stu := rfl
@[simp] theorem release_trunks : (s.release ).trunks = s.trunks := rfl
@[simp] theorem release_ps : (s.release ).ps = s.ps := rfl
@[simp] theorem release_dets : (s.release ).dets = s.dets := rfl
@[simp] theorem release_keyers : (s.release ).keyers = s.keyers := rfl
@[simp] theorem release_clu : (s.release ).clu = s.clu := rfl
@[simp] theorem release_au : (s.release ).au = s.au := rfl
@[simp] theorem release_inReset : (s.release ).inReset = s.inReset := rfl
@[simp] theorem release_pending : (s.release ).pending = s.pending := rfl

/-! ### countSlips -/

@[simp] theorem countSlips_tribs (p : Port) : (s.countSlips p).tribs = s.tribs := rfl
@[simp] theorem countSlips_stu (p : Port) : (s.countSlips p).stu = s.stu := rfl
@[simp] theorem countSlips_trunks (p : Port) : (s.countSlips p).trunks = s.trunks := rfl
@[simp] theorem countSlips_ps (p : Port) : (s.countSlips p).ps = s.ps := rfl
@[simp] theorem countSlips_dets (p : Port) : (s.countSlips p).dets = s.dets := rfl
@[simp] theorem countSlips_keyers (p : Port) : (s.countSlips p).keyers = s.keyers := rfl
@[simp] theorem countSlips_clu (p : Port) : (s.countSlips p).clu = s.clu := rfl
@[simp] theorem countSlips_cp (p : Port) : (s.countSlips p).cp = s.cp := rfl
@[simp] theorem countSlips_au (p : Port) : (s.countSlips p).au = s.au := rfl
@[simp] theorem countSlips_inReset (p : Port) : (s.countSlips p).inReset = s.inReset := rfl
@[simp] theorem countSlips_pending (p : Port) : (s.countSlips p).pending = s.pending := rfl

/-! ### restartDets -/

@[simp] theorem restartDets_ct (p : Port) : (s.restartDets p).ct = s.ct := rfl
@[simp] theorem restartDets_tribs (p : Port) : (s.restartDets p).tribs = s.tribs := rfl
@[simp] theorem restartDets_stu (p : Port) : (s.restartDets p).stu = s.stu := rfl
@[simp] theorem restartDets_trunks (p : Port) : (s.restartDets p).trunks = s.trunks := rfl
@[simp] theorem restartDets_ps (p : Port) : (s.restartDets p).ps = s.ps := rfl
@[simp] theorem restartDets_keyers (p : Port) : (s.restartDets p).keyers = s.keyers := rfl
@[simp] theorem restartDets_clu (p : Port) : (s.restartDets p).clu = s.clu := rfl
@[simp] theorem restartDets_cp (p : Port) : (s.restartDets p).cp = s.cp := rfl
@[simp] theorem restartDets_au (p : Port) : (s.restartDets p).au = s.au := rfl
@[simp] theorem restartDets_inReset (p : Port) : (s.restartDets p).inReset = s.inReset := rfl
@[simp] theorem restartDets_pending (p : Port) : (s.restartDets p).pending = s.pending := rfl

/-! ### slipNotice -/

@[simp] theorem slipNotice_tribs (p : Port) : (s.slipNotice p).tribs = s.tribs := rfl
@[simp] theorem slipNotice_stu (p : Port) : (s.slipNotice p).stu = s.stu := rfl
@[simp] theorem slipNotice_trunks (p : Port) : (s.slipNotice p).trunks = s.trunks := rfl
@[simp] theorem slipNotice_ps (p : Port) : (s.slipNotice p).ps = s.ps := rfl
@[simp] theorem slipNotice_keyers (p : Port) : (s.slipNotice p).keyers = s.keyers := rfl
@[simp] theorem slipNotice_clu (p : Port) : (s.slipNotice p).clu = s.clu := rfl
@[simp] theorem slipNotice_cp (p : Port) : (s.slipNotice p).cp = s.cp := rfl
@[simp] theorem slipNotice_au (p : Port) : (s.slipNotice p).au = s.au := rfl
@[simp] theorem slipNotice_inReset (p : Port) : (s.slipNotice p).inReset = s.inReset := rfl
@[simp] theorem slipNotice_pending (p : Port) : (s.slipNotice p).pending = s.pending := rfl

/-! ### updateRecords -/

@[simp] theorem updateRecords_tribs (f : RecId → Record → Record) : (s.updateRecords f).tribs = s.tribs := rfl
@[simp] theorem updateRecords_stu (f : RecId → Record → Record) : (s.updateRecords f).stu = s.stu := rfl
@[simp] theorem updateRecords_trunks (f : RecId → Record → Record) : (s.updateRecords f).trunks = s.trunks := rfl
@[simp] theorem updateRecords_ps (f : RecId → Record → Record) : (s.updateRecords f).ps = s.ps := rfl
@[simp] theorem updateRecords_dets (f : RecId → Record → Record) : (s.updateRecords f).dets = s.dets := rfl
@[simp] theorem updateRecords_keyers (f : RecId → Record → Record) : (s.updateRecords f).keyers = s.keyers := rfl
@[simp] theorem updateRecords_clu (f : RecId → Record → Record) : (s.updateRecords f).clu = s.clu := rfl
@[simp] theorem updateRecords_cp (f : RecId → Record → Record) : (s.updateRecords f).cp = s.cp := rfl
@[simp] theorem updateRecords_inReset (f : RecId → Record → Record) : (s.updateRecords f).inReset = s.inReset := rfl
@[simp] theorem updateRecords_pending (f : RecId → Record → Record) : (s.updateRecords f).pending = s.pending := rfl

/-! ### updateDets -/

@[simp] theorem updateDets_ct (f : Idx8 → Detector → Detector) : (s.updateDets f).ct = s.ct := rfl
@[simp] theorem updateDets_tribs (f : Idx8 → Detector → Detector) : (s.updateDets f).tribs = s.tribs := rfl
@[simp] theorem updateDets_stu (f : Idx8 → Detector → Detector) : (s.updateDets f).stu = s.stu := rfl
@[simp] theorem updateDets_trunks (f : Idx8 → Detector → Detector) : (s.updateDets f).trunks = s.trunks := rfl
@[simp] theorem updateDets_ps (f : Idx8 → Detector → Detector) : (s.updateDets f).ps = s.ps := rfl
@[simp] theorem updateDets_keyers (f : Idx8 → Detector → Detector) : (s.updateDets f).keyers = s.keyers := rfl
@[simp] theorem updateDets_clu (f : Idx8 → Detector → Detector) : (s.updateDets f).clu = s.clu := rfl
@[simp] theorem updateDets_cp (f : Idx8 → Detector → Detector) : (s.updateDets f).cp = s.cp := rfl
@[simp] theorem updateDets_inReset (f : Idx8 → Detector → Detector) : (s.updateDets f).inReset = s.inReset := rfl
@[simp] theorem updateDets_pending (f : Idx8 → Detector → Detector) : (s.updateDets f).pending = s.pending := rfl

/-! ### freeRecords -/

@[simp] theorem freeRecords_tribs (gone : RecId → Bool) : (s.freeRecords gone).tribs = s.tribs := rfl
@[simp] theorem freeRecords_stu (gone : RecId → Bool) : (s.freeRecords gone).stu = s.stu := rfl
@[simp] theorem freeRecords_trunks (gone : RecId → Bool) : (s.freeRecords gone).trunks = s.trunks := rfl
@[simp] theorem freeRecords_ps (gone : RecId → Bool) : (s.freeRecords gone).ps = s.ps := rfl
@[simp] theorem freeRecords_clu (gone : RecId → Bool) : (s.freeRecords gone).clu = s.clu := rfl
@[simp] theorem freeRecords_cp (gone : RecId → Bool) : (s.freeRecords gone).cp = s.cp := rfl
@[simp] theorem freeRecords_inReset (gone : RecId → Bool) : (s.freeRecords gone).inReset = s.inReset := rfl
@[simp] theorem freeRecords_pending (gone : RecId → Bool) : (s.freeRecords gone).pending = s.pending := rfl

/-! ### Reads of vectors -/

theorem mapFrom_getElem? {α β : Type} (f : Nat → α → β) (m : Nat) (l : List α) (i : Nat) :
    (mapFrom f m l)[i]? = (l[i]?).map (f (m + i)) := by
  induction l generalizing m i with
  | nil => simp [mapFrom]
  | cons a as ih =>
    cases i with
    | zero => simp [mapFrom]
    | succ i => simp [mapFrom, ih, Nat.add_assoc, Nat.add_comm 1]

/-- Reading a mapped vector maps what is read. -/
@[simp] theorem mapVec_get {α β : Type} {n : Nat} (f : Nat → α → β) (v : Vector α n) (i : Fin n) :
    (mapVec f v).get i = f i.val (v.get i) := by
  have h := mapFrom_getElem? f 0 v.toList i.val
  have hi : i.val < v.toList.length := by simp
  have hm : i.val < (mapFrom f 0 v.toList).length := by simp [mapFrom_length]
  rw [List.getElem?_eq_getElem hm, List.getElem?_eq_getElem hi] at h
  simp only [Nat.zero_add, Option.map_some, Option.some.injEq] at h
  exact h

@[simp] theorem setAt_get_self {α : Type} {n : Nat} (v : Vector α n) (i : Fin n) (a : α) : (setAt v i a).get i = a := by
  change (v.set i.val a i.isLt)[i.val] = a
  simp

theorem setAt_get {α : Type} {n : Nat} (v : Vector α n) (i j : Fin n) (a : α) :
    (setAt v i a).get j = if i = j then a else v.get j := by
  change (v.set i.val a i.isLt)[j.val] = if i = j then a else v[j.val]
  rw [Vector.getElem_set]
  simp [Fin.ext_iff]

theorem setAt_get_ne {α : Type} {n : Nat} (v : Vector α n) {i j : Fin n} (a : α) (h : i ≠ j) :
    (setAt v i a).get j = v.get j := by simp [setAt_get, h]

/-! ### Reads of the blocks -/

@[simp] theorem record_setRecord_self (id : RecId) (r : Record) : (s.setRecord id r).record id = r := setAt_get_self _ _ _
theorem record_setRecord (id j : RecId) (r : Record) :
    (s.setRecord id r).record j = if id = j then r else s.record j := setAt_get _ _ _ _
@[simp] theorem trib_setTrib_self (t : Idx8) (p : Trib) : (s.setTrib t p).trib t = p := setAt_get_self _ _ _
theorem trib_setTrib (t u : Idx8) (p : Trib) : (s.setTrib t p).trib u = if t = u then p else s.trib u :=
  setAt_get _ _ _ _
@[simp] theorem keyer_setKeyer_self (k : Idx8) (u : Keyer) : (s.setKeyer k u).keyer k = u := setAt_get_self _ _ _
theorem keyer_setKeyer (k l : Idx8) (u : Keyer) : (s.setKeyer k u).keyer l = if k = l then u else s.keyer l :=
  setAt_get _ _ _ _
@[simp] theorem line_setLine_self (n : Idx8) (l : Line) : (s.setLine n l).line n = l := setAt_get_self _ _ _
theorem line_setLine (m n : Idx8) (l : Line) : (s.setLine m l).line n = if m = n then l else s.line n :=
  setAt_get _ _ _ _
@[simp] theorem port_setPort_self (k : Trunk) (p : TrunkPort) : (s.setPort k p).port k = p := by cases k <;> rfl
@[simp] theorem port_setPort_other (k : Trunk) (p : TrunkPort) :
    (s.setPort k p).port (otherTrunk k) = s.port (otherTrunk k) := by cases k <;> rfl
@[simp] theorem deskew_setDeskew_self (k : Trunk) (d : Deskew) : (s.setDeskew k d).deskew k = d := by cases k <;> rfl
@[simp] theorem deskew_setDeskew_other (k : Trunk) (d : Deskew) :
    (s.setDeskew k d).deskew (otherTrunk k) = s.deskew (otherTrunk k) := by cases k <;> rfl

@[simp] theorem idAt_val (id : RecId) : idAt id.val = id := by simp [idAt]
@[simp] theorem unitAt_val (n : Idx8) : unitAt n.val = n := by simp [unitAt]

@[simp] theorem record_mapRecords (f : RecId → Record → Record) (id : RecId) :
    (s.mapRecords f).record id = f id (s.record id) := by simp [State.mapRecords, State.record]
@[simp] theorem record_updateRecords (f : RecId → Record → Record) (id : RecId) :
    (s.updateRecords f).record id = f id (s.record id) := by
  simp [State.updateRecords, State.record, State.post]
@[simp] theorem det_updateDets (f : Idx8 → Detector → Detector) (d : Idx8) :
    (s.updateDets f).det d = f d (s.det d) := by simp [State.updateDets, State.det, State.post]

end Sys2Proof.Machine
end

