-- ==== Sys2Proof/Laws/Maps.lean ====
section
/-! SUPPORT. The slot maps: what an entry reads after a write and after a vacating (R29, R34, R39). -/

namespace Sys2Proof.Machine

variable (m : SlotMap)

theorem entry_beyond {p : Port} {n : Nat} (h : p.size ≤ n) : m.entry p n = none := by
  cases p with
  | trib t => exact if_neg (Nat.not_lt.2 h)
  | trunk =>
    have h' : 248 ≤ n := h
    simp [SlotMap.entry, h']

@[simp] theorem entry_vacant (p : Port) (n : Nat) : SlotMap.vacant.entry p n = none := by
  cases p <;> simp [SlotMap.entry, SlotMap.vacant, Vector.getElem?_replicate] <;> split <;> simp

/-- A write makes the one entry, and no other. -/
theorem entry_write (p q : Port) {n : Nat} (k : Nat) (e : Entry) (h : n < p.size) :
    (m.write p n e).entry q k = if p = q ∧ n = k then some e else m.entry q k := by
  cases p with
  | trib t =>
    have h' : n < 32 := h
    cases q with
    | trib u =>
      by_cases hk : k < 32
      · have hi : (32 * t.val + n = 32 * u.val + k) ↔ (t = u ∧ n = k) := by
          rw [Fin.ext_iff]; omega
        have hb : 32 * t.val + n < 256 := by omega
        simp only [SlotMap.write, SlotMap.entry, Port.size, h', hk, if_true, Vector.getElem?_setIfInBounds, hi, Port.trib.injEq]
        split <;> simp [*]
      · have hn : n ≠ k := by omega
        simp [SlotMap.entry, Port.size, hk, hn]
    | trunk => simp [SlotMap.write, SlotMap.entry, Port.size, h']
  | trunk =>
    cases q with
    | trib u => simp [SlotMap.write, SlotMap.entry]
    | trunk =>
      have h' : n < 248 := h
      simp only [SlotMap.write, SlotMap.entry, Vector.getElem?_setIfInBounds, true_and]
      split <;> simp [*]

/-- A place read after a map over the places. -/
theorem mapVec_getElem? {α β : Type} {n : Nat} (f : Nat → α → β) (v : Vector α n) (i : Nat) :
    (mapVec f v)[i]? = (v[i]?).map (f i) := by
  have h := mapFrom_getElem? f 0 v.toList i
  rw [Nat.zero_add] at h
  have e : (mapVec f v).toList = mapFrom f 0 v.toList := rfl
  rw [← e] at h
  simpa using h

/-- Vacating takes the entries of the owners named, and no other. -/
theorem entry_vacate (gone : RecId → Bool) (p : Port) (n : Nat) :
    (m.vacate gone).entry p n = (m.entry p n).filter fun e => !gone e.owner := by
  have join_filter : ∀ x : Option (Option Entry),
      (x.map fun e => e.filter fun e => !gone e.owner).join = x.join.filter fun e => !gone e.owner := by
    intro x; cases x <;> rfl
  cases p with
  | trib t =>
    simp only [SlotMap.entry, SlotMap.vacate, mapVec_getElem?, join_filter]
    split <;> rfl
  | trunk => simp only [SlotMap.entry, SlotMap.vacate, mapVec_getElem?, join_filter]

end Sys2Proof.Machine
end

