-- ==== Sys2Proof/Laws/Ops.lean ====
section
/-! SUPPORT. What the shared operations do: posting, raising flags, the STU's reaction, the freeing of records, the work on
detectors. -/

namespace Sys2Proof.Machine

variable (s : State)

/-! ### Posting (R170) -/

theorem mem_postTo {q : List RecId} {id j : RecId} : j ∈ postTo q id ↔ j ∈ q ∨ j = id := by
  unfold postTo
  split
  · rename_i h
    exact ⟨.inl, fun h' => h'.elim (fun x => x) (fun e => e ▸ by simpa using h)⟩
  · simp

theorem postTo_nodup {q : List RecId} (id : RecId) (h : q.Nodup) : (postTo q id).Nodup := by
  unfold postTo
  split
  · exact h
  · rename_i hc
    exact List.nodup_append.2 ⟨h, by simp, by
      intro a ha b hb e
      simp only [List.mem_singleton] at hb
      subst hb e
      exact hc (by simpa using ha)⟩

theorem foldl_postTo_nodup (ids : List RecId) {q : List RecId} (h : q.Nodup) : (ids.foldl postTo q).Nodup := by
  induction ids generalizing q with
  | nil => exact h
  | cons a as ih => exact ih (postTo_nodup a h)

theorem mem_foldl_postTo (ids : List RecId) {q : List RecId} {j : RecId} :
    j ∈ ids.foldl postTo q ↔ j ∈ q ∨ j ∈ ids := by
  induction ids generalizing q with
  | nil => simp
  | cons a as ih => simp [ih, mem_postTo, or_assoc]

/-- A queue without a repeat holds at most 256 ids. -/
theorem queue_length_le {q : List RecId} (h : q.Nodup) : q.length ≤ 256 := by
  simpa using List.Nodup.length_le_card h

theorem post_nil : s.post [] = s := rfl

theorem post_queue (ids : List RecId) : (s.post ids).au.queue = ids.foldl postTo s.au.queue := rfl

theorem post_single (id : RecId) :
    (s.post [id]).au = { s.au with queue := if id ∈ s.au.queue then s.au.queue else s.au.queue ++ [id] } := by
  simp [State.post, postTo]

/-! ### Flags -/

theorem raise_flag {n : Nat} (i : Nat) (h : n < 13) :
    (s.raise n).au.flags.getLsbD i = (s.au.flags.getLsbD i || decide (i = n)) := by
  simp only [State.raise, BitVec.getLsbD_or, BitVec.getLsbD_ofNat, Nat.testBit_two_pow]
  by_cases hi : i = n
  · subst hi; simp [h]
  · simp [hi, Ne.symm hi]

theorem raise_au (n : Nat) : (s.raise n).au = { s.au with flags := (s.raise n).au.flags } := rfl

theorem raiseIf_flag {n : Nat} (c : Bool) (i : Nat) (h : n < 13) :
    (s.raiseIf c n).au.flags.getLsbD i = (s.au.flags.getLsbD i || (c && decide (i = n))) := by
  cases c
  · simp [State.raiseIf]
  · simp [State.raiseIf, raise_flag s i h]

theorem raiseIf_eq (c : Bool) (n : Nat) : s.raiseIf c n = { s with au := { s.au with flags := (s.raiseIf c n).au.flags } } := by
  cases c <;> rfl

/-! ### The station timing unit (R71 to R75) -/

/-- What a reaction of the STU can touch: its state, its source and its counts, and the TIMING flag. -/
structure StuOnly (s t : State) : Prop where
  eq : t = { s with stu := t.stu, au := { s.au with flags := t.au.flags } }
  flags : ∀ i, i ≠ 10 → t.au.flags.getLsbD i = s.au.flags.getLsbD i
  keeps : ∀ i, s.au.flags.getLsbD i = true → t.au.flags.getLsbD i = true
  list : t.stu.list = s.stu.list
  revertive : t.stu.revertive = s.stu.revertive
  wtrTime : t.stu.wtrTime = s.stu.wtrTime
  refActive : t.stu.refActive = s.stu.refActive
  refIdle : t.stu.refIdle = s.stu.refIdle
  count : t.stu.count = s.stu.count
  started : t.stu.started = s.stu.started
  begun : t.stu.begun = s.stu.begun
  flipClosed : t.stu.flipClosed = s.stu.flipClosed
  stuTaken : t.stu.stuTaken = s.stu.stuTaken
  retiredNow : t.stu.retiredNow = s.stu.retiredNow

theorem StuOnly.refl : StuOnly s s := by constructor <;> simp

variable {s} in
theorem StuOnly.trans {t u : State} (h : StuOnly s t) (k : StuOnly t u) : StuOnly s u where
  eq := by
    have e1 := h.eq
    have e2 := k.eq
    rw [e1] at e2
    exact e2
  flags i hi := (k.flags i hi).trans (h.flags i hi)
  keeps i hi := k.keeps i (h.keeps i hi)
  list := k.list.trans h.list
  revertive := k.revertive.trans h.revertive
  wtrTime := k.wtrTime.trans h.wtrTime
  refActive := k.refActive.trans h.refActive
  refIdle := k.refIdle.trans h.refIdle
  count := k.count.trans h.count
  started := k.started.trans h.started
  begun := k.begun.trans h.begun
  flipClosed := k.flipClosed.trans h.flipClosed
  stuTaken := k.stuTaken.trans h.stuTaken
  retiredNow := k.retiredNow.trans h.retiredNow

theorem stuMove_only (st : StuState) (src : Option Source) : StuOnly s (s.stuMove st src) where
  eq := rfl
  flags i hi := by
    unfold State.stuMove
    rw [raise_flag _ _ (by decide)]
    simp [timingFlag, hi]
  keeps i hi := by
    unfold State.stuMove
    rw [raise_flag _ _ (by decide)]
    simp [hi]
  list := rfl
  revertive := rfl
  wtrTime := rfl
  refActive := rfl
  refIdle := rfl
  count := rfl
  started := rfl
  begun := rfl
  flipClosed := rfl
  stuTaken := rfl
  retiredNow := rfl

/-- A change of the STU's own counts alone. -/
theorem stuCounts_only (acq hold wc : Nat) (tgt : Option Source) (mem : Bool) :
    StuOnly s { s with stu := { s.stu with acquisition := acq, holdover := hold, wtrTarget := tgt, wtrCount := wc, memory := mem } } := by
  constructor <;> simp

theorem stuAcquire_only (src : Source) : StuOnly s (s.stuAcquire src) :=
  (stuMove_only s _ _).trans (stuCounts_only _ _ _ _ _ _)

theorem stuHoldover_only : StuOnly s s.stuHoldover := (stuMove_only s _ _).trans (stuCounts_only _ _ _ _ _ _)

theorem stuLock_only : StuOnly s s.stuLock := (stuMove_only s _ _).trans (stuCounts_only _ _ _ _ _ _)

theorem stuExpire_only : StuOnly s s.stuExpire := (stuMove_only s _ _).trans (stuCounts_only _ _ _ _ _ _)

theorem stuReact_only : StuOnly s s.stuReact := by
  unfold State.stuReact
  split
  · split
    · exact stuAcquire_only _ _
    · exact .refl s
  · split
    · exact stuAcquire_only _ _
    · exact .refl s
  · split
    · exact .refl s
    · split
      · exact stuAcquire_only _ _
      · split
        · exact stuHoldover_only _
        · exact stuMove_only _ _ _
  · split
    · dsimp only
      split
      · exact .refl s
      · exact stuCounts_only _ _ _ _ _ _
    · split
      · exact stuAcquire_only _ _
      · exact stuHoldover_only _

theorem stuCount_only : StuOnly s s.stuCount := by
  unfold State.stuCount
  dsimp only
  split
  · exact .refl s
  · split
    · exact stuLock_only _
    · exact stuCounts_only _ _ _ _ _ _
  · split
    · exact stuExpire_only _
    · exact stuCounts_only _ _ _ _ _ _
  · split
    · exact .refl s
    · split
      · exact stuAcquire_only _ _
      · exact stuCounts_only _ _ _ _ _ _

/-! ### Detectors -/

theorem unknownFrame_binding (d : Detector) : d.unknownFrame.binding = d.binding := by
  unfold Detector.unknownFrame; split <;> rfl

theorem inGuard_binding (d : Detector) (c : FrameClass) : (d.inGuard c).binding = d.binding := by
  cases c
  · rfl
  · simp only [Detector.inGuard]; split <;> rfl
  · exact unknownFrame_binding d

theorem inPending_binding (d : Detector) (c : FrameClass) : (d.inPending c).binding = d.binding := by
  cases c
  · rfl
  · simp only [Detector.inPending]; split <;> rfl
  · exact unknownFrame_binding _

theorem inCommand_binding (d : Detector) (c : FrameClass) : (d.inCommand c).binding = d.binding := by
  cases c
  · simp only [Detector.inCommand]; split <;> (try split) <;> rfl
  · rfl
  · exact unknownFrame_binding _

theorem inTrail_binding (d : Detector) (c : FrameClass) : (d.inTrail c).binding = d.binding := by
  unfold Detector.inTrail
  dsimp only
  split
  · exact inGuard_binding _ _
  · cases c
    · rfl
    · rfl
    · exact unknownFrame_binding _

theorem inBlocked_binding (d : Detector) (c : FrameClass) : (d.inBlocked c).binding = d.binding := by
  cases c
  · simp only [Detector.inBlocked]; split <;> rfl
  · rfl
  · rfl

/-- No frame event leaves a bound detector without its binding, nor binds one. -/
theorem frame_binding (d : Detector) (blocked : Bool) (b : Byte) : (d.frame blocked b).binding = d.binding := by
  unfold Detector.frame
  dsimp only
  split
  · rfl
  · dsimp only
    split
    · split
      · rfl
      · rfl
    · split
      · rfl
      · exact inBlocked_binding _ _
      · exact inGuard_binding _ _
      · exact inPending_binding _ _
      · exact inCommand_binding _ _
      · exact inTrail_binding _ _

theorem block_binding (d : Detector) : d.block.binding = d.binding := rfl
theorem restart_binding (d : Detector) : d.restart.binding = d.binding := by unfold Detector.restart; split <;> rfl
theorem restart_state (d : Detector) : d.restart.state = d.state := by unfold Detector.restart; split <;> simp [*]

@[simp] theorem det_restartDets (p : Port) (n : Idx8) :
    (s.restartDets p).det n = match (s.det n).binding with
      | some (id, dir) =>
        if s.slipHits p id && decide ((s.record id).portOf (otherSide dir) = some p) then (s.det n).restart else s.det n
      | none => s.det n := by
  unfold State.restartDets State.det
  exact mapVec_get ..

/-! ### Freeing (R44) -/

@[simp] theorem record_freeRecords (gone : RecId → Bool) (id : RecId) :
    (s.freeRecords gone).record id = if gone id then .freeRecord else s.record id := by
  have h : (s.freeRecords gone).record id = (s.updateRecords fun id r => if gone id then .freeRecord else r).record id := rfl
  rw [h, record_updateRecords]

@[simp] theorem det_freeRecords (gone : RecId → Bool) (d : Idx8) :
    (s.freeRecords gone).det d =
      if ((s.det d).binding.map fun x => gone x.1).getD false then (s.det d).freed else s.det d := by
  simp only [State.freeRecords, State.det, mapVec_get]
  rfl

@[simp] theorem keyer_freeRecords (gone : RecId → Bool) (k : Idx8) :
    (s.freeRecords gone).keyer k =
      if ((s.keyer k).binding.map fun x => gone x.1).getD false then (s.keyer k).freed else s.keyer k := by
  simp only [State.freeRecords, State.keyer, mapVec_get]
  rfl

/-! ### Contact lines (R157, R159) -/

@[simp] theorem line_wireLevel (m n : Idx8) (w : Wiring) :
    (s.wireLevel m w).line n =
      if m = n then { s.line m with wire := w.level, overpowers := w.overpowers } else s.line n := line_setLine ..

@[simp] theorem keyer_gainLine (k l : Idx8) :
    (s.gainLine k).keyer l = if k = l then { s.keyer k with gained := true } else s.keyer l := keyer_setKeyer ..

theorem keyer_gainLine_run (k : Idx8) : ((s.gainLine k).keyer k).run = 0 := by simp [Keyer.run]

/-! ### The station frame (R68) -/

/-- A station frame outside reset: what goes ahead of it, its traffic, and the judgements made at it. -/
theorem exec_stationFrame (inp : FrameIn) (h : s.inReset = false) :
    exec (.stationFrame inp) s = .next (((s.opening inp).traffic inp).judge inp) := by
  simp [exec, execStationFrame, h]

/-- With no repeat slip taken ahead of it, a station frame opens with the work left over and its own start. -/
theorem opening_of_not_slipsFirst (inp : FrameIn) (h : inp.slipsFirst = false) : s.opening inp = s.flush.newFrame := by
  simp [State.opening, h]

/-! ### Records (R116) -/

theorem judged_health (r : Record) : r.judged.health = r.judged.healthOf := rfl

/-- A record refreshed from one that was judged is judged: health follows the source states and copy statuses. -/
theorem refresh_health (old new : Record) (h : old.ends = new.ends) (hh : new.health = old.health)
    (j : old.health = old.healthOf) : (old.refresh new).health = (old.refresh new).healthOf := by
  unfold Record.refresh
  split
  · rename_i e
    rw [hh, j]
    simp [Record.healthOf, Record.trunkSide, e.1, e.2, h]
  · rfl

end Sys2Proof.Machine
end

