-- ==== Sys2Proof/Laws/Timing.lean ====
section
/-! SUPPORT. The station timing unit: what its reaction and its count make of it (R70 to R75). -/

namespace Sys2Proof.Machine

variable (s : State)

/-! ### Qualifications -/

/-- The first qualified source of a list is the one `find?` gives. -/
theorem find_eq_some_iff_firstOf (l : List Source) (q : Source → Bool) (src : Source) :
    l.find? q = some src ↔ FirstOf l q src := by
  rw [List.find?_eq_some_iff_append]
  constructor
  · rintro ⟨hq, as, bs, h, ha⟩
    exact ⟨as, bs, h, hq, fun x hx => by simpa using ha x hx⟩
  · rintro ⟨as, bs, h, hq, ha⟩
    exact ⟨hq, as, bs, h, fun x hx => by simp [ha x hx]⟩

theorem find_eq_none_iff (l : List Source) (q : Source → Bool) : l.find? q = none ↔ ∀ x ∈ l, q x = false := by
  simp [List.find?_eq_none]

/-- No list has a first qualified source when none of it is qualified. -/
theorem not_firstOf {l : List Source} {q : Source → Bool} (h : ∀ x ∈ l, q x = false) (src : Source) : ¬ FirstOf l q src := by
  rw [← find_eq_some_iff_firstOf, (find_eq_none_iff l q).2 h]
  simp

theorem firstOf_unique {l : List Source} {q : Source → Bool} {a b : Source} (ha : FirstOf l q a) (hb : FirstOf l q b) :
    a = b := by
  rw [← find_eq_some_iff_firstOf] at ha hb
  simpa [ha] using hb

theorem selectedStands_iff : s.selectedStands = true ↔ s.stu.Stands s.qualified := by
  unfold State.selectedStands Stu.Stands
  split <;> simp_all

theorem stuReact_qualified : s.stuReact.qualified = s.qualified := by
  funext src
  have h := stuReact_only s
  have e := h.eq
  cases src with
  | ref => exact h.refActive
  | trib t => simp only [State.qualified, State.trib]; rw [e]
  | trunk k => simp only [State.qualified, State.port]; rw [e]; rfl

/-! ### The flag of a move -/

theorem stuMove_flag (st : StuState) (src : Option Source) : (s.stuMove st src).au.flags.getLsbD 10 = true := by
  unfold State.stuMove
  rw [raise_flag _ _ (by decide)]
  simp [timingFlag]

theorem stuAcquire_stu (src : Source) : (s.stuAcquire src).stu = s.stu.acquiring src := rfl
theorem stuAcquire_flag (src : Source) : (s.stuAcquire src).au.flags.getLsbD 10 = true := stuMove_flag ..
theorem stuHoldover_flag : s.stuHoldover.au.flags.getLsbD 10 = true := stuMove_flag ..
theorem stuLock_flag : s.stuLock.au.flags.getLsbD 10 = true := stuMove_flag ..
theorem stuExpire_flag : s.stuExpire.au.flags.getLsbD 10 = true := stuMove_flag ..

/-! ### The reaction and the count -/

theorem nextSource_some {src : Source} (h : s.nextSource = some src) : FirstOf s.stu.list s.qualified src :=
  (find_eq_some_iff_firstOf ..).1 h

theorem nextSource_none (h : s.nextSource = none) : ∀ x ∈ s.stu.list, s.qualified x = false := (find_eq_none_iff ..).1 h

/-- What acquiring the next source, or an outcome `P` without one, says of the two clauses on the next source. -/
theorem next_cases {P : Prop} {v : Stu} {raised : Bool}
    (hs : ∀ src, s.nextSource = some src → v = s.stu.acquiring src ∧ raised = true) (hn : s.nextSource = none → P) :
    (∀ src, FirstOf s.stu.list s.qualified src → v = s.stu.acquiring src ∧ raised = true) ∧
      ((∀ src ∈ s.stu.list, s.qualified src = false) → P) :=
  ⟨fun src h => hs src ((find_eq_some_iff_firstOf ..).2 h), fun h => hn ((find_eq_none_iff ..).2 h)⟩

/-- The STU's reaction to the qualifications as they stand (R71 to R75). -/
theorem stuReact_met : StuMet s s.stuReact := by
  unfold StuMet
  rw [stuReact_qualified]
  have hst := selectedStands_iff s
  unfold State.stuReact
  cases hs : s.stu.state with
  | freeRun =>
    cases hn : s.nextSource with
    | none =>
      refine ⟨false, ?_, by simp⟩
      refine ⟨fun _ => next_cases s (by simp [hn]) (fun _ => ⟨rfl, rfl⟩), ?_, ?_, ?_⟩ <;> simp [hs]
    | some src =>
      refine ⟨true, ?_, by simp [stuAcquire_flag]⟩
      refine ⟨fun _ => next_cases s (fun x hx => ?_) (by simp [hn]), ?_, ?_, ?_⟩
      · rw [hn] at hx; cases hx; exact ⟨rfl, rfl⟩
      all_goals simp [hs]
  | holdover =>
    cases hn : s.nextSource with
    | none =>
      refine ⟨false, ?_, by simp⟩
      refine ⟨fun _ => next_cases s (by simp [hn]) (fun _ => ⟨rfl, rfl⟩), ?_, ?_, ?_⟩ <;> simp [hs]
    | some src =>
      refine ⟨true, ?_, by simp [stuAcquire_flag]⟩
      refine ⟨fun _ => next_cases s (fun x hx => ?_) (by simp [hn]), ?_, ?_, ?_⟩
      · rw [hn] at hx; cases hx; exact ⟨rfl, rfl⟩
      all_goals simp [hs]
  | acquiring =>
    by_cases hk : s.selectedStands = true
    · refine ⟨false, ?_, by simp [hk]⟩
      have h := hst.1 hk
      refine ⟨by simp [hs], fun _ _ => by simp [hk], fun _ hx => absurd h hx, by simp [hs]⟩
    · have h : ¬ s.stu.Stands s.qualified := fun hx => hk (hst.2 hx)
      simp only [hk]
      cases hn : s.nextSource with
      | some src =>
        refine ⟨true, ?_, by simp [stuAcquire_flag]⟩
        refine ⟨by simp [hs], fun _ hx => absurd hx h, fun _ _ => next_cases s (fun x hx => ?_) (by simp [hn]), by simp [hs]⟩
        rw [hn] at hx; cases hx; exact ⟨rfl, rfl⟩
      | none =>
        cases hm : s.stu.memory with
        | true =>
          refine ⟨true, ?_, by simp [stuHoldover_flag]⟩
          refine ⟨by simp [hs], fun _ hx => absurd hx h, fun _ _ => next_cases s (by simp [hn]) (fun _ => ?_), by simp [hs]⟩
          exact ⟨rfl, fun _ => rfl, by simp [hm]⟩
        | false =>
          refine ⟨true, ?_, by simp [stuMove_flag]⟩
          refine ⟨by simp [hs], fun _ hx => absurd hx h, fun _ _ => next_cases s (by simp [hn]) (fun _ => ?_), by simp [hs]⟩
          exact ⟨rfl, by simp [hs, hm], fun _ _ => rfl⟩
  | locked =>
    by_cases hk : s.selectedStands = true
    · have h := hst.1 hk
      have ht : ∀ y, s.wtrTargetNow = some y ↔ s.stu.revertive = true ∧
          FirstOf (s.stu.list.takeWhile fun x => decide (some x ≠ s.stu.selected)) s.qualified y := by
        intro y
        unfold State.wtrTargetNow
        rw [← find_eq_some_iff_firstOf]
        split <;> simp [*]
      refine ⟨false, ?_, ?_⟩
      · refine ⟨by simp [hs], fun hx => by simp [hs] at hx, fun _ hx => absurd h hx, fun _ _ => ⟨rfl, s.wtrTargetNow, ht, ?_⟩⟩
        simp only [hk, if_true]
        split <;> rfl
      · simp only [hk, if_true]
        split <;> simp
    · have h : ¬ s.stu.Stands s.qualified := fun hx => hk (hst.2 hx)
      simp only [hk]
      cases hn : s.nextSource with
      | some src =>
        refine ⟨true, ?_, by simp [stuAcquire_flag]⟩
        refine ⟨by simp [hs], fun _ hx => absurd hx h, fun _ _ => next_cases s (fun x hx => ?_) (by simp [hn]), fun _ hx => absurd hx h⟩
        rw [hn] at hx; cases hx; exact ⟨rfl, rfl⟩
      | none =>
        refine ⟨true, ?_, by simp [stuHoldover_flag]⟩
        refine ⟨by simp [hs], fun _ hx => absurd hx h, fun _ _ => next_cases s (by simp [hn]) (fun _ => ?_), fun _ hx => absurd hx h⟩
        exact ⟨rfl, fun _ => rfl, by simp [hs]⟩

/-- The STU's count at a station multiframe start (R71, R72, R74). -/
theorem stuCount_counted : ∃ raised, StuCounted s.stu s.stuCount.stu raised ∧
    s.stuCount.au.flags.getLsbD 10 = (s.au.flags.getLsbD 10 || raised) := by
  cases hs : s.stu.state with
  | freeRun =>
    have e : s.stuCount = s := by unfold State.stuCount; dsimp only; rw [hs]
    refine ⟨false, ?_, by simp [e]⟩
    refine ⟨fun _ => ⟨by rw [e], rfl⟩, ?_, ?_, ?_, ?_, ?_, ?_⟩ <;> simp [hs]
  | acquiring =>
    by_cases h : 1 ≤ s.stu.acquisition
    · have hc : s.stu.completes = true := by simp [Stu.completes, hs, Config.acquisitionStarts]; omega
      have e : s.stuCount = s.stuLock := by unfold State.stuCount; dsimp only; rw [hs]; exact if_pos hc
      refine ⟨true, ?_, by simp [e, stuLock_flag]⟩
      refine ⟨by simp [hs], fun _ h0 => by omega, fun _ _ => ⟨rfl, by rw [e]; rfl⟩, ?_, ?_, ?_, ?_⟩ <;> simp [hs]
    · have hc : ¬ s.stu.completes = true := by simp [Stu.completes, hs, Config.acquisitionStarts]; omega
      have e : s.stuCount = { s with stu := { s.stu with acquisition := s.stu.acquisition + 1 } } := by
        unfold State.stuCount; dsimp only; rw [hs]; exact (if_neg hc).trans (by rw [← hs])
      refine ⟨false, ?_, by simp [e]⟩
      refine ⟨by simp [hs], fun _ h0 => ⟨by rw [e, h0], rfl⟩, fun _ h1 => absurd h1 h, ?_, ?_, ?_, ?_⟩ <;> simp [hs]
  | holdover =>
    by_cases h : s.stu.holdover ≤ 1
    · have hc : s.stu.expires = true := by simp [Stu.expires, hs, h]
      have e : s.stuCount = s.stuExpire := by unfold State.stuCount; dsimp only; rw [hs]; exact if_pos hc
      refine ⟨true, ?_, by simp [e, stuExpire_flag]⟩
      refine ⟨by simp [hs], by simp [hs], by simp [hs], fun _ h2 => by omega, fun _ _ => ⟨rfl, by rw [e]; rfl⟩, ?_, ?_⟩ <;>
        simp [hs]
    · have hc : ¬ s.stu.expires = true := by simp [Stu.expires, h]
      have e : s.stuCount = { s with stu := { s.stu with holdover := s.stu.holdover - 1 } } := by
        unfold State.stuCount; dsimp only; rw [hs]; exact (if_neg hc).trans (by rw [← hs])
      refine ⟨false, ?_, by simp [e]⟩
      refine ⟨by simp [hs], by simp [hs], by simp [hs], fun _ _ => ⟨by rw [e], rfl⟩, fun _ h1 => absurd h1 h, ?_, ?_⟩ <;>
        simp [hs]
  | locked =>
    cases hw : s.stu.wtrTarget with
    | none =>
      have e : s.stuCount = s := by unfold State.stuCount; dsimp only; rw [hs, hw]
      refine ⟨false, ?_, by simp [e]⟩
      refine ⟨by simp [hs], by simp [hs], by simp [hs], by simp [hs], by simp [hs], fun _ _ => ⟨by rw [e], rfl⟩, ?_⟩
      simp [hw]
    | some src =>
      by_cases h : s.stu.wtrTime ≤ s.stu.wtrCount + 1
      · have hc : s.stu.restores = true := by simp [Stu.restores, hs, hw, h]
        have e : s.stuCount = s.stuAcquire src := by unfold State.stuCount; dsimp only; rw [hs, hw]; exact if_pos hc
        refine ⟨true, ?_, by simp [e, stuAcquire_flag]⟩
        refine ⟨by simp [hs], by simp [hs], by simp [hs], by simp [hs], by simp [hs], by simp [hw], fun _ x hx => ?_⟩
        rw [hw] at hx; cases hx
        exact ⟨fun h1 => by omega, fun _ => ⟨by rw [e]; rfl, rfl⟩⟩
      · have hc : ¬ s.stu.restores = true := by simp [Stu.restores, h]
        have e : s.stuCount = { s with stu := { s.stu with wtrCount := s.stu.wtrCount + 1 } } := by
          unfold State.stuCount; dsimp only; rw [hs, hw]; exact (if_neg hc).trans (by rw [← hs, ← hw])
        refine ⟨false, ?_, by simp [e]⟩
        refine ⟨by simp [hs], by simp [hs], by simp [hs], by simp [hs], by simp [hs], by simp [hw], fun _ x hx => ?_⟩
        exact ⟨fun _ => ⟨by rw [e], rfl⟩, fun h1 => absurd h1 h⟩

end Sys2Proof.Machine
end

