-- ==== Sys2Proof/Laws/Ports.lean ====
section
/-! SUPPORT. What an event of a tributary port and an event of a trunk can do. -/

namespace Sys2Proof.Machine

variable (s : State)

/-! ### Tributary ports -/

theorem stuReact_trib (n : Idx8) : s.stuReact.trib n = s.trib n := by
  have e := (stuReact_only s).eq
  unfold State.trib
  rw [e]

theorem stuReact_record (id : RecId) : s.stuReact.record id = s.record id := by
  have e := (stuReact_only s).eq
  unfold State.record
  rw [e]

theorem stuReact_port (k : Trunk) : s.stuReact.port k = s.port k := by
  have e := (stuReact_only s).eq
  unfold State.port
  rw [e]

theorem stuReact_deskew (k : Trunk) : s.stuReact.deskew k = s.deskew k := by
  have e := (stuReact_only s).eq
  unfold State.deskew
  rw [e]

theorem raiseIf_trib (c : Bool) (m : Nat) (n : Idx8) : (s.raiseIf c m).trib n = s.trib n := by cases c <;> rfl

@[simp] theorem changeTrib_trib (n : Idx8) (p : Trib) : (s.changeTrib n p).trib n = p := by
  simp [State.changeTrib, stuReact_trib, raiseIf_trib]

theorem changeTrib_trib_ne {m n : Idx8} (p : Trib) (h : m ≠ n) : (s.changeTrib n p).trib m = s.trib m := by
  simp only [State.changeTrib, stuReact_trib, raiseIf_trib]
  exact (trib_setTrib s n m p).trans (if_neg (Ne.symm h))

/-- A port's event touches the ports, the STU and the flags alone. -/
theorem changeTrib_eq (n : Idx8) (p : Trib) :
    s.changeTrib n p = { s with
      tribs := (s.changeTrib n p).tribs, stu := (s.changeTrib n p).stu
      au := { s.au with flags := (s.changeTrib n p).au.flags } } := by
  have e := (stuReact_only ((s.setTrib n p).raiseIf (!(s.trib n).sameShown p) n.val)).eq
  unfold State.changeTrib
  generalize State.stuReact _ = u at *
  rw [e]
  cases (s.trib n).sameShown p <;> rfl

theorem changeTrib_aside (n : Idx8) (p : Trib) : Aside s (s.changeTrib n p) := by
  have e := changeTrib_eq s n p
  refine ⟨?_, ?_, ?_⟩ <;> rw [e]

/-- The STU meets a port's event after the port has changed. -/
theorem changeTrib_met (n : Idx8) (p : Trib) : StuMet s (s.changeTrib n p) := by
  obtain ⟨raised, h, hf⟩ := stuReact_met ((s.setTrib n p).raiseIf (!(s.trib n).sameShown p) n.val)
  have e : ((s.setTrib n p).raiseIf (!(s.trib n).sameShown p) n.val).stu = s.stu := by
    cases (s.trib n).sameShown p <;> rfl
  have hn : 10 ≠ n.val := by omega
  rw [e] at h
  refine ⟨raised, h, hf.trans ?_⟩
  rw [raiseIf_flag _ _ _ (Nat.lt_trans n.isLt (by decide))]
  simp [hn]

theorem changeTrib_event (n : Idx8) (p : Trib) : TribEvent s (s.changeTrib n p) n := by
  have e := changeTrib_eq s n p
  have o := stuReact_only ((s.setTrib n p).raiseIf (!(s.trib n).sameShown p) n.val)
  have hn : n.val < 13 := Nat.lt_trans n.isLt (by decide)
  have hf : ∀ i, i ≠ 10 → (s.changeTrib n p).au.flags.getLsbD i =
      (s.au.flags.getLsbD i || (!(s.trib n).sameShown p && decide (i = n.val))) := fun i hi =>
    (o.flags i hi).trans (raiseIf_flag _ _ i hn)
  refine ⟨fun m hm => changeTrib_trib_ne s p hm, ?_, ?_, ?_, ?_, ?_, ?_, ?_, changeTrib_met s n p, ?_, ?_, ?_, ?_, ?_⟩
  · rw [e]
  · rw [e]
  · rw [e]
  · rw [e]
  · rw [e]
  · intro i hi h10
    simp [hf i h10, hi]
  · rw [hf n.val (by omega)]
    simp
  · have := o.list; revert this; unfold State.changeTrib; cases (s.trib n).sameShown p <;> exact fun h => h
  · have := o.refActive; revert this; unfold State.changeTrib; cases (s.trib n).sameShown p <;> exact fun h => h
  · have := o.count; revert this; unfold State.changeTrib; cases (s.trib n).sameShown p <;> exact fun h => h
  · rw [e]
  · rw [e]

/-! ### Trunks -/

/-- The STU meets an event of a trunk after the trunk has changed. -/
theorem trunkSettle_met (old : State) : StuMet s (s.trunkSettle old) := by
  obtain ⟨raised, h, hf⟩ := stuReact_met (s.trunkFlags old).syncCopies
  have es : (s.trunkFlags old).syncCopies.stu = s.stu := by
    unfold State.syncCopies State.trunkFlags
    cases s.sameTrunk old .a <;> cases s.sameTrunk old .b <;> rfl
  have ef : (s.trunkFlags old).syncCopies.au.flags = (s.trunkFlags old).au.flags := rfl
  rw [es] at h
  refine ⟨raised, h, hf.trans ?_⟩
  rw [ef, State.trunkFlags, raiseIf_flag _ _ _ (by decide), raiseIf_flag _ _ _ (by decide)]
  simp [trunkFlag]

end Sys2Proof.Machine
end

