-- ==== Sys2Proof/Laws/Transactions.lean ====
section
/-! SUPPORT. Everything a transaction can do: it is released unexecuted, refused by a common check, or run. -/

namespace Sys2Proof.Machine

variable {s : State} {ps : List Byte} {exempt responds : Bool} {f : State → Code × State}

/-- The commands' own work and the outcome, as the rise writes them. -/
def ran (ps : List Byte) (f : State → Code × State) (s : State) : State :=
  (f s).2.rise (List.replicate (ps.length + 1) s.latched) (f s).1

/-- A refusal: LAST is written and the transaction ends. -/
def refused (ps : List Byte) (c : Code) (s : State) : State := s.rise (List.replicate (ps.length + 1) s.latched) c

theorem executes_iff_runs : s.executes = true ↔ Runs s := by simp [State.executes, Runs]

theorem executes_of_runs (h : Runs s) : s.executes = true := executes_iff_runs.2 h

theorem transact_released (h : s.executes = false) (own : Option (State → Code × State)) :
    transact ps exempt responds own s = s.release := by simp [transact, h]

theorem transact_length (h : Runs s) : transact ps exempt responds none s = refused ps .length s := by
  simp [transact, executes_of_runs h, State.examine, refused]

theorem transact_busy (h : Runs s) (hb : s.ct.commitPending = true) :
    transact ps false responds (some f) s = refused ps .busy s := by
  simp [transact, executes_of_runs h, State.examine, refused, hb]

theorem transact_unread (h : Runs s) (hb : exempt = true ∨ s.ct.commitPending = false) (hr : s.cp.response.isSome = true) :
    transact ps exempt true (some f) s = refused ps .unread s := by
  rcases hb with hb | hb <;> simp [transact, executes_of_runs h, State.examine, refused, hb, hr]

theorem transact_run (h : Runs s) (hb : exempt = true ∨ s.ct.commitPending = false)
    (hr : responds = false ∨ s.cp.response = none) : transact ps exempt responds (some f) s = ran ps f s := by
  rcases hb with hb | hb <;> rcases hr with hr | hr <;>
    simp [transact, executes_of_runs h, State.examine, ran, hb, hr]

/-- A command that is not BUSY-exempt and leaves no response, in a state that is Clear. -/
theorem transact_clear (h : Clear s) : transact ps false false (some f) s = ran ps f s :=
  transact_run h.1 (.inr h.2) (.inl rfl)

/-- A BUSY-exempt command that answers, in a state that is Free. -/
theorem transact_free (h : Free s) : transact ps true true (some f) s = ran ps f s :=
  transact_run h.1 (.inl rfl) (.inr h.2)

/-- A BUSY-exempt command that leaves no response. -/
theorem transact_exempt (h : Runs s) : transact ps true false (some f) s = ran ps f s :=
  transact_run h (.inl rfl) (.inl rfl)

/-- The same for each fixed number of parameters. -/
theorem transact_clear1 (h : Clear s) (a : Byte) (g : Byte → State → Code × State) :
    transact [a] false false (oneParam [a] g) s = ran [a] (g a) s := transact_clear h

theorem transact_clear2 (h : Clear s) (a b : Byte) (g : Byte → Byte → State → Code × State) :
    transact [a, b] false false (twoParams [a, b] g) s = ran [a, b] (g a b) s := transact_clear h

theorem transact_clear3 (h : Clear s) (a b c : Byte) (g : Byte → Byte → Byte → State → Code × State) :
    transact [a, b, c] false false (threeParams [a, b, c] g) s = ran [a, b, c] (g a b c) s := transact_clear h

theorem transact_clear4 (h : Clear s) (a b c d : Byte) (g : Byte → Byte → Byte → Byte → State → Code × State) :
    transact [a, b, c, d] false false (fourParams [a, b, c, d] g) s = ran [a, b, c, d] (g a b c d) s := transact_clear h

theorem transact_free0 (h : Free s) (g : State → Code × State) :
    transact [] true true (noParam [] g) s = ran [] g s := transact_free h

theorem transact_free1 (h : Free s) (a : Byte) (g : Byte → State → Code × State) :
    transact [a] true true (oneParam [a] g) s = ran [a] (g a) s := transact_free h

/-- The three ways a transaction can end: unexecuted, refused with nothing but LAST changed, or run. -/
theorem transact_cases (ps : List Byte) (exempt responds : Bool) (own : Option (State → Code × State)) (s : State) :
    transact ps exempt responds own s = s.release ∨ (∃ c, transact ps exempt responds own s = refused ps c s) ∨
      ∃ f, own = some f ∧ transact ps exempt responds own s = ran ps f s := by
  by_cases hx : s.executes = true
  · have hr := executes_iff_runs.1 hx
    cases own with
    | none => exact .inr (.inl ⟨_, transact_length hr⟩)
    | some f =>
      by_cases hb : exempt = true ∨ s.ct.commitPending = false
      · by_cases ha : responds = false ∨ s.cp.response = none
        · exact .inr (.inr ⟨f, rfl, transact_run hr hb ha⟩)
        · simp only [not_or, Bool.not_eq_false, ← Option.isSome_iff_ne_none] at ha
          obtain ⟨rfl, ha⟩ := ha
          exact .inr (.inl ⟨_, transact_unread hr hb ha⟩)
      · simp only [not_or, Bool.not_eq_true, Bool.not_eq_false] at hb
        obtain ⟨rfl, hb⟩ := hb
        exact .inr (.inl ⟨_, transact_busy hr hb⟩)
  · exact .inl (transact_released (by simpa using hx) own)

@[simp] theorem refused_cp (c : Code) : (refused ps c s).cp = ⟨c, s.cp.response, .idle, List.replicate (ps.length + 1) s.latched⟩ :=
  rfl

theorem refused_eq (c : Code) : refused ps c s = { s with cp := (refused ps c s).cp } := rfl

theorem ended_refused (c : Code) : Ended s (refused ps c s) ps.length c s.cp.response := rfl

theorem ended_ran : Ended s (ran ps f s) ps.length (f s).1 (f s).2.cp.response := rfl

theorem ran_eq : ran ps f s = { (f s).2 with cp := (ran ps f s).cp } := rfl

/-- A run that is refused with its own code is a refusal. -/
theorem ran_refused {c : Code} (h : f s = (c, s)) : ran ps f s = refused ps c s := by simp [ran, refused, h]

/-- A run with its result. -/
theorem ran_of {c : Code} {t : State} (h : f s = (c, t)) :
    ran ps f s = t.rise (List.replicate (ps.length + 1) s.latched) c := by simp [ran, h]

end Sys2Proof.Machine
end

