-- ==== Sys2Proof/Tests/Slice0.lean ====
section
/-! SUPPORT. Tests: the checks of WellFormed on ill-formed terms, the reading of transactions, single steps after the worked
examples of the spec, and for every statement states and operands that meet its hypotheses, clause by clause. -/

-- One kernel evaluation at a time keeps the compile within its memory.
set_option Elab.async false

namespace Sys2Proof.Tests

open Sys2Proof Sys2Proof.Machine

/-! ### WellFormed -/

theorem test_wf_unknown_code : (Instr.unknownCommand 0x07 []).wf = true ∧ (Instr.unknownCommand 0x63 []).wf = false := by decide
theorem test_wf_confirm_overhead : (Instr.trunkAlignmentConfirmed .a [] [1, 2, 3, 4, 5]).wf = false ∧
    (Instr.trunkAlignmentConfirmed .a [] [1, 2, 3, 4, 5, 6]).wf = true := by decide
theorem test_wf_judged_header : (Instr.trunkFrameJudged .b [0x6C, 0]).wf = false := by decide
theorem test_wf_handed_payload : (Instr.trunkFrameHandedOn .a (List.replicate 247 0) true).wf = false ∧
    (Instr.trunkFrameHandedOn .a (List.replicate 248 0) true).wf = true := by decide +kernel
theorem test_wf_anchor_payload : (Instr.anchorFrameArrival .b [] false).wf = false := by decide

/-! ### Transactions as bytes -/

theorem test_decode_first_last : decodeTransaction [0x00] = .nop [] ∧ decodeTransaction [0x63, 0x17] = .alarmMask [0x17] := by decide
theorem test_decode_none_and_unknown : decodeTransaction [] = .emptyTransaction ∧
    decodeTransaction [0xF0, 1] = .unknownCommand 0xF0 [1] := by decide
theorem test_codes_are_the_table : commandCodes.length = 43 ∧ commandCodes.all (fun c =>
    match decodeTransaction [c] with
    | .unknownCommand _ _ => false
    | _ => true) = true := by decide

/-! ### Small states -/

/-- The state that a command leads to. -/
def after (s : State) (c : Instr) : State :=
  match exec c s with
  | .next t => t
  | _ => s

def base : State := .reset
def pend : State := { base with ct := { base.ct with commitPending := true } }
def full : State := { base with cp := { base.cp with response := some [2, 0] } }
def rec5 (r : Record) : State := base.setRecord 5 r
def trib3 (p : Trib) : State := base.setTrib 3 p
def rx3 (rx : TribRx) : State := trib3 { Trib.reset with rx := rx }
def portA (p : TrunkPort) : State := base.setPort .a p
def det2 (d : Detector) : State := { base with dets := setAt base.dets 2 d }
def key2 (k : Keyer) : State := base.setKeyer 2 k

def draft : Record := { Record.freeRecord with state := .draft, cls := .protection }
def endX : End := ⟨.trib 1, [5]⟩
def endY : End := ⟨.trunk, [40]⟩
def ready : Record := { draft with ends := ⟨some endX, some endY⟩ }
def live : Record := { ready with state := .active }
def hung : Record := { live with state := .suspended }
def leaving : Record := { live with state := .retiring, holdRemaining := 1 }
def tx : TribConfig := ⟨true, false, false, true, false, 0xFF, 9⟩
def looped : TribConfig := ⟨true, true, true, true, false, 0xFF, 9⟩

theorem base_record (j : RecId) : base.record j = .freeRecord := by
  simp [base, State.record, State.reset, CircuitTable.reset, Vector.get]

theorem rec5_record (r : Record) (j : RecId) : (rec5 r).record j = if 5 = j then r else .freeRecord := by
  rw [rec5, record_setRecord, base_record]

/-- A state with record 5 and a map that its ends own. -/
def mapped (r : Record) : State :=
  let s := rec5 r
  { s with ct := { s.ct with activeMap := (s.ct.activeMap.write (.trib 1) 5 ⟨5, .x, 0⟩).write .trunk 40 ⟨5, .y, 0⟩ } }

/-- Trunk A ALIGNED and IN_WINDOW, as after an anchoring. -/
def alignedA : State :=
  let s := portA { TrunkPort.reset with enable := true, align := .aligned, expected := 7 }
  s.setDeskew .a ⟨[⟨6, 0, .ok, [], []⟩], .inWindow, 2, 0, .none⟩

/-- A bound detector in the state given, with a byte handed over. -/
def watching (st : DetState) (b : Byte) : Detector :=
  { Detector.reset with
    binding := some (5, .y), state := st, persist := 3, release := 3, prolong := 1, unknown := 15, handed := some b }
def watched (st : DetState) (b : Byte) : State := { det2 (watching st b) with ct := (rec5 live).ct }

/-- A bound keyer in the state given. -/
def keying (st : KeyState) (test : Nat) : Keyer :=
  { Keyer.reset with binding := some (5, .y), state := st, qual := 2, duration := 24, test := test }
def keyed (st : KeyState) (test : Nat) : State := { key2 (keying st test) with ct := (rec5 live).ct }
def keyLow : State := (keyed .guard 0).setLine 1 ⟨.keyIn, true, 2, false, false, false⟩

/-! ### Steps after the spec's examples -/

/-- The example of 9.5, steps 1, 2 and 4: a KEY_IN line, a second one for the same keyer, an alarm output driven low. -/
def panel : State := after (after base (.lineConfig [3, 2, 1, 2])) (.lineConfig [7, 4, 1, 0])
theorem test_second_key_line_is_refused : (after panel (.lineConfig [4, 2, 0, 2])).cp.last = .inuse := by decide +kernel
theorem test_alarm_line_is_low : panel.driven 7 = some false ∧ panel.driven 3 = none := by decide +kernel
theorem test_masked_timing_term : (after panel (.alarmMask [0x17])).driven 7 = some true := by decide +kernel
theorem test_latch_reaches_output : (after (after base (.lineWrite [3])) (.lineConfig [0, 1, 0, 0])).driven 0 = some true := by
  decide +kernel
theorem test_panel_contact_raises_lines : (after base (.lineLevelChange 3 ⟨true, false⟩)).au.flags = 0x0800 := by decide +kernel

/-- The first steps of the example of 1.8. -/
def opened : State := after base (.openRecord [17, 1])
theorem test_open_voice : (opened.record 17).state = .draft ∧ (opened.record 17).cls = .voice := by decide +kernel
theorem test_open_twice_is_state : (after opened (.openRecord [17, 1])).cp.last = .state := by decide +kernel
theorem test_set_end_unequal_drops_other :
    ((after (after opened (.setEnd [17, 0, 3, 2, 1, 2])) (.setEnd [17, 1, 5, 3, 20, 21, 22])).record 17).ends =
      ⟨none, some ⟨.trib 5, [20, 21, 22]⟩⟩ := by decide +kernel
theorem test_query_of_free_record : (after base (.query [9])).cp.response.map List.length = some 28 := by decide +kernel
theorem test_status_byte_after_reset : base.statusByte = 0 := by decide +kernel
theorem test_commit_without_port : (after (rec5 { ready with staged := some .activate }) (.commit [])).cp.response =
    some [8, 7, 1, 5, 0, 0, 1, 5] := by decide +kernel
theorem test_vacant_trib_frame : (({ Trib.reset with cfg := tx }).lineFrame vacantFrame).take 2 = [0x9B, 0xFF] := by
  decide +kernel
theorem test_slot0_words : wordErrored 0x9B = false ∧ wordErrored 0x1B = false ∧ wordErrored 0xDF = true := by decide
theorem test_density : densityOf .substitute 0 = 0x4C ∧ densityOf .lowBit 0 = 1 ∧ densityOf .none 0 = 0 := by decide
theorem test_anchor_position_of_example : anchorPosition 100 8 false = 91 ∧ anchorPosition 3 8 true = 241 := by decide
theorem test_far_status_codes : decodeStatus 4 = .test ∧ decodeStatus 5 = .unknown ∧ decodeStatus 15 = .unknown := by decide
theorem test_dual_alternation :
    let d := { Detector.reset with cfg := ⟨0x33, 0xCC, 0xA6, true, 4, 4, 40, 16⟩, prev := some 0xCC }
    d.classify 0xA6 = .command ∧ d.classify 0xCC = .unknown ∧ d.classify 0x33 = .guard := by decide
theorem test_unprotected_start_is_faulted :
    ((after { rec5 { ready with staged := some .activate } with
      ct := { (rec5 { ready with staged := some .activate }).ct with commitPending := true } } .mapFlip).record 5).health =
      .faulted := by decide +kernel
theorem test_line_lost_and_gained_restarts_run :
    let s := after (after keyLow (.lineConfig [1, 0, 1, 2])) (.lineConfig [1, 2, 1, 2])
    (s.keyer 2).qual = 2 ∧ (s.keyer 2).run = 0 ∧ (keyLow.keyer 2).run = 2 := by decide +kernel
theorem test_frame_due_at_disabled_port_is_ones :
    let s := after (trib3 { Trib.reset with cfg := tx, txDue := true, lineOut := [] }) (.tribConfig [3, 0, 0, 0, 1, 0, 255, 9])
    ((after s (.tribTransmitFrame 3)).trib 3).lineOut = onesFrame 32 := by decide +kernel
theorem test_vacant_nibble_is_read_when_sent :
    let p := { Trib.reset with cfg := { looped with vacantNibble := 0xA }, txCount := 1, txSig := Vector.replicate 30 none }
    p.slot16Sent = 0xAA := by decide +kernel
theorem test_level_change_and_config_commute :
    let c := Instr.lineConfig [3, 4, 0, 0]
    let w := Instr.lineLevelChange 3 ⟨false, true⟩
    (after (after base c) w).presented 3 = (after (after base w) c).presented 3 := by decide +kernel
theorem test_free_run_lock :
    let s := { base with stu := { base.stu with list := [.ref], refActive := true } }
    s.stuReact.stu.state = .acquiring ∧ s.stuReact.au.flags = 0x0400 := by decide +kernel

/-! ### The hypotheses of the statements can be met -/

theorem meets_StepRunsFrontCommand : base.pending = [] := rfl
/-- A station frame with every clock present and nothing left to a command of its own. -/
def plainFrame : FrameIn := ⟨0xFF, true, true, false, 0, 0, false, false⟩
theorem meets_CommonChecksRefuse : Runs pend ∧ serialParams (.nop [0]) = some [0] ∧ ¬ countFits (.nop [0]) ∧
    countFits (.openRecord [0, 0]) ∧ busyExempt (.openRecord [0, 0]) = false ∧ pend.ct.commitPending = true ∧ Runs full ∧
    countFits (.query [255]) ∧ busyExempt (.query [255]) = true ∧ leavesResponse (.query [255]) = true ∧
    full.cp.response.isSome = true := by
  refine ⟨by decide, rfl, by simp [countFits], by simp [countFits], rfl, rfl, by decide, by simp [countFits], rfl, rfl, rfl⟩
theorem meets_RefusedCommandChangesOnlyLast :
    (∃ t, exec (.query [1]) full = .next t ∧ t.cp.last ≠ .ok ∧ t.cp.last ≠ .conflict) ∧
    (∃ t, exec (.fetch []) full = .next t ∧ t.cp.last ≠ .ok ∧ t.cp.last ≠ .conflict) ∧
    ∃ t, exec (.unknownCommand 0x07 []) base = .next t ∧ t.cp.last ≠ .ok ∧ t.cp.last ≠ .conflict :=
  ⟨⟨_, rfl, by decide +kernel⟩, ⟨_, rfl, by decide +kernel⟩, ⟨_, rfl, by decide +kernel⟩⟩
theorem meets_TransactionStartLatchesStatus : base.inReset = false ∧ base.cp.sel = .idle := ⟨rfl, rfl⟩
theorem meets_NopEmptyAndUnknown : Runs base ∧ (0x07 : Byte) ∉ commandCodes ∧ (0xFF : Byte) ∉ commandCodes ∧
    transactionBytes (.alarmMask [1]) = some [0x63, 1] ∧ transactionBytes (.unknownCommand 0x64 []) = some [0x64] := by decide
theorem meets_FetchShiftsAndConsumes : Runs base ∧ base.cp.response = none ∧ Runs full ∧ full.cp.response = some [2, 0] ∧
    [(2 : Byte), 0].length ≤ [(0 : Byte), 0].length ∧ [(0 : Byte)].length < [(2 : Byte), 0].length := by decide
theorem meets_ReadFlagsReportsAndClears : Free base := by decide
theorem meets_NextAttentionTakesHead : Free opened ∧ opened.au.queue = [17] ∧ Free base ∧ base.au.queue = [] := by decide +kernel
theorem meets_SetMaskAndIrq : Clear base ∧ (31 : Byte).toNat < 32 ∧ (1 : Byte).toNat ≤ 1 ∧ 32 ≤ (32 : Byte).toNat ∧
    1 < (2 : Byte).toNat := by decide
theorem meets_ClearCountersScopes : Clear base ∧ 5 < (6 : Byte).toNat ∧ 7 < (8 : Byte).toNat ∧ 1 < (2 : Byte).toNat := by decide
theorem meets_SoftResetClearsBlocks : Clear base ∧ Runs pend ∧ pend.ct.commitPending = true ∧
    (let on := fun (st : StuState) (src : Option Source) (mem : Bool) =>
      { base with stu := { base.stu with list := [.ref], refActive := true, state := st, selected := src, memory := mem } }
     Clear (on .locked (some .ref) true) ∧ Source.ref ∈ (on .locked (some .ref) true).stu.list ∧
     (on .acquiring (some .ref) true).stu.selected = some .ref ∧ (on .locked (some (.trib 0)) true).stu.selected ≠ some .ref ∧
     (on .acquiring (some (.trib 0)) false).stu.memory = false) ∧
    ¬ (Source.ref ∈ base.stu.list ∧ base.stu.refActive = true) ∧ base.stu.state = .freeRun := by decide +kernel
theorem meets_HardwareResetAndRelease : (after base .transactionStart).cp.sel ≠ .idle ∧ (after base .hardwareReset).inReset = true ∧
    (serialParams (.nop [])).isSome = true := by decide +kernel
theorem meets_OpenTakesFreeRecordIntoDraft : Clear base ∧ (base.record 0).state = .free ∧ (opened.record 17).state ≠ .free ∧
    Clear opened ∧ 2 < (3 : Byte).toNat ∧ readClass 0 = some .protection ∧ readClass 2 = some .data := by decide +kernel
theorem meets_DiscardFreesDraft : Clear base ∧ (base.record 5).state ≠ .draft ∧ Clear (rec5 draft) ∧
    ((rec5 draft).record 5).state = .draft ∧ boundTo ((watched .guard 0).det 2).binding 5 = true ∧
    boundTo ((keyed .guard 0).keyer 2).binding 5 = true := by decide +kernel
theorem meets_SetEndWritesDraftOrStagedEnd : Clear (rec5 ready) ∧ ((rec5 ready).record 5).state = .draft ∧
    ((rec5 ready).record 5).staged = none ∧ readSide 0 = some .x ∧ readEnd 8 [247] = some ⟨.trunk, [247]⟩ ∧
    readEnd 7 [30, 31] = some ⟨.trib 7, [30, 31]⟩ ∧ Clear (rec5 live) ∧ ((rec5 live).record 5).state = .active ∧
    ((rec5 live).record 5).staged = none ∧ bothTrunk (writeEnd live.ends .x ⟨.trib 7, [30, 31]⟩) = false ∧
    ((rec5 { hung with staged := some .remap }).record 5).state = .suspended ∧
    ((rec5 { hung with staged := some .remap }).record 5).staged = some .remap ∧ Clear (rec5 leaving) ∧
    ((rec5 leaving).record 5).state = .retiring ∧ 1 < (2 : Byte).toNat ∧ 8 < (9 : Byte).toNat ∧ 31 < (32 : Byte).toNat ∧
    247 < (248 : Byte).toNat ∧ ¬ [(5 : Byte), 5].Nodup ∧ ({ ready with staged := some .activate }).staged ≠ some .remap ∧
    bothTrunk (writeEnd live.ends .x ⟨.trunk, [41]⟩) = true := by decide +kernel
theorem meets_SetFieldChecksAndWrites : Clear (rec5 live) ∧ ((rec5 live).record 5).state = .active ∧
    (writeField live.fields 17 1).isSome = true ∧ (writeField live.fields 1 4095).isSome = true ∧
    writeField live.fields 1 4096 = none ∧ ((rec5 draft).record 5).state = .draft ∧ 17 < (18 : Byte).toNat ∧
    ((watched .blocked 0).boundDetector 5).isSome = true ∧ ((rec5 leaving).record 5).state = .retiring ∧
    Clear (rec5 draft) ∧ readClass 2 = some .data ∧ (rec5 draft).boundDetector 5 = none ∧ (rec5 draft).boundKeyer 5 = none ∧
    (4095 : Nat) < 4096 ∧ (255 : Nat) < 256 ∧ (15 : Nat) < 16 := by decide +kernel
theorem meets_StagingCommandsStageOnly : Clear (rec5 ready) ∧ ready.staged = none ∧ ready.state = .draft ∧
    ready.ends.x.isSome = true ∧ ready.ends.y.isSome = true ∧ bothTrunk ready.ends = false ∧ live.state = .active ∧
    hung.state = .suspended ∧ Clear (rec5 live) ∧ (rec5 live).record 5 = live ∧ draft.ends.x = none ∧
    ({ ready with staged := some .activate }).staged.isSome = true ∧ live.state ≠ .draft ∧ hung.state ≠ .active ∧
    ({ live with staged := some .remap }).staged.isSome = true ∧
    ({ draft with ends := ⟨some endY, some ⟨.trunk, [41]⟩⟩ }).ends = ⟨some endY, some ⟨.trunk, [41]⟩⟩ := by decide +kernel
theorem meets_ResumeStagesReturnToActive : Clear (rec5 hung) ∧ (rec5 hung).record 5 = hung ∧ hung.staged = none ∧
    live.state ≠ .suspended ∧ ({ hung with staged := some .retire }).staged.isSome = true := by decide +kernel
theorem meets_RevokeRemovesStagedPart : Clear base ∧ (base.record 0).state = .free ∧ live.staged = none ∧
    Clear (rec5 { live with staged := some .suspend }) ∧
    ((rec5 { live with staged := some .suspend }).record 5).staged.isSome = true := by decide +kernel
theorem meets_QueriesAnswerAndChangeNothing : Free base ∧ (base.record 255).ends = ⟨none, none⟩ := by decide +kernel
theorem meets_CursorSetsPosition : Runs base ∧ Clear base ∧ (∃ t, exec (.discard [5]) (rec5 draft) = .next t) :=
  ⟨by decide, by decide, ⟨_, rfl⟩⟩
theorem meets_NextVisitsOccupiedRecords : Free (rec5 draft) ∧ (rec5 draft).ct.endLock = false ∧ (rec5 draft).ct.cursor ≤ 5 ∧
    ((rec5 draft).record 5).state ≠ .free ∧ (∀ j, j < 5 → ((rec5 draft).record j).state = .free) ∧
    (∀ u, 5 < u → ((rec5 draft).record u).state = .free) ∧ Free base ∧ base.ct.endLock = false ∧
    (∀ j, (base.record j).state = .free) ∧ Free { base with ct := { base.ct with endLock := true } } := by
  refine ⟨by decide, rfl, by decide, by rw [rec5_record]; decide, fun j h => ?_, fun j h => ?_, by decide, rfl,
    fun j => by rw [base_record]; rfl, by decide⟩
  · rw [rec5_record, if_neg (by rintro rfl; exact absurd h (by decide))]; rfl
  · rw [rec5_record, if_neg (by rintro rfl; exact absurd h (by decide))]; rfl
theorem meets_CommitOutcomes : Clear base ∧ base.cp.response = none ∧
    ((rec5 { live with staged := some .remap }).record 5).halfRemap = true ∧
    (rec5 { ready with staged := some .activate }).buildNext.toOption.isNone = true ∧
    (rec5 draft).buildNext.toOption.isSome = true := by decide +kernel
/-- Records 5 and 6 to be activated on the ends given, port T3 enabled with signalling. -/
def placing (x y z : End) : State :=
  let r := fun (e f : End) => { ready with ends := ⟨some e, some f⟩, staged := some .activate }
  ((trib3 { Trib.reset with cfg := looped }).setRecord 5 (r x y)).setRecord 6 (r x z)
theorem meets_CommitOutcomes_report :
    (after (placing ⟨.trib 3, [16]⟩ endY endY) (.commit [])).cp.response = some [8, 7, 0, 5, 0, 0, 3, 16] ∧
    (after (placing endX endY endY) (.commit [])).cp.response = some [8, 7, 1, 5, 0, 0, 1, 5] ∧
    (after (placing ⟨.trib 3, [31]⟩ endY ⟨.trunk, [41]⟩) (.commit [])).cp.response = some [9, 7, 2, 5, 6, 0, 0, 3, 31] ∧
    (after ((placing ⟨.trib 3, [31]⟩ ⟨.trunk, [247]⟩ endY).setRecord 6 { ready with
      ends := ⟨some ⟨.trib 3, [1]⟩, some ⟨.trunk, [247]⟩⟩, staged := some .activate }) (.commit [])).cp.response =
      some [9, 7, 2, 5, 6, 1, 0, 8, 247] := by decide +kernel
theorem meets_CommitOutcomes_whole (id : RecId) : ((rec5 draft).record id).halfRemap = false := by
  rw [rec5_record]; split <;> rfl
theorem meets_MapsKeepReservedSlotsAndVacate : ((rec5 draft).trib 0).cfg.enable = false ∧
    (mapped live).ct.activeMap.entry (.trib 1) 5 = some ⟨5, .x, 0⟩ ∧ (mapped live).ct.activeMap.entry .trunk 247 = none ∧
    base.reservedSlot (.trib 1) 0 = true ∧ base.reservedSlot (.trib 1) 5 = false ∧ base.portDisabled (.trib 1) = true ∧
    (base.reservedSlot .trunk 247 = false ∧ base.portDisabled .trunk = false) ∧
    (rec5 { ready with staged := some .activate }).buildNext.toOption.isNone = true ∧
    (rec5 draft).buildNext.toOption.isSome = true := by
  decide +kernel
theorem meets_AbortCommitCancels : Runs pend ∧ pend.ct.commitPending = true ∧ Runs base ∧ base.ct.commitPending = false ∧
    pend.inReset = false ∧ pend.flipDue = true := by decide +kernel
theorem meets_MapQueryReportsActiveEntry : Free (mapped live) ∧ 8 < (9 : Byte).toNat ∧ 31 < (32 : Byte).toNat ∧
    247 < (248 : Byte).toNat ∧ readPort 8 = some .trunk ∧ entryExists .trunk 247 = true ∧
    (mapped live).ct.activeMap.entry .trunk 247 = none ∧ (mapped live).ct.activeMap.entry .trunk 40 = some ⟨5, .y, 0⟩ := by
  decide +kernel
theorem meets_MapFlipAppliesStagedOperations : pend.inReset = false ∧ pend.flipDue = true ∧
    ((rec5 { live with staged := some .retire }).record 5).fields.hold ≠ 0 ∧
    (let r := { live with staged := some .retire, fields := { live.fields with hold := 0 } }
     r.freedByFlip = true ∧ r.applyStaged.trunkCells = none) ∧
    (let r := { ready with staged := some .activate }
     r.freedByFlip = false ∧ r.applyStaged.trunkCells = some [40] ∧ r.trunkCells = none) ∧
    (let r := { live with staged := some .suspend }
     r.applyStaged.trunkCells = r.trunkCells ∧ r.trunkCells = some [40]) ∧
    ((watched .guard 0).det 2).binding = some (5, .y) ∧ ((keyed .guard 0).keyer 2).binding = some (5, .y) ∧
    (base.det 0).binding = none ∧ (base.keyer 0).binding = none ∧ live.far ≠ .sourceFail ∧ live.far ≠ .conditioned := by
  decide +kernel
/-- A record about to expire, with a commit pending. -/
def leavingPending : State := { rec5 leaving with ct := { (rec5 leaving).ct with commitPending := true } }
theorem meets_flip_and_commit_orders : leavingPending.flipDue = true ∧ leavingPending.inReset = false ∧
    leavingPending.holdExpires 5 = true ∧ (rec5 leaving).ct.commitPending = false ∧ (rec5 leaving).flipDue = false := by
  decide +kernel
theorem test_commit_after_expiry_waits :
    let s := after (after (rec5 leaving) (.retireHoldExpiry 5)) (.commit [])
    s.ct.commitPending = true ∧ s.flipDue = false := by decide +kernel
theorem test_expiry_after_commit_keeps_flip :
    let s := after leavingPending (.retireHoldExpiry 5)
    s.flipDue = true ∧ (after s (.abortCommit [])).stu.flipClosed = true ∧
    (after leavingPending (.abortCommit [])).stu.flipClosed = false := by decide +kernel
theorem meets_MultiframeStartCountsHolds : (rec5 leaving).inReset = false ∧ (rec5 leaving).atBoundary = true ∧
    (rec5 leaving).stu.begun = false ∧ ((rec5 leaving).record 5).state = .retiring ∧
    5 ∉ (rec5 leaving).stu.retiredNow ∧ ((rec5 leaving).record 5).holdRemaining ≤ 1 ∧
    1 < ((rec5 { leaving with holdRemaining := 2 }).record 5).holdRemaining ∧ ((rec5 leaving).record 6).state ≠ .retiring := by
  decide +kernel
theorem meets_RetireHoldExpiryFreesRecord : (rec5 leaving).inReset = false ∧ (rec5 leaving).atBoundary = true ∧
    (rec5 leaving).stu.begun = false ∧ ((rec5 leaving).record 5).state = .retiring ∧ 5 ∉ (rec5 leaving).stu.retiredNow ∧
    ((rec5 leaving).record 5).holdRemaining = 1 := by decide +kernel

theorem meets_TribConfigChecksAndWrites : Clear base ∧ 7 < (8 : Byte).toNat ∧ (7 : Byte) = byte (7 : Idx8).val ∧
    1 < (2 : Byte).toNat ∧ (1 : Byte).toNat ≤ 1 ∧ 15 < (16 : Byte).toNat ∧ (15 : Byte).toNat ≤ 15 ∧ (15 : Byte).setWidth 4 = (15 : Nibble) ∧
    (mapped live).ownersOn (.trib 1) ≠ [] ∧ Clear (mapped live) ∧ base.ownersOn (.trib 1) = [] ∧
    ((base.ct.activeMap.write (.trib 1) 16 ⟨5, .x, 0⟩).entry (.trib 1) 16 ≠ none) := by decide +kernel
theorem test_rdi_changes_with_the_frame :
    let sent := (alignedA.setPort .a { alignedA.port .a with lineOut := alignedA.trunkFrameSent .a (fun _ => 9) [] }).port .a
    sent.rdiOnLine = false ∧ { sent with align := .search }.rdiOnLine = false ∧ TrunkPort.reset.rdiOnLine = true := by decide +kernel
theorem meets_StatusQueriesAnswer : Free base ∧ 7 < (8 : Byte).toNat ∧ 1 < (2 : Byte).toNat := by decide
theorem meets_ClockLossEntersNoSignal :
    ((rx3 { TribRx.reset with align := .aligned, absence := 3 }).trib 3).rx.absence = 3 ∧
    ((rx3 { TribRx.reset with align := .aligned, absence := 3 }).trib 3).rx.align = .aligned ∧
    (portA { TrunkPort.reset with enable := true, align := .search, absence := 3 }).inReset = false ∧
    ((portA { TrunkPort.reset with enable := true, align := .search, absence := 3 }).port .a).absence = 3 ∧
    ((alignedA.setPort .a { alignedA.port .a with absence := 3 }).port .a).align = .aligned ∧
    alignedA.usable .b = false ∧ (alignedA.port .b).align ≠ .aligned ∧ alignedA.usable .a = true ∧
    (((alignedA.setDeskew .a { Deskew.reset with state := .outOfWindow }).setPort .b
      { (alignedA.port .a) with absence := 3 }).usable .a = false) := by decide +kernel

/-- Port T3 in LOOP timing in the alignment state given, and Trunk A too, each with absent frames behind it. -/
def clocked (a : Align) (absent : Nat) : State :=
  (trib3 { Trib.reset with cfg := looped, rx := { TribRx.reset with align := a, absence := absent } }).setPort .a
    { TrunkPort.reset with enable := true, align := a, absence := absent }
theorem meets_ClockLossEntersNoSignal_frame :
    (clocked .noSignal 0).inReset = false ∧
    (let t := after (clocked .noSignal 0) (.stationFrame plainFrame)
     (t.trib 3).rx.align = .search ∧ (t.trib 3).txStore = ⟨[(t.trib 3).delivered], none⟩ ∧ (t.port .a).align = .search) ∧
    (let t := after (clocked .search 3) (.stationFrame { plainFrame with tribClock := 0xF7, trunkAClock := false })
     (t.trib 3).rx.align = .noSignal ∧ (t.port .a).align = .noSignal) ∧
    (let t := after (clocked .confirm 2) (.stationFrame { plainFrame with tribClock := 0xF7, trunkAClock := false })
     (t.trib 3).rx.absence = 3 ∧ (t.port .a).absence = 3) ∧
    (let t := after (clocked .aligned 3) (.stationFrame plainFrame)
     (t.trib 3).rx.absence = 0 ∧ (t.port .a).align = .aligned) := by decide +kernel

/-- Bits kept from one position after a candidate, up to the second word. -/
def confirmed : List Bool := List.replicate 255 false ++ [true] ++ List.replicate 255 false ++ tribWord
theorem meets_TribSearchAndConfirmation :
    ([] ++ ([true] ++ tribWord)).length = 1 + 7 ∧ ([true] ++ tribWord).drop 1 = tribWord ∧
    (∀ j, j < 1 → (([true] ++ tribWord).drop j).take 7 ≠ tribWord) ∧
    ((rx3 { TribRx.reset with align := .search }).trib 3).rx.align = .search ∧
    ((rx3 { TribRx.reset with align := .confirm }).trib 3).rx.align = .confirm ∧
    (List.replicate 256 false).length = 256 ∧ (List.replicate 256 false).getD 255 false = false ∧
    confirmed.length = 518 ∧ confirmed.getD 255 false = true ∧ (confirmed.drop 511).take 7 = tribWord ∧
    (confirmed.take 511 ++ List.replicate 7 true).length = 518 ∧
    ((confirmed.take 511 ++ List.replicate 7 true).drop 511).take 7 ≠ tribWord := by decide +kernel

/-- A line frame whose slot 0 and slot 16 are the bytes given. -/
def lineFrameBits (slot0 slot16 : Byte) : List Bool :=
  bitsOfByte slot0 ++ List.replicate 120 true ++ bitsOfByte slot16 ++ List.replicate 120 true
theorem meets_TribFrameIsJudgedAndStored : (lineFrameBits 0x9B 0).length = 256 ∧
    ((rx3 { TribRx.reset with align := .aligned }).trib 3).rx.align = .aligned ∧
    ((rx3 { TribRx.reset with align := .aligned }).trib 3).thirdError (byteAt (lineFrameBits 0x9B 0) 0) = false ∧
    ((rx3 { TribRx.reset with align := .aligned, errorRun := 1 }).trib 3).thirdError (byteAt (lineFrameBits 0 0) 0) = false ∧
    byteAt (lineFrameBits 0 0) 0 &&& 0x7F ≠ 0x1B ∧ byteAt (lineFrameBits 0x9B 0) 0 &&& 0x7F = 0x1B ∧
    ((rx3 TribRx.reset).trib 3).store.unread.length < 2 ∧
    2 ≤ ((trib3 { Trib.reset with store := ⟨[[], []], none⟩ }).trib 3).store.unread.length ∧
    ((rx3 { TribRx.reset with align := .aligned, odd := true, remote := true, setRun := 2 }).trib 3).thirdError
      (byteAt (lineFrameBits 0xDF 0) 0) = false ∧
    (byteAt (lineFrameBits 0xFF 0) 0).getLsbD 5 = true ∧ (byteAt (lineFrameBits 0xDF 0) 0).getLsbD 5 = false ∧
    upper (byteAt (lineFrameBits 0x9B 0x0F) 16) = 0 ∧ upper (byteAt (lineFrameBits 0x9B 0xF0) 16) ≠ 0 ∧
    looped.signalling = true ∧ tx.signalling = false ∧
    (let p := { Trib.reset with cfg := looped, rx := { TribRx.reset with align := .aligned, mfAligned := true, mfNext := 15 } }
     p.thirdError (byteAt (lineFrameBits 0x9B 0x12) 0) = false ∧ p.rx.mfNext = 15 ∧
     lower (byteAt (lineFrameBits 0x9B 0x12) 16) = 2) := by decide +kernel
theorem meets_RemoteAlarmAndMultiframeLoss : (byteAt (lineFrameBits 0xFF 0) 0).getLsbD 5 = true ∧
    (byteAt (lineFrameBits 0xDF 0) 0).getLsbD 5 = false ∧ upper (byteAt (lineFrameBits 0x9B 0x10) 16) ≠ 0 ∧
    ((rx3 { TribRx.reset with align := .aligned, odd := true, setRun := 2 }).trib 3).rx.setRun = 2 ∧
    ((rx3 { TribRx.reset with align := .aligned, odd := true, remote := true, clearRun := 2 }).trib 3).rx.clearRun = 2 ∧
    ((trib3 { Trib.reset with
        cfg := looped, rx := { TribRx.reset with align := .aligned, mfAligned := true, mfWrong := 1 } }).trib 3).thirdError
      (byteAt (lineFrameBits 0x9B 0x10) 0) = false := by decide +kernel
theorem meets_ThirdErroredWordEndsAlignment :
    ((rx3 { TribRx.reset with align := .aligned, errorRun := 2 }).trib 3).rx.errorRun = 2 ∧
    ((rx3 { TribRx.reset with align := .aligned, errorRun := 2 }).trib 3).rx.odd = false ∧
    byteAt (bitsOfByte 0x9A) 0 &&& 0x7F ≠ 0x1B ∧ (bitsOfByte 0x9A).length = 8 ∧ (lineFrameBits 0x9A 0).length = 256 ∧
    byteAt (lineFrameBits 0x9A 0) 0 &&& 0x7F ≠ 0x1B := by decide +kernel
theorem meets_AisWindowEndJudgesZeros :
    let s := rx3 { TribRx.reset with align := .search, aisBits := 511 }
    (s.trib 3).rx.aisBits + [true].length = 512 ∧ (s.trib 3).rx.aisBits < 512 ∧ (s.trib 3).quiet [true] = true := by
  decide +kernel
theorem meets_TribTransmitFrameSent :
    let s := trib3 { Trib.reset with cfg := looped, rx := { TribRx.reset with align := .search }, txStore := ⟨[vacantFrame], none⟩ }
    (s.trib 3).cfg.enable = true ∧ (s.trib 3).cfg.loopTiming = true ∧ (s.trib 3).rx.align ≠ .noSignal ∧
    (s.trib 3).txStore.unread = [vacantFrame] ∧ vacantFrame.length = 32 ∧ (s.trib 3).txCount = 0 ∧
    (s.trib 3).cfg.signalling = true ∧ (15 : BitVec 4).toNat = 15 ∧
    (({ Trib.reset with txStore := ⟨[], some vacantFrame⟩ }).txStore.unread = []) ∧
    (let d := trib3 { Trib.reset with txDue := true }
     d.inReset = false ∧ (d.trib 3).cfg.enable = false ∧ (d.trib 3).txDue = true) ∧
    (let d := trib3 { Trib.reset with cfg := tx, txDue := true }
     (d.trib 3).cfg.enable = true ∧ (d.trib 3).cfg.loopTiming = false ∧ (d.trib 3).delivered.length = 32) := by decide +kernel
theorem meets_TimingConfigWritesList : Clear base ∧ 1 < (2 : Byte).toNat ∧ [(0 : Byte), 10, 8, 9].length ≤ 4 ∧
    (∀ c ∈ [(0 : Byte), 10, 8, 9], c.toNat ≤ 10) ∧ [(0 : Byte), 10, 8, 9].Nodup ∧ 10 < (11 : Byte).toNat ∧
    ¬ [(0 : Byte), 0].Nodup := by decide
theorem meets_TimingUnitChangesState :
    let s := { base with stu := { base.stu with list := [.ref], refActive := true, refIdle := 3, selected := some .ref } }
    s.inReset = false ∧ s.atBoundary = true ∧ s.stu.stuTaken = false ∧ s.qualified .ref = true ∧ Source.ref ∈ s.stu.list ∧
    s.stu.refIdle = 3 ∧ (∀ src ∈ base.stu.list, base.qualified src = false) ∧
    (∀ src ∈ s.stu.list, src ≠ .ref → s.qualified src = false) := by decide +kernel
theorem meets_StuReacted_cases :
    (let q := fun x => decide (x = Source.trib 1)
     (∃ x ∈ [Source.ref, .trib 1], q x = true) ∧ FirstOf [.ref, .trib 1] q (.trib 1) ∧ ¬ base.stu.Stands q) ∧
    ({ base.stu with state := .locked, list := [.ref], selected := some .ref }).Stands (fun x => decide (x = Source.ref)) := by
  refine ⟨⟨⟨.trib 1, by decide, rfl⟩, ⟨[.ref], [], rfl, rfl, by decide⟩, ?_⟩, ⟨.ref, rfl, by decide, rfl⟩⟩
  rintro ⟨_, h, _⟩
  exact absurd h (by simp [base, State.reset, Stu.reset])
theorem meets_StuCounted_cases :
    (let s := { base with stu := { base.stu with state := .locked, wtrTarget := some (.trib 1), wtrCount := 4, wtrTime := 5 } }
     s.atBoundary = true ∧ s.stu.begun = false ∧ s.stu.stuTaken = false ∧ s.stu.wtrTime ≤ s.stu.wtrCount + 1) ∧
    ({ base.stu with holdover := 2 }).holdover = 2 ∧ (2 : Nat) ≤ 2 := by decide +kernel
theorem meets_TimingUnitChangesState_frame :
    let s := fun n => { base with stu := { base.stu with refActive := true, refIdle := n } }
    (s 0).inReset = false ∧ ((after (s 3) (.stationFrame plainFrame)).stu.refActive = false) ∧
    ((after (s 2) (.stationFrame plainFrame)).stu.refIdle = 3) ∧
    ((after base (.stationFrame { plainFrame with refEdges := true })).stu.refActive = true) ∧
    (after base (.stationFrame plainFrame)).stu.refActive = false := by decide +kernel
theorem meets_TimingUnitChangesState_settled : StuReacted base.stu base.stu (fun _ => false) false := by
  refine ⟨fun _ => ⟨fun src h => ?_, fun _ => ⟨rfl, rfl⟩⟩, fun h => absurd h (by decide), fun h => absurd h (by decide),
    fun h => absurd h (by decide)⟩
  obtain ⟨_, _, _, hq, _⟩ := h
  cases hq
theorem meets_TrunkConfigWritesPair : Clear base ∧ 1 < (2 : Byte).toNat ∧ 24 < (25 : Byte).toNat ∧ (24 : Byte).toNat ≤ 24 ∧
    (alignedA.port .a).enable = true ∧ (base.port .a).enable = false ∧
    (let s := (alignedA.setPort .b (alignedA.port .a)).setDeskew .b { Deskew.reset with state := .outOfWindow }
     Clear s ∧ (s.port .a).align = .aligned ∧ (s.port .b).align = .aligned ∧ s.usable .b = false ∧
     ((s.configureTrunks false true 8 0xFF).port .a).align ≠ .aligned ∧
     ((s.configureTrunks false true 8 0xFF).port .b).align = .aligned) := by decide +kernel

/-- Bits kept from one position after a candidate of number 247, three frames long, up to the third number. -/
def trunkConfirming : List Bool :=
  List.replicate 2047 false ++ bitsOfByte 0x6C ++ bitsOfByte 0 ++ List.replicate 2032 false ++ bitsOfByte 0x6C ++
    bitsOfByte 1 ++ List.replicate 2032 false ++ bitsOfByte 0x6C ++ bitsOfByte 2
theorem meets_TrunkSearchCandidate :
    let all := [true] ++ bitsOfByte 0x6C ++ bitsOfByte 247
    all.length = 1 + 16 ∧ byteAt (all.drop 1) 0 = 0x6C ∧ (byteAt (all.drop 1) 1).toNat < 248 ∧
    (∀ j, j < 1 → ¬ (byteAt (all.drop j) 0 = 0x6C ∧ (byteAt (all.drop j) 1).toNat < 248)) := by decide +kernel
theorem meets_TrunkSearchAndConfirmation : trunkConfirming.length = 6159 ∧
    (∀ j, j < 4 → 1 ≤ j → byteAt (trunkConfirming.drop (2048 * j - 1)) 0 = 0x6C ∧
      (byteAt (trunkConfirming.drop (2048 * j - 1)) 1).toNat = (247 + j) % 248) ∧
    (confirmChecks 247 (List.replicate 2055 false)).find? (fun c => !c.2) = some (2055, false) := by decide +kernel
theorem meets_TrunkFrameJudgedOrLost : alignedA.inReset = false ∧ (alignedA.port .a).align = .aligned ∧
    (alignedA.port .a).inRx = none ∧ (alignedA.port .a).expected = 7 ∧ (7 : Byte).toNat = 7 ∧
    [(0x6C : Byte), 7, 0, 0, 0, 0, 0, 2].length = 8 ∧
    4 ≤ ((alignedA.setPort .a { alignedA.port .a with errorRun := 3 }).port .a).errorRun + 1 ∧
    2 ≤ ((alignedA.setPort .a { alignedA.port .a with seqRun := 1 }).port .a).seqRun + 1 := by decide +kernel
theorem meets_TrunkFrameHandedOn :
    let s := alignedA.setPort .a { alignedA.port .a with inRx := some (247, [0x6C, 247, 0, 0, 0, 0, 0, 2]) }
    (s.port .a).inRx = some (247, [0x6C, 247, 0, 0, 0, 0, 0, 2]) ∧ (List.replicate 248 (0 : Byte)).length = 248 ∧
    (0x14 : Byte).toNat % 16 = 4 ∧ 5 ≤ (0x15 : Byte).toNat % 16 ∧ 5 ≤ (0xFF : Byte).toNat % 16 ∧
    (s.deskew .a).hold ≠ .awaiting ∧ ((s.setDeskew .a .anchored).deskew .a).hold = .awaiting ∧ s.trunks.skew ≤ 24 := by
  decide +kernel
theorem meets_RecentreAndWindowChanges : Clear alignedA ∧ 1 < (2 : Byte).toNat ∧ readTrunk 0 = some .a ∧ readTrunk 1 = some .b ∧
    (alignedA.port .b).align ≠ .aligned ∧ (alignedA.port .a).align = .aligned ∧ (alignedA.deskew .a).hold = .none ∧
    (alignedA.deskew .a).state = .inWindow ∧ (alignedA.deskew .a).missing = 2 ∧
    (∀ f ∈ (alignedA.deskew .a).frames, f.seq ≠ alignedA.ps.readPos) ∧
    (let t := alignedA.setDeskew .a ⟨[⟨0, 0, .ok, [], []⟩], .outOfWindow, 0, 7, .none⟩
     (t.deskew .a).present = 7 ∧ ∃ f ∈ (t.deskew .a).frames, f.seq = t.ps.readPos) := by decide +kernel
theorem meets_StationFrameAdvancesAndSends : base.inReset = false ∧ base.atBoundary = true ∧
    ({ base with stu := { base.stu with started := true } }).atBoundary = false ∧ base.stu.count < 248 ∧ base.ps.readPos < 248 ∧
    base.stu.begun = false ∧ (alignedA.port .a).enable = true ∧ (alignedA.port .b).enable = false ∧
    (base.trib 3).txDue = false ∧ ((trib3 { Trib.reset with cfg := tx }).trib 3).cfg.enable = true := by decide +kernel
theorem meets_TreatmentChainsInOrder : hung.state = .suspended ∧ leaving.state = .retiring ∧ live.state = .active ∧
    live.failed.get .x = false ∧ live.ends.get (otherSide .y) = some endX ∧ endX.list[0]? = some 5 ∧
    (rec5 live).keyerByte 5 .y = none ∧
    (key2 { keying .guard 0 with last := ⟨false, false, some 0x33, false⟩ }).keyerByte 5 .y = some 0x33 := by decide +kernel


/-- Record 5 ACTIVE with a tributary end and a trunk end, the part past its first frame. -/
def running (r : Record) : State := { mapped r with stu := { base.stu with started := true } }
theorem meets_TreatmentChainsInOrder_frame : (running live).inReset = false ∧
    (let u := (running live).opening plainFrame
     let r := (u.psRead u.reads).record 5
     r.inMap = true ∧ r.portOf (otherSide .y) = some (.trib 1) ∧ r.portOf (otherSide .x) = some .trunk ∧
       r.fields.attention = true ∧ r.failed = ⟨false, false⟩) := by decide +kernel
theorem test_frame_fails_both_sources :
    ((after (running live) (.stationFrame plainFrame)).record 5).failed = ⟨true, true⟩ := by decide +kernel
theorem meets_TagChannelAndEndStatus : (mapped live).ct.activeMap.entry .trunk 40 = some ⟨5, .y, 0⟩ ∧
    (mapped live).ct.activeMap.entry .trunk 0 = none ∧ live.fields.loopback = .none ∧ live.fields.inject = .none ∧
    live.portOf (otherSide .y) = some (.trib 1) ∧ ((mapped live).record 5).trunkCells = some [40] := by decide +kernel

/-- A frame present on Trunk A, and Trunk A in its window, at the cell's turn. -/
def seen : DFrame := ⟨40, 0, .test, [1, 2, 3, 4], List.replicate 248 0x55⟩
def reading : State := { alignedA with
  ct := (mapped live).ct, ps := { alignedA.ps with deskew := ⟨⟨[seen], .inWindow, 0, 0, .none⟩, .reset⟩, readPos := 40 } }
theorem meets_TagChannelAndEndStatus_read : (reading.record 5).trunkCells = some [40] ∧ reading.reads = ⟨.present seen, .off⟩ ∧
    (let v := reading.psRead reading.reads
     (v.record 5).selected = pathSel .a ∧ (v.record 5).copy.get .a = .good ∧ v.ps.readPos = 41 ∧
     (v.record 5).farCand = some .test ∧ (v.record 5).tag.a.read = true ∧ v.ps.sig.get 40 = ⟨0xF, none⟩) ∧
    4 * (160 % 62) ≤ 144 ∧ seen.nibbles[144 % 4]? = some 1 := by decide +kernel
theorem meets_TreatmentChainsInOrder_cell :
    let v := reading.psRead reading.reads
    (v.record 5).ends.get .y = some endY ∧ endY.list[0]? = some 40 ∧ (v.record 5).selected = pathSel .a ∧
    (v.record 5).copy.get .a = .good ∧ reading.reads.get .a = .present seen := by decide +kernel
theorem meets_TagRead_cases : ∃ x : TagCheck, x.read = true ∧ x.mismatch = true ∧ ReadResult.missing ≠ .off ∧ ReadResult.missing ≠ .held :=
  ⟨⟨true, true, 0, 2, false⟩, rfl, rfl, by decide, by decide⟩
theorem test_third_mismatch_marks_once :
    ((⟨true, true, 0, 2, false⟩ : TagCheck).evaluate 7 .missing) = ⟨false, false, 0, 3, true⟩ ∧
    ((⟨true, false, 1, 0, true⟩ : TagCheck).evaluate 7 .missing) = ⟨false, false, 2, 0, false⟩ ∧
    ((⟨true, true, 1, 2, true⟩ : TagCheck).evaluate 7 .held) = ⟨false, false, 1, 2, true⟩ := by decide
theorem meets_DetectorCommands : Clear (rec5 live) ∧ 7 < (8 : Byte).toNat ∧ 1 < (2 : Byte).toNat ∧
    (rec5 live).boundDetector 5 = none ∧ ((rec5 live).det 7).binding = none ∧ live.cls = .protection ∧
    ((watched .blocked 0).boundDetector 5).isSome = true ∧ Clear (watched .command 0) ∧
    ((watched .command 0).det 2).state = .command ∧ ((watched .pending 0).det 2).state = .pending ∧
    (base.det 0).state = .unbound ∧ (32 : Byte).toNat ≤ 32 ∧ 32 < (33 : Byte).toNat ∧
    ((watched .guard 0).det 2).binding = some (5, .y) := by decide +kernel
theorem meets_DetectorFrameEvents :
    (watched .blocked 0x33).circuitBlocks 5 = false ∧ ((watched .blocked 0x33).record 5).failed.get .y = false ∧
    ((watched .blocked 0x33).det 2).handed = some 0x33 ∧ ((watched .blocked 0x33).det 2).binding = some (5, .y) ∧
    (watching .blocked 0x33).release + 1 = (watching .blocked 0x33).cfg.r ∧
    (watching .pending 0xCC).classify 0xCC = .command ∧ (watching .pending 0xCC).persist + 1 = (watching .pending 0xCC).cfg.p ∧
    (watching .trail 0x33).prolong = 1 ∧ (watching .guard 0).classify 0 = .unknown ∧
    (watching .guard 0).unknown + 1 = (watching .guard 0).cfg.u := by decide +kernel

/-- A detector on the running record, watching toward the trunk, with a byte of its tributary. -/
def sounding (st : DetState) : State :=
  let p := { Trib.reset with
    cfg := tx, rx := { TribRx.reset with align := .aligned }, store := ⟨[List.replicate 32 0xCC], none⟩ }
  { running live with
    tribs := setAt base.tribs 1 p
    dets := setAt base.dets 2 { watching st 0 with handed := none, persist := 0, release := 0, unknown := 0 } }
theorem meets_StationFrameAdvancesAndSends_filled :
    let s := sounding .guard
    let u := s.opening plainFrame
    let w := u.filled plainFrame
    let empty := s.setTrib 1 { s.trib 1 with store := ⟨[], some (List.replicate 32 0xCC)⟩ }
    (s.inReset = false ∧ (u.trib 1).rx.align = .aligned ∧ (u.trib 1).store.unread = [List.replicate 32 0xCC]) ∧
    (w.ct.activeMap.entry (.trib 1) 5 = some ⟨5, .x, 0⟩ ∧ w.ct.activeMap.entry (.trib 1) 31 = none ∧
      w.ct.activeMap.entry .trunk 40 = some ⟨5, .y, 0⟩ ∧ (w.record 5).cls ≠ .data) ∧
    ((u.trib 1).cfg.enable = true ∧ (u.trib 1).cfg.loopTiming = false ∧ plainFrame.deferTx.getLsbD 1 = false) ∧
    ((u.trib 0).cfg.enable = false ∧ ({ plainFrame with deferTx := 2 }).deferTx.getLsbD 1 = true) ∧
    (empty.opening plainFrame).repeating = [1] ∧ repeatsCounted empty 5 = 1 ∧
    (let t := after { s with trunks := { s.trunks with port := ⟨{ TrunkPort.reset with enable := true }, .reset⟩ } } (.stationFrame plainFrame)
     (t.port .a).enable = true ∧ (t.port .a).lineOut.getD 48 0 = 0xCC ∧ (t.port .a).lineOut.getD 49 0 = 0xFF) := by decide +kernel
theorem meets_StoresWorked_loop : (clocked .search 0).inReset = false ∧ ((clocked .search 0).trib 3).rx.align ≠ .noSignal ∧
    ((clocked .search 0).trib 3).cfg.loopTiming = true ∧ ((clocked .search 0).trib 3).txStore.unread.length < 2 ∧
    2 ≤ (⟨[vacantFrame, vacantFrame], none⟩ : Elastic (Option Byte)).unread.length := by decide +kernel
theorem meets_TreatmentChainsInOrder_received :
    (let w := (sounding .guard).opening plainFrame |>.filled plainFrame
     (w.trib 1).good = true ∧ (w.trib 1).store.last = some (List.replicate 32 0xCC) ∧ (w.record 5).ends.get .x = some endX) ∧
    (let p := { Trib.reset with cfg := looped, rx := { TribRx.reset with align := .aligned, mfAligned := true } }
     p.cfg.signalling = true ∧ p.good = true ∧ p.rx.mfAligned = true) ∧
    (31 = (29 : Fin 30).val + 2 ∧ 15 ≤ (29 : Fin 30).val) ∧ (15 = (14 : Fin 30).val + 1 ∧ (14 : Fin 30).val < 15) ∧
    (247 = (247 : Fin 248).val) ∧ (Trib.reset.good = false) ∧ ((keyed .guard 0).keyer 2).binding = some (5, .y) := by decide +kernel
theorem meets_DetectorFrameEvents_frame :
    let s := sounding .guard
    let u := s.opening plainFrame
    let w := u.filled plainFrame
    (s.inReset = false ∧ (u.det 2).binding = some (5, .y) ∧ (u.det 2).state ≠ .unbound ∧ (w.record 5).inMap = true) ∧
    w.circuitBlocks 5 = false ∧ (w.record 5).failed.get .y = false ∧ w.deliveredByte u.reads 5 .y 0 = 0xCC ∧
    plainFrame.deferDet.getLsbD 2 = false ∧ u.notices w (u.repeatsNow plainFrame) = [] := by decide +kernel
theorem meets_DetectorFrameEvents_notice :
    let s := { sounding .command with tribs := setAt base.tribs 1 { (sounding .command).trib 1 with store := ⟨[], some (List.replicate 32 0xCC)⟩ } }
    let u := s.opening plainFrame
    let w := u.filled plainFrame
    u.notices w (u.repeatsNow plainFrame) = [.trib 1] ∧ (w.record 5).state = .active ∧ 5 ∈ w.ownersOn (.trib 1) ∧
    (w.record 5).portOf (otherSide .y) = some (.trib 1) := by decide +kernel
theorem test_frame_brings_pending :
    ((after (sounding .guard) (.stationFrame plainFrame)).det 2).state = .pending ∧
    ((after (sounding .guard) (.stationFrame { plainFrame with deferDet := 4 })).det 2).handed = some 0xCC := by decide +kernel
theorem meets_DetectorFrameEvents_small : (watching .trail 0).prolong ≤ 1 ∧ (watching .command 0).classify 0xCC = .command ∧
    (watching .guard 0).cfg.p ≠ 1 ∧ (0 : Nat) + 1 < (watching .pending 0).cfg.p ∧ (0 : Nat) + 1 < (watching .blocked 0).cfg.r ∧
    (0 : Nat) + 1 < (watching .guard 0).cfg.u := by decide
theorem meets_KeyerCommands : Clear (rec5 live) ∧ (rec5 live).boundKeyer 5 = none ∧ ((rec5 live).keyer 7).binding = none ∧
    Clear (keyed .command 0) ∧ 7 < (8 : Byte).toNat ∧ ((keyed .command 0).keyer 2).state = .command ∧ ((keyed .guard 0).keyer 2).state = .guard ∧
    (0x1F : Byte).toNat * 256 + (0x40 : Byte).toNat = 8000 ∧ 8000 < (0x1F : Byte).toNat * 256 + (0x41 : Byte).toNat ∧
    ((keyed .guard 5).keyer 2).test ≠ 0 ∧ ((keyed .guard 5).keyer 2).binding = some (5, .y) ∧
    ((keyed .guard 5).record 5).state = .active ∧ 15 < (16 : Byte).toNat ∧ (15 : Byte).toNat ≤ 15 := by decide +kernel
theorem meets_KeyerFrameEvents : keyLow.keyLevel 2 = some true ∧ (keyLow.keyer 2).qual = (keyLow.keyer 2).cfg.q ∧
    (keyLow.keyer 2).state ≠ .unbound ∧ (keyLow.keyer 2).taken = false ∧ keyLow.inReset = false ∧
    (keying .command 0).cfg.kmin ≤ (keying .command 0).duration ∧ (keyed .command 0).keyLevel 2 ≠ some true ∧
    (keying .lockout 0).lockout = 0 ∧ (keying .guard 1).test = 1 ∧ (keyed .lockout 0).keyLevel 2 ≠ some true ∧
    (keyLow.keyer 2).run = (keyLow.keyer 2).cfg.q ∧ (base.keyer 0).binding = none ∧ (base.keyer 0).state = .unbound ∧
    ((keyLow.opening plainFrame).keyer 2).binding = some (5, .y) ∧ ((keyLow.opening plainFrame).keyer 2).taken = false ∧
    (((after keyLow (.lineRequestQualified 2)).opening plainFrame).keyer 2).taken = true := by decide +kernel
theorem test_frame_takes_keyer :
    ((after keyLow (.stationFrame plainFrame)).keyer 2).last = ⟨true, true, some 0xCC, false⟩ := by decide +kernel
theorem meets_ContactLineCommandsAndLevels : Clear panel ∧ 7 < (8 : Byte).toNat ∧ 4 < (5 : Byte).toNat ∧
    readUnit 4 = some 4 ∧ readFunction 4 = some .alarmOut ∧ readFunction 2 = some .keyIn ∧
    (∃ m : Idx8, m ≠ 4 ∧ (panel.line m).function = .keyIn ∧ (panel.line m).unit = 2) ∧
    (panel.line 0).function = .input ∧ (panel.line 0).wire = false ∧ (panel.line 7).function = .alarmOut ∧
    (panel.line 3).function = .keyIn ∧ (panel.line 3).unit = 2 ∧ panel.driven 7 = some false := by decide +kernel
theorem meets_ContactLineCommandsAndLevels_orders : ∃ t1 t2 t3 t4, exec (.lineLevelChange 3 ⟨true, true⟩) base = .next t1 ∧
    exec (.lineConfig [3, 4, 0, 0]) t1 = .next t2 ∧ exec (.lineConfig [3, 4, 0, 0]) base = .next t3 ∧
    exec (.lineLevelChange 3 ⟨true, true⟩) t3 = .next t4 := ⟨_, _, _, _, rfl, rfl, rfl, rfl⟩
theorem meets_AlarmMaskSelectsTerms : Clear panel ∧ 0x1F < (0x20 : Byte).toNat ∧ (0x1F : Byte).toNat ≤ 0x1F ∧
    (panel.line 7).function = .alarmOut ∧ Runs pend ∧ pend.ct.commitPending = true ∧
    ({ base.clu with alarmMask := 0 }).alarmMask = 0 := by decide +kernel

/-! ### The laws hold in states where they speak of something -/

/-- A step, for the statements about every step. -/
theorem meets_Step : step { base with pending := [.openRecord [17, 1]] } = .next opened := rfl

theorem meets_StepKeepsQueueAndBufferLaws : QueueLaw opened ∧ DeskewLaw alignedA ∧ KeyLineLaw panel ∧ CountLaw panel := by
  refine ⟨?_, fun k => by cases k <;> decide +kernel, ?_, ?_⟩
  · unfold QueueLaw; decide +kernel
  · unfold KeyLineLaw; decide +kernel
  · unfold CountLaw; decide +kernel

theorem watched_det (st : DetState) (b : Byte) (d : Idx8) :
    (watched st b).det d = if 2 = d then watching st b else Detector.reset := by
  have h : (watched st b).det d = (setAt base.dets 2 (watching st b)).get d := rfl
  rw [h, setAt_get]
  simp [base, State.reset, Vector.get]

theorem meets_BindingLaw : BindingLaw (watched .command 0x33) := by
  refine ⟨fun d e x hx y hy _ => ?_, fun k l x hx => ?_⟩
  · rw [watched_det] at hx hy
    split at hx <;> split at hy <;> simp_all [Detector.reset]
  · have h : (watched .command 0x33).keyer k = Keyer.reset := by
      simp [watched, det2, base, State.keyer, State.reset, Vector.get]
    rw [h] at hx
    simp [Keyer.reset] at hx

theorem meets_BindingLaw_keyer : BindingLaw (keyed .guard 0) := by
  have hk : ∀ k, (keyed .guard 0).keyer k = if 2 = k then keying .guard 0 else Keyer.reset := fun k => by
    have h : (keyed .guard 0).keyer k = (setAt base.keyers 2 (keying .guard 0)).get k := rfl
    rw [h, setAt_get]
    simp [base, State.reset, Vector.get]
  refine ⟨fun d e x hx => ?_, fun k l x hx y hy _ => ?_⟩
  · have h : (keyed .guard 0).det d = Detector.reset := by
      simp [keyed, key2, base, State.setKeyer, State.det, State.reset, Vector.get]
    rw [h] at hx
    simp [Detector.reset] at hx
  · rw [hk] at hx hy
    split at hx <;> split at hy <;> simp_all [Keyer.reset]

theorem meets_StepKeepsDetectorLaw : DetectorLaw (watched .command 0x33) := by
  intro d
  rw [watched_det]
  split
  · refine ⟨by decide, fun _ => ⟨5, .y, rfl, ?_, ?_⟩⟩
    · decide +kernel
    · decide +kernel
  · exact ⟨by decide, fun h => by simp [Detector.armed, Detector.reset] at h⟩

theorem meets_StepKeepsReservedSlotsFree : ReservedLaw (mapped live) := by
  refine ⟨?_, ?_, fun _ => by simp [mapped, rec5, State.setRecord, base, State.reset, CircuitTable.reset]⟩
  · unfold ReservedFree; decide +kernel
  · unfold ReservedFree; decide +kernel

theorem meets_StepKeepsEndsLawful : EndsLaw (mapped live) := by
  intro id
  have h : (mapped live).record id = (rec5 live).record id := by simp only [mapped, State.record]
  rw [h, rec5_record]
  split
  · simp [EndsLawful, End.lawful, live, ready, draft, endX, endY, entryExists, Record.freeRecord]
  · simp [EndsLawful, Record.freeRecord]

/-- The mapped record as the path rules leave it with no trunk usable. -/
def pathed : Record := { live with health := .faulted, selected := .none }

theorem mapped_record (r : Record) (id : RecId) : (mapped r).record id = if 5 = id then r else .freeRecord := by
  have h : (mapped r).record id = (rec5 r).record id := by simp only [mapped, State.record]
  rw [h, rec5_record]

theorem meets_PathLaw : PathLaw (mapped pathed) := by
  rintro id r rfl
  rw [mapped_record]
  split
  · refine ⟨fun _ => by decide, fun h => absurd h (by decide), fun _ k => ?_, fun h => absurd h (by decide)⟩
    cases k <;> decide +kernel
  · exact ⟨fun h => absurd h (by decide), fun _ => rfl, fun h => absurd h (by decide), fun _ => ⟨rfl, rfl, rfl⟩⟩

/-- The two entries of the mapped record. -/
def twoEntries : SlotMap := (SlotMap.vacant.write (.trib 1) 5 ⟨5, .x, 0⟩).write .trunk 40 ⟨5, .y, 0⟩
theorem twoEntries_entry : ∀ p : Port, ∀ n, n < p.size →
    twoEntries.entry p n = if p = .trib 1 ∧ n = 5 then some ⟨5, .x, 0⟩ else if p = .trunk ∧ n = 40 then some ⟨5, .y, 0⟩ else none := by
  have ht : ∀ (t : Idx8) (n : Fin 32), twoEntries.entry (.trib t) n.val = if t = 1 ∧ n.val = 5 then some ⟨5, .x, 0⟩ else none := by
    decide +kernel
  have hk : ∀ n : Fin 248, twoEntries.entry .trunk n.val = if n.val = 40 then some ⟨5, .y, 0⟩ else none := by decide +kernel
  intro p n h
  cases p with
  | trib t => simpa using ht t ⟨n, h⟩
  | trunk => simpa using hk ⟨n, h⟩

theorem meets_MapLaw : MapLaw (mapped live) := by
  refine ⟨fun id => ?_, fun p n e h => ?_, fun h => absurd h (by decide)⟩
  · rw [mapped_record]; split <;> trivial
  · have hm : (mapped live).ct.activeMap = twoEntries := rfl
    obtain ⟨o, sd, k⟩ := e
    rw [hm, twoEntries_entry p n h]
    simp only [mapped_record]
    by_cases ho : 5 = o
    · subst ho
      have hx : (live.mapEnds.get .x) = some endX := rfl
      have hy : (live.mapEnds.get .y) = some endY := rfl
      cases sd <;> cases k <;> cases p <;> simp [hx, hy, endX, endY] <;> grind
    · have hf : (Record.mapEnds .freeRecord).get sd = none := by cases sd <;> rfl
      simp only [if_neg ho, hf]
      constructor
      · intro hc; split at hc <;> (try split at hc) <;> simp_all
      · rintro ⟨_, hd, _⟩; simp at hd

end Sys2Proof.Tests
end

section
/-! SUPPORT. What every command but CURSOR, NEXT and the resets keeps of the circuit table: the cursor with its lock (R27),
and lawful ends (R3). One lemma for each operation, then one arm for each command. -/

namespace Sys2Proof.Machine

variable (s : State)

/-- Both pairs of ends of a record are lawful (R3). -/
def Record.EndsOk (r : Record) : Prop := EndsLawful r.ends ∧ EndsLawful r.stagedEnds

theorem endsLawful_none : EndsLawful ⟨none, none⟩ := by simp [EndsLawful]

theorem endsOk_freeRecord : Record.freeRecord.EndsOk := ⟨endsLawful_none, endsLawful_none⟩

/-- The cursor and its lock stand, and a record whose ends were lawful has lawful ends. -/
structure TableKept (s t : State) : Prop where
  cursor : t.ct.cursor = s.ct.cursor
  endLock : t.ct.endLock = s.ct.endLock
  ends : ∀ id, (s.record id).EndsOk → (t.record id).EndsOk

variable {s} in
theorem TableKept.of_ct {t : State} (h : t.ct = s.ct) : TableKept s t :=
  ⟨by rw [h], by rw [h], fun id hr => by unfold State.record at *; rwa [h]⟩

theorem TableKept.refl : TableKept s s := .of_ct rfl

variable {s} in
theorem TableKept.trans {t u : State} (h : TableKept s t) (k : TableKept t u) : TableKept s u :=
  ⟨k.cursor.trans h.cursor, k.endLock.trans h.endLock, fun id hr => k.ends id (h.ends id hr)⟩

/-- What follows an update that leaves the circuit table alone. -/
theorem TableKept.after {s t u : State} (k : TableKept t u) (h : t.ct = s.ct) : TableKept s u := .trans (.of_ct h) k

variable {s} in
theorem TableKept.ite {c : Prop} [Decidable c] {t u : State} (h : TableKept s t) (k : TableKept s u) :
    TableKept s (if c then t else u) := by
  split
  · exact h
  · exact k

theorem TableKept.foldl {α : Type} (g : State → α → State) (h : ∀ s a, TableKept s (g s a)) (l : List α) :
    TableKept s (l.foldl g s) := by
  induction l generalizing s with
  | nil => exact .refl s
  | cons a as ih => exact (h s a).trans (ih _)

/-! ### Operations that write records -/

theorem setRecord_kept (id : RecId) (r : Record) (h : (s.record id).EndsOk → r.EndsOk) : TableKept s (s.setRecord id r) := by
  refine ⟨rfl, rfl, fun j hj => ?_⟩
  rw [record_setRecord]
  split
  · rename_i e; exact h (e ▸ hj)
  · exact hj

theorem mapRecords_kept (f : RecId → Record → Record) (h : ∀ id r, r.EndsOk → (f id r).EndsOk) :
    TableKept s (s.mapRecords f) :=
  ⟨rfl, rfl, fun id hr => by rw [record_mapRecords]; exact h id _ hr⟩

theorem updateRecords_kept (f : RecId → Record → Record) (h : ∀ id r, r.EndsOk → (f id r).EndsOk) :
    TableKept s (s.updateRecords f) :=
  ⟨rfl, rfl, fun id hr => by rw [record_updateRecords]; exact h id _ hr⟩

theorem freeRecords_kept (gone : RecId → Bool) : TableKept s (s.freeRecords gone) := by
  refine ⟨rfl, rfl, fun id hr => ?_⟩
  rw [record_freeRecords]
  split
  · exact endsOk_freeRecord
  · exact hr

theorem writeRecord_kept (id : RecId) (r : Record) (b : Bool) (h : (s.record id).EndsOk → r.EndsOk) :
    TableKept s (s.writeRecord id r b) := (setRecord_kept s id r h).trans (.of_ct rfl)

/-! ### A record's own work leaves its ends -/

theorem refresh_endsOk {old new : Record} (h : new.EndsOk) : (old.refresh new).EndsOk := by
  unfold Record.refresh
  split
  · exact h
  · exact h

theorem withPath_endsOk {r : Record} (sel : PathSel) (h : r.EndsOk) : (r.withPath sel).EndsOk := by
  unfold Record.withPath
  split
  · exact h
  · exact h

theorem farReceipt_endsOk {r : Record} (turn : Bool) (res : Pair ReadResult) (h : r.EndsOk) :
    (r.farReceipt turn res).EndsOk := by
  unfold Record.farReceipt
  split
  · exact h
  · split
    · split
      · exact h
      · exact h
    · exact h

theorem readWork_endsOk {r : Record} (pos : Nat) (usable : Pair Bool) (res : Pair ReadResult) (h : r.EndsOk) :
    (r.readWork pos usable res).EndsOk := by
  unfold Record.readWork
  split
  · exact h
  · exact refresh_endsOk (farReceipt_endsOk _ _ (withPath_endsOk _ h))

theorem withFields_endsOk {r : Record} (f : Fields) (h : r.EndsOk) : (r.withFields f).EndsOk := by
  unfold Record.withFields
  split
  · exact h
  · exact h

/-- Applying a staged operation keeps the ends, installs the staged ones, or frees the record (R38). -/
theorem applyStaged_endsOk {r : Record} (h : r.EndsOk) : r.applyStaged.EndsOk := by
  unfold Record.applyStaged
  dsimp only
  split
  · exact h
  · exact ⟨h.1, endsLawful_none⟩
  · exact ⟨h.1, endsLawful_none⟩
  · exact ⟨h.1, endsLawful_none⟩
  · exact ⟨h.2, endsLawful_none⟩
  · split
    · exact endsOk_freeRecord
    · exact ⟨h.1, endsLawful_none⟩

theorem restartPath_endsOk {new : Record} (old : Record) (h : new.EndsOk) : (s.restartPath old new).EndsOk := by
  unfold State.restartPath
  dsimp only
  split
  · exact h
  · split
    · split
      · exact h
      · exact h
    · exact h

theorem flipRecord_endsOk {r : Record} (h : r.EndsOk) : (s.flipRecord r).EndsOk := by
  unfold State.flipRecord
  split
  · exact restartPath_endsOk s r (applyStaged_endsOk h)
  · exact h

/-! ### SET END writes lawful ends (R14, R17) -/

theorem nodup_of_noRepeat {l : List Nat} (h : noRepeat l = true) : l.Nodup := by
  induction l with
  | nil => exact .nil
  | cons n ns ih =>
    simp only [noRepeat, Bool.and_eq_true, Bool.not_eq_true', List.contains_eq_mem, decide_eq_false_iff_not] at h
    exact List.nodup_cons.2 ⟨h.1, ih h.2⟩

/-- What an end read from a command's bytes is: entries of its port, none twice. -/
theorem readEnd_some {port : Nat} {entries : List Byte} {new : End} (h : readEnd port entries = some new) :
    readPort port = some new.port ∧ new.list = entries.map BitVec.toNat ∧
      (∀ n ∈ new.list, entryExists new.port n = true) ∧ new.list.Nodup := by
  unfold readEnd at h
  cases hp : readPort port with
  | none => simp [hp] at h
  | some p =>
    simp only [hp, bind, Option.bind_some, Option.ite_none_right_eq_some, Bool.and_eq_true, Option.some.injEq] at h
    obtain ⟨⟨hall, hrep⟩, rfl⟩ := h
    exact ⟨rfl, rfl, List.all_eq_true.1 hall, nodup_of_noRepeat hrep⟩

theorem readEnd_lawful {port : Nat} {entries : List Byte} {new : End} (h : readEnd port entries = some new)
    (h1 : 1 ≤ entries.length) (h2 : entries.length ≤ 31) : new.lawful := by
  obtain ⟨-, hl, hex, hnd⟩ := readEnd_some h
  have hlen : new.list.length = entries.length := by rw [hl, List.length_map]
  exact ⟨hlen ▸ h1, hlen ▸ h2, hnd, hex⟩

@[simp] theorem writeEnd_get_self (p : Both (Option End)) (e : Side) (new : End) :
    (writeEnd p e new).get e = some new := by cases e <;> rfl

@[simp] theorem writeEnd_get_other (p : Both (Option End)) (e : Side) (new : End) :
    (writeEnd p e new).get (otherSide e) = (p.get (otherSide e)).filter fun o => o.list.length == new.list.length := by
  cases e <;> rfl

/-- A pair is lawful as seen from either of its ends. -/
theorem endsLawful_of_get {p : Both (Option End)} (e : Side) (h : ∀ d ∈ p.get e, d.lawful)
    (ho : ∀ d ∈ p.get (otherSide e), d.lawful)
    (hl : ∀ d ∈ p.get e, ∀ d' ∈ p.get (otherSide e), d'.list.length = d.list.length) : EndsLawful p := by
  cases e with
  | x => exact ⟨h, ho, fun d hd d' hd' => (hl d hd d' hd').symm⟩
  | y => exact ⟨ho, h, fun d' hd' d hd => hl d hd d' hd'⟩

theorem EndsLawful.get {p : Both (Option End)} (h : EndsLawful p) (e : Side) : ∀ d ∈ p.get e, d.lawful := by
  cases e with
  | x => exact h.1
  | y => exact h.2.1

/-- Writing one end keeps the pair lawful: the other end stays only at the same length (R17). -/
theorem writeEnd_lawful {p : Both (Option End)} {new : End} (e : Side) (h : EndsLawful p) (hn : new.lawful) :
    EndsLawful (writeEnd p e new) := by
  have other : ∀ d ∈ (writeEnd p e new).get (otherSide e), d ∈ p.get (otherSide e) ∧ d.list.length = new.list.length := by
    intro d hd
    simpa [Option.filter_eq_some_iff] using hd
  have named : ∀ d ∈ (writeEnd p e new).get e, d = new := fun d hd => by simpa using hd.symm
  exact endsLawful_of_get e (fun d hd => named d hd ▸ hn) (fun d hd => h.get _ d (other d hd).1)
    fun d hd d' hd' => named d hd ▸ (other d' hd').2

end Sys2Proof.Machine
end

section
/-! SUPPORT. The operations of the state, one after another, keep the cursor with its lock and lawful ends. -/

namespace Sys2Proof.Machine

variable (s : State)

/-! ### Operations that leave the circuit table alone -/

theorem raiseIf_ct (c : Bool) (n : Nat) : (s.raiseIf c n).ct = s.ct := by cases c <;> rfl

theorem stuReact_ct : s.stuReact.ct = s.ct := by rw [(stuReact_only s).eq]

theorem stuCount_ct : s.stuCount.ct = s.ct := by rw [(stuCount_only s).eq]

theorem stuStart_ct : s.stuStart.ct = s.ct := by
  unfold State.stuStart
  split
  · rfl
  · exact (stuReact_ct _).trans (stuCount_ct s)

theorem trunkFlags_ct (old : State) : (s.trunkFlags old).ct = s.ct := (raiseIf_ct _ _ _).trans (raiseIf_ct _ _ _)

theorem changeTrib_ct (n : Idx8) (p : Trib) : (s.changeTrib n p).ct = s.ct := (changeTrib_aside s n p).1

theorem refSeen_ct : s.refSeen.ct = s.ct := stuReact_ct _

theorem refSilent_ct : s.refSilent.ct = s.ct := by
  unfold State.refSilent
  split
  · split
    · exact stuReact_ct _
    · rfl
  · rfl

theorem arrive_ct (k : Trunk) (f : DFrame) (b : Bool) : (s.arrive k f b).ct = s.ct := by
  unfold State.arrive
  dsimp only
  split
  · rfl
  · rfl

theorem regainWindow_ct (k : Trunk) : (s.regainWindow k).ct = s.ct := rfl

/-! ### The path selector -/

theorem countSlips_kept (p : Port) : TableKept s (s.countSlips p) := by
  unfold State.countSlips
  refine mapRecords_kept s _ fun id r h => ?_
  split
  · exact h
  · exact h

theorem slipNotice_kept (p : Port) : TableKept s (s.slipNotice p) := (countSlips_kept s p).trans (.of_ct rfl)

theorem jump_kept (k : Trunk) : TableKept s (s.jump k) := by
  unfold State.jump
  exact (slipNotice_kept _ _).after rfl

theorem anchor_kept (k : Trunk) : TableKept s (s.anchor k) := by
  unfold State.anchor
  exact .ite ((jump_kept _ k).after rfl) (.of_ct rfl)

theorem reanchor_kept : TableKept s s.reanchor := by
  unfold State.reanchor
  exact .ite (.refl s) (.ite (anchor_kept s _) (.ite (anchor_kept s _) (.refl s)))

theorem deskewLeave_kept (k : Trunk) : TableKept s (s.deskewLeave k) := by
  unfold State.deskewLeave
  refine (mapRecords_kept _ _ ?_).after rfl
  exact fun _ _ h => h

theorem deskewEnter_kept (k : Trunk) : TableKept s (s.deskewEnter k) := by
  unfold State.deskewEnter
  exact .ite (.of_ct rfl) (anchor_kept s k)

theorem syncCopies_kept : TableKept s s.syncCopies := by
  unfold State.syncCopies
  refine updateRecords_kept s _ fun id r h => ?_
  split
  · exact refresh_endsOk h
  · exact h

theorem trunkSettle_kept (old : State) : TableKept s (s.trunkSettle old) := by
  unfold State.trunkSettle
  exact ((syncCopies_kept _).after (trunkFlags_ct s old)).trans (.of_ct (stuReact_ct _))

theorem loseWindow_kept (k : Trunk) : TableKept s (s.loseWindow k) := by
  unfold State.loseWindow
  dsimp only
  refine .trans ?_ (.of_ct (raise_ct _ _))
  exact .ite (.of_ct rfl) ((anchor_kept _ k).after rfl)

theorem applyRead_kept (k : Trunk) (res : ReadResult) : TableKept s (s.applyRead k res) := by
  unfold State.applyRead
  exact .ite ((loseWindow_kept _ k).after rfl) (.ite (.of_ct rfl) (.of_ct rfl))

theorem applyReads_kept (res : Pair ReadResult) : TableKept s (s.applyReads res) := by
  unfold State.applyReads
  exact .ite ((applyRead_kept s _ _).trans (applyRead_kept _ _ _)) ((applyRead_kept s _ _).trans (applyRead_kept _ _ _))

theorem psRead_kept (res : Pair ReadResult) : TableKept s (s.psRead res) := by
  unfold State.psRead
  exact (applyReads_kept s res).trans ((updateRecords_kept _ _ fun _ _ h => readWork_endsOk _ _ _ h).trans (.of_ct rfl))

/-! ### Ports -/

theorem changePort_kept (k : Trunk) (p : TrunkPort) : TableKept s (s.changePort k p) := by
  unfold State.changePort
  extract_lets left s1
  have h1 : TableKept s s1 := .of_ct rfl
  have h2 : TableKept s1 (if left then (s1.deskewLeave k).reanchor else s1) :=
    .ite ((deskewLeave_kept s1 k).trans (reanchor_kept _)) (.refl s1)
  exact h1.trans (h2.trans (trunkSettle_kept _ s))

theorem configureTrunks_kept (ea eb : Bool) (skew : Nat) (code : Byte) : TableKept s (s.configureTrunks ea eb skew code) := by
  have left (s : State) (k : Trunk) (b : Bool) : TableKept s (if b then s.deskewLeave k else s) :=
    .ite (deskewLeave_kept s k) (.refl s)
  have again (s : State) (b : Bool) : TableKept s (if b then s.reanchor else s) := .ite (reanchor_kept s) (.refl s)
  unfold State.configureTrunks
  extract_lets pa pb leaves s1 s2 s3
  have h1 : TableKept s s1 := .of_ct rfl
  exact h1.trans ((left s1 .a _).trans ((left s2 .b _).trans ((again s3 _).trans (trunkSettle_kept _ s))))

theorem frameReceived_kept (t : Idx8) (bits : List Bool) : TableKept s (s.frameReceived t bits) := by
  unfold State.frameReceived
  exact .ite ((slipNotice_kept _ _).after (changeTrib_ct s t _)) (.of_ct (changeTrib_ct s t _))

theorem handOn_kept (k : Trunk) (seq : Nat) (header payload : List Byte) (b : Bool) :
    TableKept s (s.handOn k seq header payload b) := by
  unfold State.handOn
  exact .of_ct (arrive_ct _ k _ b)

/-! ### The multiframe start and the station frame -/

theorem expire_kept (id : RecId) : TableKept s (s.expire id) := (freeRecords_kept s _).trans (.of_ct rfl)

theorem countdown_kept : TableKept s s.countdown := by
  unfold State.countdown
  refine (mapRecords_kept s _ fun id r h => ?_).trans (freeRecords_kept _ _)
  split
  · exact h
  · exact h

theorem installNext_kept : TableKept s s.installNext := ⟨rfl, rfl, fun _ h => h⟩

theorem flip_kept : TableKept s s.flip := by
  unfold State.flip
  exact (updateRecords_kept s _ fun _ _ h => flipRecord_endsOk s h).trans
    ((installNext_kept _).trans ((freeRecords_kept _ _).trans (.of_ct rfl)))

theorem multiframeStart_kept : TableKept s s.multiframeStart := by
  unfold State.multiframeStart
  exact ((countdown_kept _).after (stuStart_ct s)).trans (.of_ct rfl)

theorem newFrame_kept : TableKept s s.newFrame := by
  have start : TableKept s (if s.stu.begun then s else s.multiframeStart) := .ite (.refl s) (multiframeStart_kept s)
  have flip (s : State) : TableKept s (if s.flipDue then s.flip else s) := .ite (flip_kept s) (.refl s)
  unfold State.newFrame
  exact .ite (start.trans ((flip _).trans (.of_ct rfl))) (.of_ct rfl)

theorem opening_kept (inp : FrameIn) : TableKept s (s.opening inp) := by
  have slips (s : State) : TableKept s (s.repeating.foldl (fun s t => s.slipNotice (.trib t)) s) :=
    .foldl _ _ (fun s t => slipNotice_kept s (.trib t)) _
  unfold State.opening
  dsimp only
  refine .trans ?_ (newFrame_kept _)
  exact .ite ((slips s.flush).after rfl) (.of_ct rfl)

theorem xceWork_kept (res : Pair ReadResult) : TableKept s (s.xceWork res) := by
  have sources : TableKept s (s.writeSources res) := by
    unfold State.writeSources
    refine updateRecords_kept s _ fun id r h => ?_
    split
    · exact refresh_endsOk h
    · exact h
  exact sources.trans (.of_ct rfl)

theorem filled_kept (inp : FrameIn) : TableKept s (s.filled inp) := by
  have read := psRead_kept s s.reads
  have engine := xceWork_kept (s.psRead s.reads).keyerFrames.readStores s.reads
  unfold State.filled
  exact (read.trans (engine.after rfl)).trans (.foldl _ _ (fun s t => countSlips_kept s (.trib t)) _)

theorem foldl_restartDets_ct {α : Type} (p : α → Port) (l : List α) :
    (l.foldl (fun s a => s.restartDets (p a)) s).ct = s.ct := by
  induction l generalizing s with
  | nil => rfl
  | cons a as ih => exact ih _

theorem unitWork_ct (before : State) (res : Pair ReadResult) (repeats : List Idx8) (inp : FrameIn) :
    (s.unitWork before res repeats inp).ct = s.ct := by
  unfold State.unitWork
  split
  · exact foldl_restartDets_ct _ (fun p => p) _
  · exact foldl_restartDets_ct s _ repeats

theorem traffic_kept (inp : FrameIn) : TableKept s (s.traffic inp) := by
  unfold State.traffic
  exact (filled_kept s inp).trans (.of_ct (unitWork_ct _ _ _ _ _))

theorem judge_kept (inp : FrameIn) : TableKept s (s.judge inp) := by
  have ref (s : State) : TableKept s (if inp.refEdges then s.refSeen else s.refSilent) :=
    .ite (.of_ct (refSeen_ct s)) (.of_ct (refSilent_ct s))
  unfold State.judge
  extract_lets trib s1 s2 s3
  have h1 : TableKept s s1 := .foldl s trib (fun s t => .of_ct (changeTrib_ct s t _)) _
  exact h1.trans ((changePort_kept s1 _ _).trans ((changePort_kept s2 _ _).trans (ref s3)))

end Sys2Proof.Machine
end

section
/-! SUPPORT. The commands keep the cursor with its lock and lawful ends: one lemma for each command's own work, one arm for
each command. -/

namespace Sys2Proof.Machine

variable (s : State)

/-! ### Transactions -/

/-- A command's own work keeps the table in every state. -/
abbrev BodyKept (f : State → Code × State) : Prop := ∀ s, TableKept s (f s).2

theorem transact_kept {ps : List Byte} {exempt responds : Bool} {own : Option (State → Code × State)}
    (h : ∀ f, own = some f → BodyKept f) : TableKept s (transact ps exempt responds own s) := by
  obtain e | ⟨c, e⟩ | ⟨f, hf, e⟩ := transact_cases ps exempt responds own s
  · exact .of_ct (by rw [e]; rfl)
  · exact .of_ct (by rw [e]; rfl)
  · rw [e]; exact (h f hf s).trans (.of_ct rfl)

section
variable {ps : List Byte}

theorem noParam_kept {g : State → Code × State} (h : BodyKept g) : ∀ f, noParam ps g = some f → BodyKept f := by
  unfold noParam
  split
  · rintro _ ⟨⟩; exact h
  · simp

theorem oneParam_kept {g : Byte → State → Code × State} (h : ∀ a, BodyKept (g a)) :
    ∀ f, oneParam ps g = some f → BodyKept f := by
  unfold oneParam
  split
  · rintro _ ⟨⟩; exact h _
  · simp

theorem twoParams_kept {g : Byte → Byte → State → Code × State} (h : ∀ a b, BodyKept (g a b)) :
    ∀ f, twoParams ps g = some f → BodyKept f := by
  unfold twoParams
  split
  · rintro _ ⟨⟩; exact h _ _
  · simp

theorem threeParams_kept {g : Byte → Byte → Byte → State → Code × State} (h : ∀ a b c, BodyKept (g a b c)) :
    ∀ f, threeParams ps g = some f → BodyKept f := by
  unfold threeParams
  split
  · rintro _ ⟨⟩; exact h _ _ _
  · simp

theorem fourParams_kept {g : Byte → Byte → Byte → Byte → State → Code × State} (h : ∀ a b c d, BodyKept (g a b c d)) :
    ∀ f, fourParams ps g = some f → BodyKept f := by
  unfold fourParams
  split
  · rintro _ ⟨⟩; exact h _ _ _ _
  · simp

end

theorem ranged_kept {α : Type} (a : Option α) {f : α → State → Code × State} (h : ∀ v, BodyKept (f v)) :
    BodyKept (ranged a f) := by
  intro s
  unfold ranged
  split
  · exact .refl s
  · exact h _ s

theorem answering_kept (r : State → List Byte) : BodyKept (answering r) := fun _ => .of_ct rfl

/-! ### The command port and the lines -/

theorem nextAttentionBody_kept : BodyKept nextAttentionBody := fun s => .of_ct <| by
  unfold nextAttentionBody
  split
  · rfl
  · rfl

theorem setMaskBody_kept (a b c : Byte) : BodyKept (setMaskBody a b c) := fun s => .of_ct <| by
  unfold setMaskBody
  split
  · rfl
  · rfl

theorem clearAll_kept : TableKept s s.clearAll := by
  have records : TableKept s (s.mapRecords fun _ r => r.clearCounters) := by
    refine mapRecords_kept s _ ?_
    exact fun _ _ h => h
  exact records.trans (.of_ct rfl)

/-- The six kinds of CLEAR COUNTERS (R174). -/
theorem clearCountersBody_kept (kind index : Byte) : BodyKept (clearCountersBody kind index) := by
  intro s
  unfold clearCountersBody
  split
  · exact ranged_kept _ (fun _ _ => .of_ct rfl) s
  · exact ranged_kept _ (fun _ _ => .of_ct rfl) s
  · exact setRecord_kept s _ _ fun h => h
  · exact ranged_kept _ (fun _ _ => .of_ct rfl) s
  · exact ranged_kept _ (fun _ _ => .of_ct rfl) s
  · split
    · exact clearAll_kept s
    · exact .refl s
  · exact .refl s

theorem lineConfigBody_kept (a b c d : Byte) : BodyKept (lineConfigBody a b c d) := fun s => .of_ct <| by
  unfold lineConfigBody
  split
  · split
    · rfl
    · dsimp only
      split
      · rfl
      · rfl
  · rfl

theorem alarmMaskBody_kept (b : Byte) : BodyKept (alarmMaskBody b) := ranged_kept _ fun _ _ => .of_ct rfl

/-! ### The circuit table -/

theorem openBody_kept (idb cls : Byte) : BodyKept (openBody idb cls) := by
  intro s
  unfold openBody
  dsimp only
  split
  · exact .refl s
  · exact ranged_kept _ (fun _ s => writeRecord_kept s _ _ _ fun _ => ⟨endsLawful_none, endsLawful_none⟩) s

theorem discardBody_kept (idb : Byte) : BodyKept (discardBody idb) := by
  intro s
  unfold discardBody
  dsimp only
  split
  · exact .refl s
  · exact freeRecords_kept s _

theorem editedEnds_lawful {r : Record} (h : r.EndsOk) : EndsLawful r.editedEnds := by
  unfold Record.editedEnds
  split
  · exact h.1
  · split
    · exact h.2
    · exact h.1

theorem setEndBody_kept (idb endb port : Byte) {entries : List Byte} (h1 : 1 ≤ entries.length) (h2 : entries.length ≤ 31) :
    BodyKept (setEndBody idb endb port entries) := by
  intro s
  unfold setEndBody
  dsimp only
  split
  · exact .refl s
  · split
    · rename_i e new _ hnew
      have ends (h : (s.record (readId idb)).EndsOk) : EndsLawful (writeEnd (s.record (readId idb)).editedEnds e new) :=
        writeEnd_lawful e (editedEnds_lawful h) (readEnd_lawful hnew h1 h2)
      split
      · exact .refl s
      · split
        · exact writeRecord_kept s _ _ _ fun h => ⟨ends h, h.2⟩
        · split
          · exact .refl s
          · exact setRecord_kept s _ _ fun h => ⟨h.1, ends h⟩
    · exact .refl s

/-- SET END's byte count gives 1 to 31 entries (R14). -/
theorem setEndShape_some {ps : List Byte} {x : Byte × Byte × Byte × List Byte} (h : setEndShape ps = some x) :
    1 ≤ x.2.2.2.length ∧ x.2.2.2.length ≤ 31 := by
  unfold setEndShape at h
  split at h
  · simp only [Option.ite_none_right_eq_some, Option.some.injEq] at h
    obtain ⟨⟨h1, h2, hl⟩, rfl⟩ := h
    exact ⟨hl ▸ h1, hl ▸ h2⟩
  · cases h

theorem setFieldBody_kept (a b c d : Byte) : BodyKept (setFieldBody a b c d) := by
  intro s
  unfold setFieldBody
  dsimp only
  split
  · exact .refl s
  split
  · exact .refl s
  split
  · split
    · exact .refl s
    split
    · exact .refl s
    split
    · exact .refl s
    · exact setRecord_kept s _ _ fun h => h
  · split
    · exact .refl s
    · exact setRecord_kept s _ _ fun h => withFields_endsOk _ h

theorem activateBody_kept (idb : Byte) : BodyKept (activateBody idb) := by
  intro s
  unfold activateBody
  dsimp only
  split
  · exact .refl s
  split
  · exact .refl s
  split
  · exact .refl s
  split
  · exact .refl s
  · exact setRecord_kept s _ _ fun h => h

theorem stageBody_kept (op : StagedOp) (allowed : RecState → Bool) (idb : Byte) : BodyKept (stageBody op allowed idb) := by
  intro s
  unfold stageBody
  dsimp only
  split
  · exact .refl s
  split
  · exact .refl s
  · exact setRecord_kept s _ _ fun h => h

theorem revokeBody_kept (idb : Byte) : BodyKept (revokeBody idb) := by
  intro s
  unfold revokeBody
  dsimp only
  split
  · exact .refl s
  split
  · exact .refl s
  · exact setRecord_kept s _ _ fun h => ⟨h.1, endsLawful_none⟩

theorem commitBody_kept : BodyKept commitBody := by
  intro s
  unfold commitBody
  split
  · exact .refl s
  split
  · exact .of_ct rfl
  · exact ⟨rfl, rfl, fun _ h => h⟩

theorem abortBody_kept : BodyKept abortBody := by
  intro s
  unfold abortBody
  split
  · exact ⟨rfl, rfl, fun _ h => h⟩
  · exact .refl s

theorem mapQueryBody_kept (a b : Byte) : BodyKept (mapQueryBody a b) := by
  intro s
  unfold mapQueryBody
  split
  · exact .refl s
  split
  · exact answering_kept _ s
  · exact .refl s

/-! ### Ports and station timing -/

theorem tribConfigBody_kept (t : Byte) (c : Option TribConfig) : BodyKept (tribConfigBody t c) := fun s => .of_ct <| by
  unfold tribConfigBody
  split
  · split
    · rfl
    split
    · rfl
    · exact changeTrib_ct s _ _
  · rfl

theorem tribConfigShape_kept (ps : List Byte) : ∀ f, tribConfigShape ps = some f → BodyKept f := by
  unfold tribConfigShape
  split
  · rintro _ ⟨⟩; exact tribConfigBody_kept _ _
  · simp

theorem timingConfigure_kept (a b : Byte) (l : List Byte) : BodyKept (timingConfigure a b l) := fun s => .of_ct <| by
  unfold timingConfigure
  split
  · split
    · rfl
    · exact stuReact_ct _
  · rfl

theorem trunkConfigBody_kept (a b c d : Byte) : BodyKept (trunkConfigBody a b c d) := by
  intro s
  unfold trunkConfigBody
  split
  · split
    · exact .refl s
    · exact configureTrunks_kept s _ _ _ _
  · exact .refl s

theorem recentreBody_kept (b : Byte) : BodyKept (recentreBody b) := ranged_kept _ fun k s => by
  split
  · exact .refl s
  · have jumped : TableKept s ((s.setDeskew k .anchored).jump k) := (jump_kept _ k).after rfl
    exact jumped.trans (trunkSettle_kept _ s)

/-! ### Units -/

theorem detBindBody_kept (a b c : Byte) : BodyKept (detBindBody a b c) := fun s => .of_ct <| by
  unfold detBindBody
  split
  · dsimp only
    split
    · rfl
    · rfl
  · rfl

theorem detUnbindBody_kept (b : Byte) : BodyKept (detUnbindBody b) := ranged_kept _ fun d s => .of_ct <| by
  split
  · rfl
  · rfl
  · rfl
  · rfl

theorem detConfigBody_kept (b : Byte) (c : Option DetConfig) : BodyKept (detConfigBody b c) := fun s => .of_ct <| by
  unfold detConfigBody
  split
  · split
    · rfl
    · rfl
    · rfl
    · rfl
  · rfl

theorem detConfigShape_kept (ps : List Byte) : ∀ f, detConfigShape ps = some f → BodyKept f := by
  unfold detConfigShape
  split
  · rintro _ ⟨⟩; exact detConfigBody_kept _ _
  · simp

theorem keyBindBody_kept (a b c : Byte) : BodyKept (keyBindBody a b c) := fun s => .of_ct <| by
  unfold keyBindBody
  split
  · dsimp only
    split
    · rfl
    · rfl
  · rfl

theorem keyUnbindBody_kept (b : Byte) : BodyKept (keyUnbindBody b) := ranged_kept _ fun k s => .of_ct <| by
  split
  · rfl
  · rfl
  · rfl
  · rfl

theorem keyConfigBody_kept (b : Byte) (c : Option KeyConfig) : BodyKept (keyConfigBody b c) := fun s => .of_ct <| by
  unfold keyConfigBody
  split
  · split
    · rfl
    · rfl
    · rfl
  · rfl

theorem keyConfigShape_kept (ps : List Byte) : ∀ f, keyConfigShape ps = some f → BodyKept f := by
  unfold keyConfigShape
  split
  · rintro _ ⟨⟩; exact keyConfigBody_kept _ _
  · simp

theorem keyTestBody_kept (a b c : Byte) : BodyKept (keyTestBody a b c) := ranged_kept _ fun k s => .of_ct <| by
  dsimp only
  split
  · rfl
  split
  · rfl
  split
  · rfl
  · rfl

/-! ### Events -/

variable {s} in
/-- An event that is due or changes nothing. -/
theorem TableKept.due {c : Prop} [Decidable c] {t : State} (h : TableKept s t) : TableKept s (if c then t else s) :=
  h.ite (.refl s)

theorem takeHanded_ct (n : Idx8) : (s.takeHanded n).ct = s.ct := rfl

theorem takeKeyer_ct (n : Idx8) : (s.takeKeyer n).ct = s.ct := rfl

/-- The command is none of those that set the cursor: CURSOR, NEXT and the two resets (R27, R168, R169). -/
def LeavesCursor (c : Instr) : Prop := (∀ ps, c ≠ .cursor ps ∧ c ≠ .nextRecord ps ∧ c ≠ .softReset ps) ∧ c ≠ .hardwareReset

/-- Every command but CURSOR, NEXT and the resets keeps the cursor with its lock, and lawful ends. -/
theorem exec_kept (c : Instr) (hc : LeavesCursor c) : ∃ t, exec c s = .next t ∧ TableKept s t := by
  obtain ⟨hserial, hreset⟩ := hc
  cases c with
  | cursor ps => exact absurd rfl (hserial ps).1
  | nextRecord ps => exact absurd rfl (hserial ps).2.1
  | softReset ps => exact absurd rfl (hserial ps).2.2
  | hardwareReset => exact absurd rfl hreset
  | transactionStart =>
    refine ⟨_, rfl, .of_ct ?_⟩
    split
    · split
      · rfl
      · rfl
    · rfl
  | emptyTransaction => exact ⟨_, rfl, .of_ct rfl⟩
  | unknownCommand code ps => exact ⟨_, rfl, .ite (.refl s) (.ite (.of_ct rfl) (.of_ct rfl))⟩
  | fetch ps => exact ⟨_, rfl, .ite (.of_ct rfl) (.of_ct rfl)⟩
  | nop ps => exact ⟨_, rfl, transact_kept s (noParam_kept .refl)⟩
  | readFlags ps => exact ⟨_, rfl, transact_kept s (noParam_kept fun _ => .of_ct rfl)⟩
  | nextAttention ps => exact ⟨_, rfl, transact_kept s (noParam_kept nextAttentionBody_kept)⟩
  | setMask ps => exact ⟨_, rfl, transact_kept s (threeParams_kept setMaskBody_kept)⟩
  | clearCounters ps => exact ⟨_, rfl, transact_kept s (twoParams_kept clearCountersBody_kept)⟩
  | openRecord ps => exact ⟨_, rfl, transact_kept s (twoParams_kept openBody_kept)⟩
  | discard ps => exact ⟨_, rfl, transact_kept s (oneParam_kept discardBody_kept)⟩
  | setEnd ps =>
    refine ⟨_, rfl, transact_kept s fun f hf => ?_⟩
    obtain ⟨x, hx, rfl⟩ := Option.map_eq_some_iff.1 hf
    obtain ⟨h1, h2⟩ := setEndShape_some hx
    exact setEndBody_kept _ _ _ h1 h2
  | setField ps => exact ⟨_, rfl, transact_kept s (fourParams_kept setFieldBody_kept)⟩
  | activate ps => exact ⟨_, rfl, transact_kept s (oneParam_kept activateBody_kept)⟩
  | suspend ps => exact ⟨_, rfl, transact_kept s (oneParam_kept (stageBody_kept _ _))⟩
  | resume ps => exact ⟨_, rfl, transact_kept s (oneParam_kept (stageBody_kept _ _))⟩
  | retire ps => exact ⟨_, rfl, transact_kept s (oneParam_kept (stageBody_kept _ _))⟩
  | revoke ps => exact ⟨_, rfl, transact_kept s (oneParam_kept revokeBody_kept)⟩
  | query ps => exact ⟨_, rfl, transact_kept s (oneParam_kept fun _ => answering_kept _)⟩
  | queryStaged ps => exact ⟨_, rfl, transact_kept s (oneParam_kept fun _ => answering_kept _)⟩
  | commit ps => exact ⟨_, rfl, transact_kept s (noParam_kept commitBody_kept)⟩
  | abortCommit ps => exact ⟨_, rfl, transact_kept s (noParam_kept abortBody_kept)⟩
  | mapQuery ps => exact ⟨_, rfl, transact_kept s (twoParams_kept mapQueryBody_kept)⟩
  | tribConfig ps => exact ⟨_, rfl, transact_kept s (tribConfigShape_kept ps)⟩
  | tribStatus ps => exact ⟨_, rfl, transact_kept s (oneParam_kept fun _ => ranged_kept _ fun _ => answering_kept _)⟩
  | timingConfig ps =>
    refine ⟨_, rfl, transact_kept s fun f hf => ?_⟩
    obtain ⟨x, -, rfl⟩ := Option.map_eq_some_iff.1 hf
    exact timingConfigure_kept _ _ _
  | timingStatus ps => exact ⟨_, rfl, transact_kept s (noParam_kept (answering_kept _))⟩
  | trunkConfig ps => exact ⟨_, rfl, transact_kept s (fourParams_kept trunkConfigBody_kept)⟩
  | trunkStatus ps => exact ⟨_, rfl, transact_kept s (oneParam_kept fun _ => ranged_kept _ fun _ => answering_kept _)⟩
  | recentre ps => exact ⟨_, rfl, transact_kept s (oneParam_kept recentreBody_kept)⟩
  | detBind ps => exact ⟨_, rfl, transact_kept s (threeParams_kept detBindBody_kept)⟩
  | detUnbind ps => exact ⟨_, rfl, transact_kept s (oneParam_kept detUnbindBody_kept)⟩
  | detConfig ps => exact ⟨_, rfl, transact_kept s (detConfigShape_kept ps)⟩
  | detStatus ps => exact ⟨_, rfl, transact_kept s (oneParam_kept fun _ => ranged_kept _ fun _ => answering_kept _)⟩
  | keyBind ps => exact ⟨_, rfl, transact_kept s (threeParams_kept keyBindBody_kept)⟩
  | keyUnbind ps => exact ⟨_, rfl, transact_kept s (oneParam_kept keyUnbindBody_kept)⟩
  | keyConfig ps => exact ⟨_, rfl, transact_kept s (keyConfigShape_kept ps)⟩
  | keyTest ps => exact ⟨_, rfl, transact_kept s (threeParams_kept keyTestBody_kept)⟩
  | keyStatus ps => exact ⟨_, rfl, transact_kept s (oneParam_kept fun _ => ranged_kept _ fun _ => answering_kept _)⟩
  | lineConfig ps => exact ⟨_, rfl, transact_kept s (fourParams_kept lineConfigBody_kept)⟩
  | lineWrite ps => exact ⟨_, rfl, transact_kept s (oneParam_kept fun _ _ => .of_ct rfl)⟩
  | lineRead ps => exact ⟨_, rfl, transact_kept s (noParam_kept (answering_kept _))⟩
  | alarmMask ps => exact ⟨_, rfl, transact_kept s (oneParam_kept alarmMaskBody_kept)⟩
  | resetRelease => exact ⟨_, rfl, .of_ct rfl⟩
  | stationFrame inp =>
    exact ⟨_, rfl, .ite (.refl s) ((opening_kept s inp).trans ((traffic_kept _ inp).trans (judge_kept _ inp)))⟩
  | stationMultiframeStart => exact ⟨_, rfl, .due (multiframeStart_kept s)⟩
  | mapFlip => exact ⟨_, rfl, .due (flip_kept s)⟩
  | retireHoldExpiry id => exact ⟨_, rfl, .due (expire_kept s id)⟩
  | tribClockLoss t => exact ⟨_, rfl, .due (.of_ct (changeTrib_ct s t _))⟩
  | tribCandidateFound t bits =>
    refine ⟨_, rfl, ?_⟩
    split
    · exact .due (.of_ct (changeTrib_ct s t _))
    · exact .refl s
  | tribAlignmentConfirmed t bits => exact ⟨_, rfl, .due (.of_ct (changeTrib_ct s t _))⟩
  | tribConfirmationFailed t bits => exact ⟨_, rfl, .due (.of_ct (changeTrib_ct s t _))⟩
  | tribFrameReceived t bits => exact ⟨_, rfl, .due (frameReceived_kept s t bits)⟩
  | tribAlignmentLoss t bits => exact ⟨_, rfl, .due (.of_ct (changeTrib_ct s t _))⟩
  | aisWindowEnd t bits => exact ⟨_, rfl, .due (.of_ct (changeTrib_ct s t _))⟩
  | tribRemoteAlarmChange t bits => exact ⟨_, rfl, .due (frameReceived_kept s t bits)⟩
  | mfAlignmentLoss t bits => exact ⟨_, rfl, .due (frameReceived_kept s t bits)⟩
  | tribTransmitFrame t => exact ⟨_, rfl, .due (.of_ct rfl)⟩
  | refActivityLoss => exact ⟨_, rfl, .due (.of_ct (refSilent_ct s))⟩
  | acquisitionComplete => exact ⟨_, rfl, .due (.of_ct (stuStart_ct s))⟩
  | holdoverExpiry => exact ⟨_, rfl, .due (.of_ct (stuStart_ct s))⟩
  | wtrExpiry => exact ⟨_, rfl, .due (.of_ct (stuStart_ct s))⟩
  | trunkClockLoss k => exact ⟨_, rfl, .due (changePort_kept s k _)⟩
  | trunkCandidateFound k bits =>
    refine ⟨_, rfl, ?_⟩
    split
    · exact .due (changePort_kept s k _)
    · exact .refl s
  | trunkAlignmentConfirmed k bits overhead =>
    exact ⟨_, rfl, .due (((deskewEnter_kept _ k).after (setPort_ct s k _)).trans (trunkSettle_kept _ s))⟩
  | trunkConfirmationFailed k bits => exact ⟨_, rfl, .due (changePort_kept s k _)⟩
  | trunkFrameJudged k header => exact ⟨_, rfl, .due (changePort_kept s k _)⟩
  | trunkAlignmentLoss k word seq => exact ⟨_, rfl, .due (changePort_kept s k _)⟩
  | trunkFrameHandedOn k payload b =>
    refine ⟨_, rfl, ?_⟩
    split
    · exact .due (handOn_kept s k _ _ _ _)
    · exact .refl s
  | windowLoss k => exact ⟨_, rfl, .due ((loseWindow_kept s k).trans (syncCopies_kept _))⟩
  | windowReturn k => exact ⟨_, rfl, .due ((syncCopies_kept _).after (regainWindow_ct s k))⟩
  | anchorFrameArrival k payload b =>
    refine ⟨_, rfl, ?_⟩
    split
    · exact .due (handOn_kept s k _ _ _ _)
    · exact .refl s
  | detectorUnblock d => exact ⟨_, rfl, .due (.of_ct (takeHanded_ct s d))⟩
  | detectorCommandRecognised d => exact ⟨_, rfl, .due (.of_ct (takeHanded_ct s d))⟩
  | detectorRelease d => exact ⟨_, rfl, .due (.of_ct (takeHanded_ct s d))⟩
  | trailExpiry d => exact ⟨_, rfl, .due (.of_ct (takeHanded_ct s d))⟩
  | detectorUnavailable d => exact ⟨_, rfl, .due (.of_ct (takeHanded_ct s d))⟩
  | lineRequestQualified k => exact ⟨_, rfl, .due (.of_ct (takeKeyer_ct s k))⟩
  | keyerCommandEnd k => exact ⟨_, rfl, .due (.of_ct (takeKeyer_ct s k))⟩
  | lockoutExpiry k => exact ⟨_, rfl, .due (.of_ct (takeKeyer_ct s k))⟩
  | testRemainderExpiry k => exact ⟨_, rfl, .due (.of_ct (takeKeyer_ct s k))⟩
  | lineLevelChange n w => exact ⟨_, rfl, .of_ct (raiseIf_ct _ _ _)⟩

end Sys2Proof.Machine
end

section
/-! Lawful ends at every step (R3), and who sets the cursor (R27). -/

namespace Sys2Proof.Machine

variable (s : State)

/-- The commands that set the cursor. -/
theorem leavesCursor_or (c : Instr) :
    LeavesCursor c ∨ (∃ ps, c = .cursor ps) ∨ (∃ ps, c = .nextRecord ps) ∨ (∃ ps, c = .softReset ps) ∨ c = .hardwareReset := by
  unfold LeavesCursor
  grind

variable {s} in
theorem endsLaw_of_records {t : State} (h : t.ct.records = s.ct.records) (hs : EndsLaw s) : EndsLaw t := fun id => by
  have hr : t.record id = s.record id := congrArg (Vector.get · id) h
  exact hr ▸ hs id

variable {s} in
/-- Every record is FREE in a table that has been reset. -/
theorem record_of_ct_reset (h : s.ct = .reset) (id : RecId) : s.record id = .freeRecord := by
  unfold State.record
  rw [h]
  exact Vector.getElem_replicate _

variable {s} in
theorem endsLaw_of_ct_reset (h : s.ct = .reset) : EndsLaw s := fun id => by
  rw [record_of_ct_reset h]
  exact endsOk_freeRecord

/-- NEXT answers, and touches nothing of the table but the cursor and its lock (R28). -/
theorem nextRecordBody_records : (nextRecordBody s).2.ct.records = s.ct.records := by
  unfold nextRecordBody
  dsimp only
  split
  · rfl
  split
  · rfl
  · rfl
  · rfl

theorem softResetBody_ct : (softResetBody s).2.ct = .reset := stuReact_ct _

variable {s} in
theorem transact_endsLaw {ps : List Byte} {exempt responds : Bool} {own : Option (State → Code × State)} (hs : EndsLaw s)
    (h : ∀ f, own = some f → EndsLaw (f s).2) : EndsLaw (transact ps exempt responds own s) := by
  obtain e | ⟨c, e⟩ | ⟨f, hf, e⟩ := transact_cases ps exempt responds own s
  · rw [e]; exact hs
  · rw [e]; exact hs
  · rw [e]; exact h f hf

/-- Every command keeps lawful ends: the resets free every record, and CURSOR and NEXT touch none (R3, R9, R27, R28). -/
theorem exec_endsLaw (c : Instr) (hs : EndsLaw s) : ∃ t, exec c s = .next t ∧ EndsLaw t := by
  obtain hc | ⟨ps, rfl⟩ | ⟨ps, rfl⟩ | ⟨ps, rfl⟩ | rfl := leavesCursor_or c
  · obtain ⟨t, ht, k⟩ := exec_kept s c hc
    exact ⟨t, ht, fun id => k.ends id (hs id)⟩
  · refine ⟨_, rfl, transact_endsLaw hs fun f hf => ?_⟩
    unfold oneParam at hf
    split at hf
    · cases hf; exact hs
    · cases hf
  · refine ⟨_, rfl, transact_endsLaw hs fun f hf => ?_⟩
    unfold noParam at hf
    split at hf
    · cases hf; exact endsLaw_of_records (nextRecordBody_records s) hs
    · cases hf
  · refine ⟨_, rfl, transact_endsLaw hs fun f hf => ?_⟩
    split at hf
    · cases hf; exact endsLaw_of_ct_reset (softResetBody_ct s)
    · cases hf
  · exact ⟨_, rfl, endsLaw_of_ct_reset rfl⟩

/-- Settles O59: each command keeps the ends lawful, and a step runs one command. -/
theorem stepKeepsEndsLawful : Obligations.StepKeepsEndsLawful := by
  intro s t hs h
  unfold step at h
  split at h
  · obtain rfl := Host.Outcome.next.inj h
    exact hs
  · rename_i c rest _
    obtain ⟨u, hu, hl⟩ := exec_endsLaw { s with pending := rest } c hs
    rw [hu] at h
    exact Host.Outcome.next.inj h ▸ hl

/-! ### The cursor (R27) -/

theorem exec_cursor (h : Runs s) (id : Byte) :
    exec (.cursor [id]) s =
      .next (ran [id] (fun s => (.ok, { s with ct := { s.ct with cursor := readId id, endLock := false } })) s) :=
  congrArg Host.Outcome.next (transact_exempt h)

theorem exec_softReset (h : Clear s) : exec (.softReset []) s = .next (ran [] softResetBody s) :=
  congrArg Host.Outcome.next (transact_clear h)

/-- Settles O22: CURSOR and the resets by what they write, every other command by `exec_kept`. -/
theorem cursorSetsPosition : Obligations.CursorSetsPosition := by
  refine ⟨fun s id h => ⟨_, exec_cursor s h id, rfl, rfl⟩, fun s t h => ?_, fun s t hs h => ?_, fun c s t h1 h2 h => ?_⟩
  · obtain rfl := Host.Outcome.next.inj h
    exact ⟨rfl, rfl⟩
  · rw [exec_softReset s hs] at h
    obtain rfl := Host.Outcome.next.inj h
    have e : (ran [] softResetBody s).ct = .reset := softResetBody_ct s
    exact ⟨by rw [e]; rfl, by rw [e]; rfl⟩
  · obtain ⟨u, hu, k⟩ := exec_kept s c ⟨h1, h2⟩
    rw [hu] at h
    obtain rfl := Host.Outcome.next.inj h
    exact ⟨k.cursor, k.endLock⟩

end Sys2Proof.Machine
end

section
/-! SUPPORT. What a transaction leaves when its command is refused, and when it writes one record (R10, R164). -/

namespace Sys2Proof.Machine

variable {s : State} {ps : List Byte} {f : State → Code × State}

/-! ### A refusal by the command's own check -/

/-- A refused command changes nothing but LAST and the end of the transaction. -/
theorem ran_refusal {c : Code} (h : f s = (c, s)) :
    Ended s (ran ps f s) ps.length c s.cp.response ∧ ran ps f s = { s with cp := (ran ps f s).cp } := by
  rw [ran_refused h]
  exact ⟨rfl, rfl⟩

theorem ran_last : (ran ps f s).cp.last = (f s).1 := rfl

theorem ran_response : (ran ps f s).cp.response = (f s).2.cp.response := rfl

theorem ran_last_of {c : Code} {t : State} (h : f s = (c, t)) : (ran ps f s).cp.last = c := by rw [ran_last, h]

theorem last_of_ended {t : State} {n : Nat} {c : Code} {response : Option (List Byte)} (h : Ended s t n c response) :
    t.cp.last = c := by rw [h]

/-- A command's work is taken, or refused with nothing changed. -/
abbrev OkOrRefused (s : State) (v : Code × State) : Prop := v.1 = .ok ∨ v.2 = s

theorem ran_of_not_ok (h : OkOrRefused s (f s)) (hn : (ran ps f s).cp.last ≠ .ok) :
    Ended s (ran ps f s) ps.length (ran ps f s).cp.last s.cp.response ∧ ran ps f s = { s with cp := (ran ps f s).cp } := by
  have e : f s = ((f s).1, s) := Prod.ext rfl (h.resolve_left hn)
  exact ran_refusal e

/-! ### A taken command that writes one record -/

variable {id : RecId} {r : Record}

/-- A record written, and nothing posted. -/
theorem ran_setRecord (h : f s = (.ok, s.setRecord id r)) :
    Ended s (ran ps f s) ps.length .ok s.cp.response ∧ (ran ps f s).record id = r ∧
      (∀ j, j ≠ id → (ran ps f s).record j = s.record j) ∧
      ran ps f s = { s with cp := (ran ps f s).cp, ct := { s.ct with records := (ran ps f s).ct.records } } := by
  rw [ran_of h]
  exact ⟨rfl, record_setRecord_self s id r, fun j hj => (record_setRecord s id j r).trans (if_neg (Ne.symm hj)), rfl⟩

/-- One id posted by an attention enable (R10, R170). -/
theorem post_if_au (s : State) (id : RecId) (b : Bool) : (s.post (if b then [id] else [])).au = { s.au with queue :=
    if b = true ∧ id ∉ s.au.queue then s.au.queue ++ [id] else s.au.queue } := by
  cases b with
  | false => simp [post_nil]
  | true => simp [post_single]

/-- A record written and posted by an attention enable (R10). -/
theorem ran_writeRecord {b : Bool} (h : f s = (.ok, s.writeRecord id r b)) :
    Ended s (ran ps f s) ps.length .ok s.cp.response ∧ (ran ps f s).record id = r ∧
      (∀ j, j ≠ id → (ran ps f s).record j = s.record j) ∧
      (ran ps f s).au = { s.au with queue := if b = true ∧ id ∉ s.au.queue then s.au.queue ++ [id] else s.au.queue } ∧
      ran ps f s = { s with
        cp := (ran ps f s).cp, au := (ran ps f s).au, ct := { s.ct with records := (ran ps f s).ct.records } } := by
  rw [ran_of h]
  exact ⟨rfl, record_setRecord_self s id r, fun j hj => (record_setRecord s id j r).trans (if_neg (Ne.symm hj)),
    post_if_au _ id b, rfl⟩

/-- SET END's count byte is the number of its entries (R14). -/
theorem setEndShape_count (a b c : Byte) {entries : List Byte} (h1 : 1 ≤ entries.length) (h2 : entries.length ≤ 31) :
    setEndShape (a :: b :: c :: byte entries.length :: entries) = some (a, b, c, entries) := by
  have hc : (byte entries.length).toNat = entries.length := by
    rw [byte, BitVec.toNat_ofNat]
    omega
  simp [setEndShape, hc, h1, h2]

/-! ### The commands on one record, in a state that is Clear -/

variable (h : Clear s)
include h

theorem exec_openRecord (a b : Byte) : exec (.openRecord [a, b]) s = .next (ran [a, b] (openBody a b) s) :=
  congrArg Host.Outcome.next (transact_clear h)

theorem exec_discard (a : Byte) : exec (.discard [a]) s = .next (ran [a] (discardBody a) s) :=
  congrArg Host.Outcome.next (transact_clear h)

theorem exec_setField (a b c d : Byte) :
    exec (.setField [a, b, c, d]) s = .next (ran [a, b, c, d] (setFieldBody a b c d) s) :=
  congrArg Host.Outcome.next (transact_clear h)

theorem exec_activate (a : Byte) : exec (.activate [a]) s = .next (ran [a] (activateBody a) s) :=
  congrArg Host.Outcome.next (transact_clear h)

theorem exec_suspend (a : Byte) :
    exec (.suspend [a]) s = .next (ran [a] (stageBody .suspend (fun st => decide (st = .active)) a) s) :=
  congrArg Host.Outcome.next (transact_clear h)

theorem exec_resume (a : Byte) :
    exec (.resume [a]) s = .next (ran [a] (stageBody .resume (fun st => decide (st = .suspended)) a) s) :=
  congrArg Host.Outcome.next (transact_clear h)

theorem exec_retire (a : Byte) : exec (.retire [a]) s =
    .next (ran [a] (stageBody .retire (fun st => decide (st = .active ∨ st = .suspended)) a) s) :=
  congrArg Host.Outcome.next (transact_clear h)

theorem exec_revoke (a : Byte) : exec (.revoke [a]) s = .next (ran [a] (revokeBody a) s) :=
  congrArg Host.Outcome.next (transact_clear h)

theorem exec_setEnd (a b c : Byte) {entries : List Byte} (h1 : 1 ≤ entries.length) (h2 : entries.length ≤ 31) :
    exec (.setEnd (a :: b :: c :: byte entries.length :: entries)) s =
      .next (ran (a :: b :: c :: byte entries.length :: entries) (setEndBody a b c entries) s) := by
  refine congrArg Host.Outcome.next ?_
  rw [setEndShape_count a b c h1 h2]
  exact transact_clear h

end Sys2Proof.Machine
end

section
/-! The commands on a circuit record: OPEN, ACTIVATE, SUSPEND, RESUME, RETIRE, REVOKE (R12, R20 to R24). -/

namespace Sys2Proof.Machine

variable {s : State} {id : Byte}

/-! ### OPEN (R12) -/

theorem readClass_eq_none {n : Nat} (h : 2 < n) : readClass n = none := by
  unfold readClass
  split
  · omega
  · omega
  · omega
  · rfl

theorem openBody_state (cls : Byte) (h : (s.record (readId id)).state ≠ .free) : openBody id cls s = (.state, s) := if_pos h

theorem openBody_range {cls : Byte} (h : (s.record (readId id)).state = .free) (hc : readClass cls.toNat = none) :
    openBody id cls s = (.range, s) := by simp [openBody, h, ranged, hc]

theorem openBody_ok {cls : Byte} {k : RecClass} (h : (s.record (readId id)).state = .free) (hc : readClass cls.toNat = some k) :
    openBody id cls s = (.ok, s.writeRecord (readId id) { Record.freeRecord with state := .draft, cls := k } true) := by
  simp [openBody, h, ranged, hc]

/-- Settles O14: the two refusals, and the record written and posted. -/
theorem openTakesFreeRecordIntoDraft : Obligations.OpenTakesFreeRecordIntoDraft := by
  intro s id cls hs
  refine ⟨_, exec_openRecord hs id cls, fun h => ?_, fun h hc => ?_, fun k h hc => ?_⟩
  · exact ran_refusal (openBody_state cls h)
  · exact ran_refusal (openBody_range h (readClass_eq_none hc))
  · obtain ⟨he, hr, hj, -, hf⟩ := ran_writeRecord (ps := [id, cls]) (openBody_ok h hc)
    refine ⟨he, hr, hj, ?_, hf⟩
    rw [ran_of (openBody_ok h hc)]
    exact post_single _ _

/-! ### SUSPEND, RESUME and RETIRE (R21, R22, R23) -/

section
variable {op : StagedOp} {allowed : RecState → Bool}

theorem stageBody_okOrRefused : OkOrRefused s (stageBody op allowed id s) := by
  unfold stageBody OkOrRefused
  dsimp only
  split
  · exact .inr rfl
  split
  · exact .inr rfl
  · exact .inl rfl

theorem stageBody_cp : (stageBody op allowed id s).2.cp = s.cp := by
  unfold stageBody
  dsimp only
  split
  · rfl
  split
  · rfl
  · rfl

theorem stageBody_state (h : allowed (s.record (readId id)).state = false) : stageBody op allowed id s = (.state, s) := by
  simp [stageBody, h]

theorem stageBody_staged (h : allowed (s.record (readId id)).state = true)
    (hs : (s.record (readId id)).staged.isSome = true) : stageBody op allowed id s = (.staged, s) := by
  simp [stageBody, h, hs]

theorem stageBody_ok (h : allowed (s.record (readId id)).state = true) (hs : (s.record (readId id)).staged = none) :
    stageBody op allowed id s =
      (.ok, s.setRecord (readId id) { s.record (readId id) with staged := some op }) := by simp [stageBody, h, hs]

end

/-- Settles O19: the two refusals of a staging command, and what it stages. -/
theorem resumeStagesReturnToActive : Obligations.ResumeStagesReturnToActive := by
  rintro s id r hs rfl
  refine ⟨_, exec_resume hs id, ran_response.trans (congrArg CommandPort.response stageBody_cp), fun h => ?_,
    fun h hr => ?_, fun h hr => ?_⟩
  · exact (ran_refusal (stageBody_state (by simpa using h))).imp_left last_of_ended
  · exact (ran_refusal (stageBody_staged (by simpa using h) hr)).imp_left last_of_ended
  · exact (ran_setRecord (stageBody_ok (by simpa using h) hr)).imp_left last_of_ended

/-! ### ACTIVATE (R20) -/

theorem activateBody_okOrRefused : OkOrRefused s (activateBody id s) := by
  unfold activateBody OkOrRefused
  dsimp only
  split
  · exact .inr rfl
  split
  · exact .inr rfl
  split
  · exact .inr rfl
  split
  · exact .inr rfl
  · exact .inl rfl

theorem activateBody_state (h : (s.record (readId id)).state ≠ .draft) : activateBody id s = (.state, s) := if_pos h

theorem activateBody_staged (h : (s.record (readId id)).state = .draft) (hs : (s.record (readId id)).staged.isSome = true) :
    activateBody id s = (.staged, s) := by simp [activateBody, h, hs]

theorem activateBody_incomplete (h : (s.record (readId id)).state = .draft) (hs : (s.record (readId id)).staged = none)
    (he : (s.record (readId id)).ends.x = none ∨ (s.record (readId id)).ends.y = none) :
    activateBody id s = (.incomplete, s) := by simp [activateBody, h, hs, he]

theorem activateBody_range (h : (s.record (readId id)).state = .draft) (hs : (s.record (readId id)).staged = none)
    {x y : End} (he : (s.record (readId id)).ends = ⟨some x, some y⟩) (hx : x.port = .trunk) (hy : y.port = .trunk) :
    activateBody id s = (.range, s) := by simp [activateBody, h, hs, he, bothTrunk, hx, hy]

theorem activateBody_ok (h : (s.record (readId id)).state = .draft) (hs : (s.record (readId id)).staged = none)
    (hx : (s.record (readId id)).ends.x.isSome = true) (hy : (s.record (readId id)).ends.y.isSome = true)
    (hb : bothTrunk (s.record (readId id)).ends = false) : activateBody id s =
      (.ok, s.setRecord (readId id) { s.record (readId id) with staged := some .activate }) := by
  have hx' := Option.isSome_iff_ne_none.1 hx
  have hy' := Option.isSome_iff_ne_none.1 hy
  simp [activateBody, h, hs, hx', hy', hb]

/-- Settles O18: the refusals of each command in their order, then what each stages. -/
theorem stagingCommandsStageOnly : Obligations.StagingCommandsStageOnly := by
  refine ⟨?_, ?_⟩
  · rintro s id r hs rfl
    refine ⟨⟨_, exec_activate hs id, ran_of_not_ok activateBody_okOrRefused, fun h => ?_, fun h hr => ?_, fun h hr he => ?_,
      fun h hr x y he hx hy => ?_⟩, ⟨_, exec_suspend hs id, ran_of_not_ok stageBody_okOrRefused, fun h => ?_, fun h hr => ?_⟩,
      ⟨_, exec_retire hs id, ran_of_not_ok stageBody_okOrRefused, fun h => ?_, fun h hr => ?_⟩⟩
    · exact ran_last_of (activateBody_state h)
    · exact ran_last_of (activateBody_staged h hr)
    · exact ran_last_of (activateBody_incomplete h hr he)
    · exact ran_last_of (activateBody_range h hr he hx hy)
    · exact ran_last_of (stageBody_state (by simpa using h))
    · exact ran_last_of (stageBody_staged (by simpa using h) hr)
    · exact ran_last_of (stageBody_state (by simpa using h))
    · exact ran_last_of (stageBody_staged (by simpa using h) hr)
  · rintro s id r hs rfl hr
    refine ⟨fun h hx hy hb => ⟨_, exec_activate hs id, ran_setRecord (activateBody_ok h hr hx hy hb)⟩,
      fun h => ⟨_, exec_suspend hs id, ran_setRecord (stageBody_ok ?_ hr)⟩,
      fun h => ⟨_, exec_retire hs id, ran_setRecord (stageBody_ok ?_ hr)⟩⟩
    · simpa using h
    · simpa using h

/-! ### REVOKE (R24) -/

theorem revokeBody_state (h : (s.record (readId id)).state = .free ∨ (s.record (readId id)).state = .retiring) :
    revokeBody id s = (.state, s) := if_pos h

theorem revokeBody_notStaged (h : ¬ ((s.record (readId id)).state = .free ∨ (s.record (readId id)).state = .retiring))
    (hs : (s.record (readId id)).staged = none) : revokeBody id s = (.notStaged, s) := by simp [revokeBody, h, hs]

theorem revokeBody_ok (h : ¬ ((s.record (readId id)).state = .free ∨ (s.record (readId id)).state = .retiring))
    (hs : (s.record (readId id)).staged.isSome = true) : revokeBody id s =
      (.ok, s.setRecord (readId id) { s.record (readId id) with staged := none, stagedEnds := ⟨none, none⟩ }) := by
  simp [revokeBody, h, Option.isSome_iff_ne_none.1 hs]

/-- Settles O20: the two refusals, and the staged part removed. -/
theorem revokeRemovesStagedPart : Obligations.RevokeRemovesStagedPart := by
  rintro s id r hs rfl
  refine ⟨_, exec_revoke hs id, fun h => ?_, fun h hr => ?_, fun h hr => ?_⟩
  · exact ran_refusal (revokeBody_state h)
  · exact ran_refusal (revokeBody_notStaged h hr)
  · exact ran_setRecord (revokeBody_ok h hr)

end Sys2Proof.Machine
end

section
/-! DISCARD (R13), the queries (R25, R26), NEXT (R28), and the laws after reset. -/

namespace Sys2Proof.Machine

variable {s : State} {id : Byte}

/-! ### DISCARD (R13) -/

/-- Of the ids, a condition that only one can meet keeps that one or none. -/
theorem filter_allIds_eq {p : RecId → Bool} {j : RecId} (h : ∀ i, p i = true → i = j) :
    allIds.filter p = if p j then [j] else [] := by
  have e : p = fun i => i == j && p j := by
    funext i
    by_cases hi : i = j
    · simp [hi]
    · have hp : p i = false := by simpa using mt (h i) hi
      simp [hi, hp]
  rw [e]
  cases hp : p j with
  | false => simp
  | true => simp [allIds, List.filter_beq, List.count_eq_one_of_mem (List.nodup_finRange 256)]

/-- A record that is not FREE changes in a posted item when it is freed. -/
theorem sameShown_freeRecord {r : Record} (h : r.state ≠ .free) : r.sameShown .freeRecord = false := by
  simp [Record.sameShown, Record.freeRecord, h]

/-- One record that is not FREE is freed: it is posted by the attention enable it had (R10, R13). -/
theorem freeRecords_one_au (j : RecId) (h : (s.record j).state ≠ .free) : (s.freeRecords fun i => i == j).au = { s.au with
    queue := if (s.record j).fields.attention = true ∧ j ∉ s.au.queue then s.au.queue ++ [j] else s.au.queue } := by
  have e : (allIds.filter fun i => (s.record i).fields.attention &&
      !(s.record i).sameShown (if (i == j) = true then .freeRecord else s.record i)) =
      if (s.record j).fields.attention then [j] else [] := by
    rw [filter_allIds_eq (j := j)]
    · simp [sameShown_freeRecord h]
    · intro i hi
      by_contra hij
      simp [hij, Record.sameShown] at hi
  have hp := post_if_au s j (s.record j).fields.attention
  rw [← e] at hp
  exact hp

theorem boundTo_eq (b : Option (RecId × Side)) (j : RecId) : (b.map fun x => x.1 == j).getD false = boundTo b j := by
  cases b <;> rfl

theorem discardBody_state (h : (s.record (readId id)).state ≠ .draft) : discardBody id s = (.state, s) := if_pos h

theorem discardBody_ok (h : (s.record (readId id)).state = .draft) :
    discardBody id s = (.ok, s.freeRecords fun i => i == readId id) := by simp [discardBody, h]

/-- Settles O15: the refusal, then the one record freed with its units. -/
theorem discardFreesDraft : Obligations.DiscardFreesDraft := by
  intro s id hs
  refine ⟨_, exec_discard hs id, fun h => ran_refusal (discardBody_state h), fun h => ?_⟩
  have hfree : (s.record (readId id)).state ≠ .free := by simp [h]
  have hrec (j : RecId) : (s.freeRecords fun i => i == readId id).record j = if (j == readId id) = true then .freeRecord else s.record j :=
    record_freeRecords s _ j
  have hdet (d : Idx8) : (s.freeRecords fun i => i == readId id).det d =
      if boundTo (s.det d).binding (readId id) then (s.det d).freed else s.det d := by
    rw [← boundTo_eq]; exact det_freeRecords s _ d
  have hkey (k : Idx8) : (s.freeRecords fun i => i == readId id).keyer k =
      if boundTo (s.keyer k).binding (readId id) then (s.keyer k).freed else s.keyer k := by
    rw [← boundTo_eq]; exact keyer_freeRecords s _ k
  rw [ran_of (discardBody_ok h)]
  refine ⟨rfl, ?_, fun j hj => ?_, fun d hd => ?_, fun d hd => ?_, fun k hk => ?_, fun k hk => ?_, ?_, rfl⟩
  · exact (hrec _).trans (by simp)
  · exact (hrec j).trans (by simp [hj])
  · have e := (hdet d).trans (if_pos hd)
    exact ⟨congrArg Detector.binding e, congrArg Detector.state e⟩
  · exact (hdet d).trans (by simp [hd])
  · have e := (hkey k).trans (if_pos hk)
    exact ⟨congrArg Keyer.binding e, congrArg Keyer.state e, congrArg Keyer.test e⟩
  · exact (hkey k).trans (by simp [hk])
  · exact freeRecords_one_au _ hfree

/-! ### QUERY and QUERY STAGED (R25, R26) -/

theorem exec_query (h : Free s) (a : Byte) :
    exec (.query [a]) s = .next (ran [a] (answering fun s => s.queryResponse (readId a)) s) :=
  congrArg Host.Outcome.next (transact_free h)

theorem exec_queryStaged (h : Free s) (a : Byte) :
    exec (.queryStaged [a]) s = .next (ran [a] (answering fun s => s.stagedResponse (readId a)) s) :=
  congrArg Host.Outcome.next (transact_free h)

/-- A response begins with its own length (R166). -/
theorem respond_eq (items : List Byte) : respond items = byte (respond items).length :: items := rfl

theorem byte_readId (b : Byte) : byte (readId b).val = b := by simp [byte, readId]

/-- The items of a record without ends (12.5). -/
theorem queryItems_length_of_no_ends {j : RecId} (h : (s.record j).ends = ⟨none, none⟩) : (s.queryItems j).length = 27 := by
  simp [State.queryItems, h, endBytes, bytes16, counter]

/-- Settles O21: what an answering command leaves, and the first items of the responses. -/
theorem queriesAnswerAndChangeNothing : Obligations.QueriesAnswerAndChangeNothing := by
  rintro s id r hs rfl
  refine ⟨⟨_, s.queryResponse (readId id), exec_query hs id, rfl, rfl, rfl, rfl, fun h => ?_, ?_, rfl⟩,
    ⟨_, s.stagedResponse (readId id), exec_queryStaged hs id, rfl, rfl, ?_⟩⟩
  · have hl := queryItems_length_of_no_ends h
    simp [State.queryResponse, respond, hl]
  · exact byte_readId id
  · rw [State.stagedResponse, byte_readId]
    exact respond_eq _

end Sys2Proof.Machine
end

section
/-! SET END (R14 to R17) and SET FIELD (R18, R19, 12.6). -/

namespace Sys2Proof.Machine

variable {s : State} {id eb port : Byte} {entries : List Byte} {e : Side} {new : End}

/-! ### SET END (R14 to R17) -/

theorem setEndBody_okOrRefused : OkOrRefused s (setEndBody id eb port entries s) := by
  unfold setEndBody OkOrRefused
  dsimp only
  split
  · exact .inr rfl
  split
  · split
    · exact .inr rfl
    split
    · exact .inl rfl
    split
    · exact .inr rfl
    · exact .inl rfl
  · exact .inr rfl

theorem setEndBody_state (h : (s.record (readId id)).state = .free ∨ (s.record (readId id)).state = .retiring) :
    setEndBody id eb port entries s = (.state, s) := if_pos h

section
variable (h : ¬ ((s.record (readId id)).state = .free ∨ (s.record (readId id)).state = .retiring))
include h

theorem setEndBody_range (hn : ∀ e new, readSide eb.toNat = some e → readEnd port.toNat entries ≠ some new) :
    setEndBody id eb port entries s = (.range, s) := by
  unfold setEndBody
  dsimp only
  rw [if_neg h]
  split
  · rename_i e new he hnew
    exact absurd hnew (hn e new he)
  · rfl

variable (he : readSide eb.toNat = some e) (hnew : readEnd port.toNat entries = some new)
include he hnew

theorem setEndBody_staged (hb : (s.record (readId id)).blocksEnds = true) :
    setEndBody id eb port entries s = (.staged, s) := by simp [setEndBody, h, he, hnew, hb]

theorem setEndBody_trunk (hb : (s.record (readId id)).blocksEnds = false) (hd : (s.record (readId id)).state ≠ .draft)
    (ht : bothTrunk (writeEnd (s.record (readId id)).editedEnds e new) = true) :
    setEndBody id eb port entries s = (.range, s) := by simp [setEndBody, h, he, hnew, hb, hd, ht]

theorem setEndBody_stages (hb : (s.record (readId id)).blocksEnds = false) (hd : (s.record (readId id)).state ≠ .draft)
    (ht : bothTrunk (writeEnd (s.record (readId id)).editedEnds e new) = false) :
    setEndBody id eb port entries s = (.ok, s.setRecord (readId id) { s.record (readId id) with
      staged := some .remap, stagedEnds := writeEnd (s.record (readId id)).editedEnds e new }) := by
  simp [setEndBody, h, he, hnew, hb, hd, ht]

end

theorem setEndBody_draft (h : (s.record (readId id)).state = .draft) (hs : (s.record (readId id)).staged = none)
    (he : readSide eb.toNat = some e) (hnew : readEnd port.toNat entries = some new) :
    setEndBody id eb port entries s = (.ok, s.writeRecord (readId id)
      { s.record (readId id) with ends := writeEnd (s.record (readId id)).ends e new }
      (s.record (readId id)).fields.attention) := by
  simp [setEndBody, h, he, hnew, Record.blocksEnds, hs, Record.editedEnds]

theorem blocksEnds_of_other {r : Record} (hs : r.staged.isSome = true) (h : r.staged ≠ some .remap) :
    r.blocksEnds = true := by
  unfold Record.blocksEnds
  split
  · rename_i e; rw [e] at hs; cases hs
  · rename_i e; exact absurd e h
  · rfl

/-- The record may stage REMAP: it is ACTIVE or SUSPENDED, and its edited ends are its active ends before the first write, its staged
ends after it (R15, R16). -/
theorem editedEnds_of_staged {r : Record} {base : Both (Option End)} (h : r.state = .active ∨ r.state = .suspended)
    (hb : r.staged = none ∧ base = r.ends ∨ r.staged = some .remap ∧ base = r.stagedEnds) :
    r.editedEnds = base ∧ r.blocksEnds = false ∧ r.state ≠ .draft ∧ ¬ (r.state = .free ∨ r.state = .retiring) := by
  have hd : r.state ≠ .draft ∧ ¬ (r.state = .free ∨ r.state = .retiring) := by
    obtain h | h := h
    · simp [h]
    · simp [h]
  obtain ⟨hs, rfl⟩ | ⟨hs, rfl⟩ := hb
  · exact ⟨by simp [Record.editedEnds, hd.1, hs], by simp [Record.blocksEnds, hs], hd⟩
  · exact ⟨by simp [Record.editedEnds, hd.1, hs], by simp [Record.blocksEnds, hs], hd⟩

/-- The operands that SET END refuses with RANGE (R3, R14). -/
theorem readEnd_refuses (h : 1 < eb.toNat ∨ 8 < port.toNat ∨ (port.toNat < 8 ∧ ∃ b ∈ entries, 31 < b.toNat) ∨
    (port.toNat = 8 ∧ ∃ b ∈ entries, 247 < b.toNat) ∨ ¬ entries.Nodup) (he : readSide eb.toNat = some e) :
    readEnd port.toNat entries ≠ some new := by
  intro hnew
  obtain ⟨hp, hl, hex, hnd⟩ := readEnd_some hnew
  have exists_of {b : Byte} (hb : b ∈ entries) : entryExists new.port b.toNat = true :=
    hex _ (hl ▸ List.mem_map_of_mem hb)
  unfold readPort readUnit at hp
  obtain h | h | ⟨h, b, hb, hlt⟩ | ⟨h, b, hb, hlt⟩ | h := h
  · unfold readSide at he
    split at he
    · omega
    · omega
    · cases he
  · simp [show port.toNat ≠ 8 by omega, show ¬ port.toNat < 8 by omega] at hp
  · have hx := exists_of hb
    simp only [show port.toNat ≠ 8 by omega, if_false, h, dif_pos, Option.map_some, Option.some.injEq] at hp
    rw [← hp] at hx
    have : b.toNat < 32 := of_decide_eq_true hx
    omega
  · have hx := exists_of hb
    simp only [h, if_true, Option.some.injEq] at hp
    rw [← hp] at hx
    have : b.toNat < 248 := of_decide_eq_true hx
    omega
  · exact h (.of_map BitVec.toNat (hl ▸ hnd))

theorem setEnd_params_length : (id :: eb :: port :: byte entries.length :: entries).length = 4 + entries.length := by
  simp only [List.length_cons]
  omega

/-- Settles O16: the end of a DRAFT record, the staged end, and the refusals in their order. -/
theorem setEndWritesDraftOrStagedEnd : Obligations.SetEndWritesDraftOrStagedEnd := by
  refine ⟨fun s id eb port entries e new hs hd hst h1 h2 he hnew => ?_,
    fun s id eb port entries e new base hs hst hb h1 h2 he hnew ht => ?_, ?_⟩
  · obtain ⟨hend, hr, hj, hau, hf⟩ :=
      ran_writeRecord (ps := id :: eb :: port :: byte entries.length :: entries) (setEndBody_draft hd hst he hnew)
    refine ⟨_, exec_setEnd hs id eb port h1 h2, setEnd_params_length ▸ hend, ?_⟩
    rw [hr]
    refine ⟨writeEnd_get_self .., fun o ho hl => ?_, fun o ho hl => ?_, fun ho => ?_, rfl, hj, hau, hf⟩
    · exact (writeEnd_get_other ..).trans (by simp [ho, hl])
    · exact (writeEnd_get_other ..).trans (by simp [ho, hl])
    · exact (writeEnd_get_other ..).trans (by simp [ho])
  · obtain ⟨rfl, hbl, hd, hn⟩ := editedEnds_of_staged hst hb
    obtain ⟨hend, hr, hj, hf⟩ :=
      ran_setRecord (ps := id :: eb :: port :: byte entries.length :: entries) (setEndBody_stages hn he hnew hbl hd ht)
    refine ⟨_, exec_setEnd hs id eb port h1 h2, setEnd_params_length ▸ hend, ?_⟩
    rw [hr]
    exact ⟨writeEnd_get_self .., writeEnd_get_other .., rfl, hj, hf⟩
  · rintro s id eb port entries r hs rfl h1 h2
    refine ⟨_, exec_setEnd hs id eb port h1 h2, fun hok => ?_, fun h => ?_, fun h => ⟨fun hx => ?_, fun e new he hnew => ?_⟩⟩
    · exact setEnd_params_length ▸ ran_of_not_ok setEndBody_okOrRefused hok
    · exact ran_last_of (setEndBody_state h)
    · exact ran_last_of (setEndBody_range h fun e new he => readEnd_refuses hx he)
    · refine ⟨fun hsome hne => ran_last_of (setEndBody_staged h he hnew (blocksEnds_of_other hsome hne)), fun base hst hb ht => ?_⟩
      obtain ⟨rfl, hbl, hd, -⟩ := editedEnds_of_staged hst hb
      exact ran_last_of (setEndBody_trunk h he hnew hbl hd ht)

/-! ### SET FIELD (R18, R19) -/

theorem readWidth_of_lt {w n : Nat} (h : n < 2 ^ w) : readWidth w n = some (BitVec.ofNat w n) := if_pos h

theorem readWidth_of_le {w n : Nat} (h : 2 ^ w ≤ n) : readWidth w n = none := if_neg (Nat.not_lt.2 h)

theorem readFlag_toNat (b : Bool) : readFlag b.toNat = some b := by cases b <;> rfl
theorem readTrunk_code (k : Trunk) : readTrunk (trunkCode k) = some k := by cases k <;> rfl
theorem readPolicy_code (p : PathPolicy) : readPolicy p.code = some p := by cases p <;> rfl
theorem readDensity_code (d : Density) : readDensity d.code = some d := by cases d <;> rfl
theorem readLoopback_code (l : Loopback) : readLoopback l.code = some l := by cases l <;> rfl
theorem readInject_code (i : Inject) : readInject i.code = some i := by cases i <;> rfl

theorem readFlag_eq_none {n : Nat} (h : 1 < n) : readFlag n = none := by
  unfold readFlag
  split
  · omega
  · omega
  · rfl

theorem readTrunk_eq_none {n : Nat} (h : 1 < n) : readTrunk n = none := by
  unfold readTrunk
  split
  · omega
  · omega
  · rfl

theorem readPolicy_eq_none {n : Nat} (h : 3 < n) : readPolicy n = none := by
  unfold readPolicy
  split
  · omega
  · omega
  · omega
  · omega
  · rfl

theorem readDensity_eq_none {n : Nat} (h : 2 < n) : readDensity n = none := by
  unfold readDensity
  split
  · omega
  · omega
  · omega
  · rfl

theorem readLoopback_eq_none {n : Nat} (h : 2 < n) : readLoopback n = none := by
  unfold readLoopback
  split
  · omega
  · omega
  · omega
  · rfl

theorem readInject_eq_none {n : Nat} (h : 2 < n) : readInject n = none := by
  unfold readInject
  split
  · omega
  · omega
  · omega
  · rfl

/-- No field has a code above 17 (12.6). -/
theorem writeField_beyond {f : Fields} {c v : Nat} (h : 17 < c) : writeField f c v = none := by
  obtain ⟨n, rfl⟩ : ∃ n, c = n + 18 := ⟨c - 18, by omega⟩
  rfl

variable {code hi lo : Byte}

theorem setFieldBody_okOrRefused : OkOrRefused s (setFieldBody id code hi lo s) := by
  unfold setFieldBody OkOrRefused
  dsimp only
  split
  · exact .inr rfl
  split
  · exact .inr rfl
  split
  · split
    · exact .inr rfl
    split
    · exact .inr rfl
    split
    · exact .inr rfl
    · exact .inl rfl
  · split
    · exact .inr rfl
    · exact .inl rfl

theorem setFieldBody_state (h : (s.record (readId id)).state = .free ∨ (s.record (readId id)).state = .retiring) :
    setFieldBody id code hi lo s = (.state, s) := if_pos h

section
variable (h : ¬ ((s.record (readId id)).state = .free ∨ (s.record (readId id)).state = .retiring))
include h

theorem setFieldBody_code (hc : 17 < code.toNat) : setFieldBody id code hi lo s = (.range, s) :=
  (if_neg h).trans (if_pos hc)

theorem setFieldBody_value (h1 : 1 ≤ code.toNat) (h17 : code.toNat ≤ 17)
    (hw : writeField (s.record (readId id)).fields code.toNat (word16 hi lo) = none) :
    setFieldBody id code hi lo s = (.range, s) := by
  have h0 : ¬ code = 0#8 := by rintro rfl; exact absurd h1 (by decide)
  simp [setFieldBody, h, lastFieldCode, Nat.not_lt.2 h17, h0, hw]

/-- A code that is written is a field's (12.6). -/
theorem setFieldBody_field {f : Fields} (h1 : 1 ≤ code.toNat)
    (hw : writeField (s.record (readId id)).fields code.toNat (word16 hi lo) = some f) :
    setFieldBody id code hi lo s = (.ok, s.setRecord (readId id) ((s.record (readId id)).withFields f)) := by
  have h0 : ¬ code = 0#8 := by rintro rfl; exact absurd h1 (by decide)
  have h17 : ¬ 17 < code.toNat := by
    intro hlt
    rw [writeField_beyond hlt] at hw
    cases hw
  simp [setFieldBody, h, lastFieldCode, h17, h0, hw]

theorem setFieldBody_class_state (hd : (s.record (readId id)).state ≠ .draft) :
    setFieldBody id 0 hi lo s = (.state, s) := by simp [setFieldBody, h, hd]

end

section
variable (hd : (s.record (readId id)).state = .draft)
include hd

theorem setFieldBody_class_range (hc : readClass (word16 hi lo) = none) : setFieldBody id 0 hi lo s = (.range, s) := by
  simp [setFieldBody, hd, hc]

variable {c : RecClass} (hc : readClass (word16 hi lo) = some c)
include hc

theorem setFieldBody_class_inuse (hp : c ≠ .protection)
    (hb : (s.boundDetector (readId id)).isSome = true ∨ (s.boundKeyer (readId id)).isSome = true) :
    setFieldBody id 0 hi lo s = (.inuse, s) := by simp [setFieldBody, hd, hc, hp, hb]

theorem setFieldBody_class_ok
    (hb : c = .protection ∨ (s.boundDetector (readId id) = none ∧ s.boundKeyer (readId id) = none)) :
    setFieldBody id 0 hi lo s = (.ok, s.setRecord (readId id) { s.record (readId id) with cls := c }) := by
  have hn : ¬ (c ≠ .protection ∧ ((s.boundDetector (readId id)).isSome = true ∨ (s.boundKeyer (readId id)).isSome = true)) := by
    rintro ⟨hp, hx⟩
    obtain ⟨h1, h2⟩ := hb.resolve_left hp
    simp [h1, h2] at hx
  simp [setFieldBody, hd, hc, if_neg hn]

end

/-- A field is written in the fields alone; a change of the expected tag restarts the tag check of both copies (R18, R19). -/
theorem withFields_eq (r : Record) (f : Fields) : (r.withFields f).fields = f ∧
    (f.expTag = r.fields.expTag → (r.withFields f).tag = r.tag) ∧
    (f.expTag ≠ r.fields.expTag → ∀ k, (r.withFields f).tag.get k = ⟨false, false, 0, 0, (r.tag.get k).misroute⟩) ∧
    r.withFields f = { r with fields := f, tag := (r.withFields f).tag } := by
  unfold Record.withFields
  split
  · rename_i h; exact ⟨rfl, fun _ => rfl, fun hn => absurd h hn, rfl⟩
  · rename_i h; exact ⟨rfl, fun he => absurd he h, fun _ k => by cases k <;> rfl, rfl⟩

/-- Settles O17: one field written, the checks in their order, a class written, and each field's range. -/
theorem setFieldChecksAndWrites : Obligations.SetFieldChecksAndWrites := by
  refine ⟨fun s id code hi lo f hs hst h1 hw => ?_, ?_, ?_, fun f v => ?_⟩
  · have hn : ¬ ((s.record (readId id)).state = .free ∨ (s.record (readId id)).state = .retiring) := by
      obtain h | h | h := hst
      · simp [h]
      · simp [h]
      · simp [h]
    obtain ⟨hend, hr, hj, hf⟩ := ran_setRecord (ps := [id, code, hi, lo]) (setFieldBody_field hn h1 hw)
    obtain ⟨hfields, htag, hrestart, heq⟩ := withFields_eq (s.record (readId id)) f
    refine ⟨_, exec_setField hs id code hi lo, hend, ?_⟩
    rw [hr]
    exact ⟨hfields, htag, hrestart, heq, hj, hf⟩
  · rintro s id code hi lo r hs rfl
    refine ⟨_, exec_setField hs id code hi lo, fun h => ?_, fun h hc => ?_, fun h hc hd => ?_, fun hd hc hv => ?_,
      fun hd hc hv hb => ?_, fun h h1 h17 hw => ?_, ran_of_not_ok setFieldBody_okOrRefused⟩
    · exact ran_last_of (setFieldBody_state h)
    · exact ran_last_of (setFieldBody_code h hc)
    · subst hc; exact ran_last_of (setFieldBody_class_state h hd)
    · subst hc; exact ran_last_of (setFieldBody_class_range hd (readClass_eq_none hv))
    · subst hc
      obtain hv | hv := hv
      · exact ran_last_of (setFieldBody_class_inuse hd (c := .voice) (congrArg readClass hv) (by decide) hb)
      · exact ran_last_of (setFieldBody_class_inuse hd (c := .data) (congrArg readClass hv) (by decide) hb)
    · exact ran_last_of (setFieldBody_value h h1 h17 hw)
  · rintro s id hi lo r c hs rfl hd hc hb
    exact ⟨_, exec_setField hs id 0 hi lo, ran_setRecord (setFieldBody_class_ok hd hc hb)⟩
  · refine ⟨fun h => ?_, fun h => ?_, fun p => ?_, fun h => ?_, fun k => ?_, fun h => ?_, fun h => ?_, fun h => ?_, fun d => ?_,
      fun h => ?_, fun b => ?_, fun h => ?_, fun h => ?_, fun h => ?_, fun l => ?_, fun h => ?_, fun i => ?_, fun h => ?_⟩
    · simp [writeField, readWidth_of_lt (w := 12) h]
    · simp [writeField, readWidth_of_le (w := 12) h]
    · simp [writeField, readPolicy_code]
    · simp [writeField, readPolicy_eq_none h]
    · simp [writeField, readTrunk_code]
    · simp [writeField, readTrunk_eq_none h]
    · simp [writeField, readWidth_of_lt (w := 8) h, byte]
    · simp [writeField, readWidth_of_le (w := 8) h]
    · simp [writeField, readDensity_code]
    · simp [writeField, readDensity_eq_none h]
    · simp [writeField, readFlag_toNat]
    · simp [writeField, readFlag_eq_none h]
    · simp [writeField, readWidth_of_lt (w := 4) h]
    · simp [writeField, readWidth_of_le (w := 4) h]
    · simp [writeField, readLoopback_code]
    · simp [writeField, readLoopback_eq_none h]
    · simp [writeField, readInject_code]
    · simp [writeField, readInject_eq_none h]

end Sys2Proof.Machine
end

section
/-! NEXT (R28). -/

namespace Sys2Proof.Machine

variable {s : State}

/-! ### The records that are not FREE, in ascending order -/

theorem mem_occupiedFrom {p : Nat} {id : RecId} : id ∈ s.occupiedFrom p ↔ p ≤ id.val ∧ (s.record id).state ≠ .free := by
  simp [State.occupiedFrom, allIds]

theorem occupiedFrom_sorted (p : Nat) : (s.occupiedFrom p).Pairwise (· < ·) :=
  (List.pairwise_lt_finRange 256).filter _

/-- A sorted list begins with its least member, and goes on with those above it. -/
theorem sorted_eq_cons {l : List RecId} (h : l.Pairwise (· < ·)) {q : RecId} (hq : q ∈ l) (hmin : ∀ j ∈ l, q ≤ j) :
    ∃ rest, l = q :: rest ∧ rest.Pairwise (· < ·) ∧ ∀ j, j ∈ rest ↔ j ∈ l ∧ q < j := by
  cases l with
  | nil => cases hq
  | cons a as =>
    obtain ⟨hlt, has⟩ := List.pairwise_cons.1 h
    obtain rfl : q = a := by
      obtain rfl | hm := List.mem_cons.1 hq
      · rfl
      · exact absurd (hmin a (List.mem_cons_self)) (not_le.2 (hlt q hm))
    refine ⟨as, rfl, has, fun j => ⟨fun hj => ⟨List.mem_cons_of_mem _ hj, hlt j hj⟩, fun ⟨hj, hqj⟩ => ?_⟩⟩
    exact (List.mem_cons.1 hj).resolve_left (ne_of_gt hqj)

/-- From the cursor on, the first record that is not FREE is `q`, and the rest are those above it. -/
theorem occupiedFrom_eq_cons {p q : RecId} (hpq : p ≤ q) (hq : (s.record q).state ≠ .free)
    (hfree : ∀ j, p ≤ j → j < q → (s.record j).state = .free) :
    ∃ rest, s.occupiedFrom p.val = q :: rest ∧ rest.Pairwise (· < ·) ∧
      ∀ j, j ∈ rest ↔ q < j ∧ (s.record j).state ≠ .free := by
  obtain ⟨rest, he, hs, hm⟩ := sorted_eq_cons (occupiedFrom_sorted (s := s) p.val) (mem_occupiedFrom.2 ⟨hpq, hq⟩) fun j hj => by
    obtain ⟨hp, ho⟩ := mem_occupiedFrom.1 hj
    by_contra hlt
    exact ho (hfree j hp (not_le.1 hlt))
  refine ⟨rest, he, hs, fun j => (hm j).trans ⟨fun ⟨hj, hlt⟩ => ⟨hlt, (mem_occupiedFrom.1 hj).2⟩, fun ⟨hlt, ho⟩ => ?_⟩⟩
  exact ⟨mem_occupiedFrom.2 ⟨le_trans (Fin.le_def.1 hpq) (Fin.le_def.1 hlt.le), ho⟩, hlt⟩

/-! ### NEXT's cases (R28) -/

theorem exec_nextRecord (h : Free s) : exec (.nextRecord []) s = .next (ran [] nextRecordBody s) :=
  congrArg Host.Outcome.next (transact_free h)

theorem nextRecordBody_locked (h : s.ct.endLock = true) : nextRecordBody s =
    (.ok, s.answer (s.nextResponse (if (s.record s.ct.cursor).state = .free then none else some s.ct.cursor) true)) :=
  if_pos h

section
variable (h : s.ct.endLock = false)
include h

theorem nextRecordBody_none (ho : s.occupiedFrom s.ct.cursor.val = []) : nextRecordBody s =
    (.ok, { s.answer (s.nextResponse none true) with ct := { s.ct with endLock := true } }) := by
  simp [nextRecordBody, h, ho]

theorem nextRecordBody_last {q : RecId} (ho : s.occupiedFrom s.ct.cursor.val = [q]) : nextRecordBody s =
    (.ok, { s.answer (s.nextResponse (some q) true) with ct := { s.ct with cursor := q, endLock := true } }) := by
  simp [nextRecordBody, h, ho]

theorem nextRecordBody_more {q u : RecId} {rest : List RecId} (ho : s.occupiedFrom s.ct.cursor.val = q :: u :: rest) :
    nextRecordBody s = (.ok, { s.answer (s.nextResponse (some q) false) with ct := { s.ct with cursor := u } }) := by
  simp [nextRecordBody, h, ho]

end

/-- Settles O23: the list of occupied records from the cursor on decides which case NEXT takes. -/
theorem nextVisitsOccupiedRecords : Obligations.NextVisitsOccupiedRecords := by
  refine ⟨fun s q hs hl hpq hq hfree => ?_, fun s hs hl hfree => ?_, fun s hs hl => ?_⟩
  · obtain ⟨rest, he, hsorted, hm⟩ := occupiedFrom_eq_cons hpq hq hfree
    refine ⟨_, exec_nextRecord hs, fun u hqu hu hbetween => ?_, fun hlast => ?_⟩
    · obtain ⟨more, rfl, -, -⟩ := sorted_eq_cons hsorted ((hm u).2 ⟨hqu, hu⟩) fun j hj => by
        obtain ⟨hqj, ho⟩ := (hm j).1 hj
        by_contra hlt
        exact ho (hbetween j hqj (not_le.1 hlt))
      rw [ran_of (nextRecordBody_more hl he)]
      exact ⟨rfl, rfl⟩
    · obtain rfl : rest = [] := List.eq_nil_iff_forall_not_mem.2 fun j hj => ((hm j).1 hj).2 (hlast j ((hm j).1 hj).1)
      rw [ran_of (nextRecordBody_last hl he)]
      exact ⟨rfl, rfl⟩
  · have he : s.occupiedFrom s.ct.cursor.val = [] := List.eq_nil_iff_forall_not_mem.2 fun j hj => by
      obtain ⟨hp, ho⟩ := mem_occupiedFrom.1 hj
      exact ho (hfree j hp)
    refine ⟨_, exec_nextRecord hs, ?_⟩
    rw [ran_of (nextRecordBody_none hl he)]
    exact ⟨rfl, rfl⟩
  · refine ⟨_, exec_nextRecord hs, ?_⟩
    rw [ran_of (nextRecordBody_locked hl)]
    exact ⟨rfl, rfl⟩

end Sys2Proof.Machine
end

section
/-! The laws after reset (R169). -/

namespace Sys2Proof.Machine

/-! ### The units and records after reset -/

theorem record_reset (id : RecId) : State.reset.record id = .freeRecord := record_of_ct_reset rfl id
theorem det_reset (d : Idx8) : State.reset.det d = .reset := Vector.getElem_replicate _
theorem keyer_reset (k : Idx8) : State.reset.keyer k = .reset := Vector.getElem_replicate _
theorem line_reset (n : Idx8) : State.reset.line n = .reset := Vector.getElem_replicate _
theorem deskew_reset (k : Trunk) : State.reset.deskew k = .reset := by cases k <;> rfl

/-! ### The laws -/

theorem deskewLaw_reset : DeskewLaw .reset := fun k => by
  rw [deskew_reset]
  exact Nat.zero_le _

theorem keyLineLaw_reset : KeyLineLaw .reset := fun m n hm _ _ => by
  rw [line_reset] at hm
  cases hm

theorem detectorLaw_reset : DetectorLaw .reset := fun d => by
  rw [det_reset]
  refine ⟨⟨fun _ => rfl, fun _ => rfl⟩, fun h => ?_⟩
  obtain h | h | h := h
  · cases h
  · cases h
  · cases h

theorem reservedFree_vacant (s : State) : ReservedFree s .vacant := fun _ => ⟨entry_vacant _ _, fun _ => entry_vacant _ _⟩

theorem bindingLaw_reset : BindingLaw .reset := by
  refine ⟨fun d e x hx => ?_, fun k l x hx => ?_⟩
  · rw [det_reset] at hx
    cases hx
  · rw [keyer_reset] at hx
    cases hx

/-- A vacant map agrees with records that have no ends in it (R30). -/
theorem agrees_vacant {ends : RecId → Both (Option End)} (h : ∀ id, ends id = ⟨none, none⟩) : Agrees .vacant ends := by
  intro p n e _
  rw [entry_vacant, h]
  constructor
  · intro hn; cases hn
  · rintro ⟨d, hd, -⟩
    cases hs : e.side with
    | x => rw [hs] at hd; cases hd
    | y => rw [hs] at hd; cases hd

theorem mapLaw_reset : MapLaw .reset := by
  refine ⟨fun id => ?_, agrees_vacant fun id => ?_, fun h => by cases h⟩
  · rw [record_reset]
    exact trivial
  · rw [record_reset]
    rfl

theorem pathLaw_reset : PathLaw .reset := by
  rintro id r rfl
  rw [record_reset]
  exact ⟨fun h => (by cases h), fun _ => rfl, fun h => (by cases h), fun _ => ⟨rfl, rfl, rfl⟩⟩

/-- Settles O60: the laws one by one. -/
theorem lawsHoldAtReset : Obligations.LawsHoldAtReset :=
  ⟨⟨.nil, Nat.zero_le _⟩, deskewLaw_reset, keyLineLaw_reset, detectorLaw_reset,
    ⟨reservedFree_vacant _, reservedFree_vacant _, fun _ => rfl⟩, endsLaw_of_ct_reset rfl,
    ⟨by decide, by decide, fun h => (by cases h)⟩, bindingLaw_reset, mapLaw_reset, pathLaw_reset⟩

end Sys2Proof.Machine
end

section
/-! SUPPORT. What a change of records or of detectors posts (R10, R146), the sweep of the detectors (R140), and what the flip makes
of one record (R38). -/

namespace Sys2Proof.Machine

variable (s : State)

/-! ### What is posted -/

theorem prefix_postTo (q : List RecId) (id : RecId) : q <+: postTo q id := by
  unfold postTo
  split
  · exact List.prefix_refl q
  · exact List.prefix_append q _

theorem prefix_foldl_postTo (ids q : List RecId) : q <+: ids.foldl postTo q := by
  induction ids generalizing q with
  | nil => exact List.prefix_refl q
  | cons a as ih => exact (prefix_postTo q a).trans (ih _)

theorem prefix_updateRecords (f : RecId → Record → Record) : s.au.queue <+: (s.updateRecords f).au.queue :=
  prefix_foldl_postTo _ _

theorem prefix_updateDets (f : Idx8 → Detector → Detector) : s.au.queue <+: (s.updateDets f).au.queue :=
  prefix_foldl_postTo _ _

/-- A change of records posts those with a posted item changed whose attention enable was on (R10). -/
theorem mem_updateRecords_queue (f : RecId → Record → Record) (id : RecId) :
    id ∈ (s.updateRecords f).au.queue ↔ id ∈ s.au.queue ∨
      ((s.record id).fields.attention = true ∧ (s.record id).sameShown (f id (s.record id)) = false) := by
  refine (mem_foldl_postTo _).trans (or_congr Iff.rfl ?_)
  simp [allIds]

theorem sameShown_self (r : Record) : r.sameShown r = true := by simp [Record.sameShown]

/-- Records that stay as they are post nothing. -/
theorem updateRecords_queue_of_same {f : RecId → Record → Record} (h : ∀ id, f id (s.record id) = s.record id) :
    (s.updateRecords f).au = s.au := by
  have e : (allIds.filter fun id => (s.record id).fields.attention && !(s.record id).sameShown (f id (s.record id))) = [] :=
    List.filter_eq_nil_iff.2 fun id _ => by simp [h id, sameShown_self]
  unfold State.updateRecords
  rw [e]
  rfl

/-- A change of detectors posts the records whose detector changed state (R146). -/
theorem mem_updateDets_queue (f : Idx8 → Detector → Detector) (id : RecId) :
    id ∈ (s.updateDets f).au.queue ↔ id ∈ s.au.queue ∨
      ((∃ d, (f d (s.det d)).state ≠ (s.det d).state ∧
        ((s.det d).binding.or (f d (s.det d)).binding).map Prod.fst = some id) ∧ (s.record id).fields.attention = true) := by
  refine (mem_foldl_postTo _).trans (or_congr Iff.rfl ?_)
  simp only [List.mem_filter, allIds, List.mem_finRange, true_and, Bool.and_eq_true, List.contains_eq_mem, decide_eq_true_eq,
    List.mem_filterMap, allUnits, Option.ite_none_left_eq_some, ne_eq]

/-! ### The sweep (R140, R141) -/

/-- What the sweep makes of one detector. -/
def State.sweptDet (d : Detector) : Detector :=
  match d.binding with
  | none => d
  | some (id, _) =>
    if s.circuitBlocks id then (if d.state = .blocked then { d with release := 0 } else d.block) else d

theorem sweep_eq : s.sweep = s.updateDets fun _ d => s.sweptDet d := rfl

theorem det_sweep (d : Idx8) : s.sweep.det d = s.sweptDet (s.det d) := by rw [sweep_eq, det_updateDets]

section
variable {s} {d : Detector}

theorem sweptDet_of_unbound (h : d.binding = none) : s.sweptDet d = d := by
  unfold State.sweptDet
  split
  · rfl
  · rename_i h'; rw [h] at h'; cases h'

theorem sweptDet_of_bound {id : RecId} {dir : Side} (h : d.binding = some (id, dir)) : s.sweptDet d =
    if s.circuitBlocks id then (if d.state = .blocked then { d with release := 0 } else d.block) else d := by
  unfold State.sweptDet
  split
  · rename_i h'; rw [h] at h'; cases h'
  · rename_i h'; rw [h] at h'; cases h'; rfl

end

/-- The sweep posts the records of the detectors that it moves (R146). -/
theorem mem_sweep_queue (id : RecId) : id ∈ s.sweep.au.queue ↔ id ∈ s.au.queue ∨
    ((∃ d dir, (s.det d).binding = some (id, dir) ∧ (s.sweptDet (s.det d)).state ≠ (s.det d).state) ∧
      (s.record id).fields.attention = true) := by
  rw [sweep_eq, mem_updateDets_queue]
  refine or_congr Iff.rfl (and_congr_left fun _ => exists_congr fun d => ?_)
  cases hb : (s.det d).binding with
  | none => simp [sweptDet_of_unbound hb]
  | some x => obtain ⟨j, dir⟩ := x; simp [and_comm]

end Sys2Proof.Machine
end

section
/-! SUPPORT. What the flip makes of one record (R7, R38, R112). -/

namespace Sys2Proof.Machine

variable (s : State) {r old new : Record}

/-- The items that a restart of path selection leaves alone. -/
structure SameTable (old new : Record) : Prop where
  state : new.state = old.state
  ends : new.ends = old.ends
  staged : new.staged = old.staged
  stagedEnds : new.stagedEnds = old.stagedEnds
  fields : new.fields = old.fields
  holdRemaining : new.holdRemaining = old.holdRemaining
  switches : new.switches = old.switches
  misroutes : new.misroutes = old.misroutes

theorem SameTable.refl (r : Record) : SameTable r r := ⟨rfl, rfl, rfl, rfl, rfl, rfl, rfl, rfl⟩

theorem SameTable.trunkCells (h : SameTable old new) : new.trunkCells = old.trunkCells := by
  unfold Record.trunkCells Record.inMap Record.trunkSide
  rw [h.state, h.ends]

theorem SameTable.inMap (h : SameTable old new) : new.inMap = old.inMap := by
  unfold Record.inMap
  rw [h.state]

/-- The items that a staged operation leaves alone, but for one that frees the record. -/
structure SamePath (old new : Record) : Prop where
  fields : new.fields = old.fields
  switches : new.switches = old.switches
  misroutes : new.misroutes = old.misroutes
  selected : new.selected = old.selected
  lastPath : new.lastPath = old.lastPath
  copy : new.copy = old.copy
  tag : new.tag = old.tag
  far : new.far = old.far
  farCand : new.farCand = old.farCand
  health : new.health = old.health

/-! ### The staged operation (R38) -/

theorem freedByFlip_iff : r.freedByFlip = true ↔ r.staged = some .retire ∧ r.fields.hold = 0 := by simp [Record.freedByFlip]

theorem applyStaged_unstaged (h : r.staged = none) : r.applyStaged = r := by simp [Record.applyStaged, h]

theorem applyStaged_freed (h : r.freedByFlip = true) : r.applyStaged = .freeRecord := by
  obtain ⟨hs, hh⟩ := freedByFlip_iff.1 h
  simp [Record.applyStaged, hs, hh]

theorem applyStaged_active (h : r.staged = some .activate ∨ r.staged = some .resume) :
    r.applyStaged = { r with staged := none, stagedEnds := ⟨none, none⟩, state := .active } := by
  obtain h | h := h
  · simp [Record.applyStaged, h]
  · simp [Record.applyStaged, h]

theorem applyStaged_suspend (h : r.staged = some .suspend) :
    r.applyStaged = { r with staged := none, stagedEnds := ⟨none, none⟩, state := .suspended } := by
  simp [Record.applyStaged, h]

theorem applyStaged_remap (h : r.staged = some .remap) :
    r.applyStaged = { r with staged := none, stagedEnds := ⟨none, none⟩, ends := r.stagedEnds } := by
  simp [Record.applyStaged, h]

theorem applyStaged_retire (h : r.staged = some .retire) (hh : r.fields.hold ≠ 0) : r.applyStaged =
    { r with staged := none, stagedEnds := ⟨none, none⟩, state := .retiring, holdRemaining := r.fields.hold } := by
  unfold Record.applyStaged
  rw [h]
  exact if_neg hh

/-- Applying a staged operation that frees no record keeps its fields and its path items. -/
theorem applyStaged_samePath (h : r.freedByFlip = false) : SamePath r r.applyStaged := by
  cases hs : r.staged with
  | none => rw [applyStaged_unstaged hs]; constructor <;> rfl
  | some op =>
    cases op with
    | activate => rw [applyStaged_active (.inl hs)]; constructor <;> rfl
    | resume => rw [applyStaged_active (.inr hs)]; constructor <;> rfl
    | suspend => rw [applyStaged_suspend hs]; constructor <;> rfl
    | remap => rw [applyStaged_remap hs]; constructor <;> rfl
    | retire =>
      have hh : r.fields.hold ≠ 0 := fun hh => by
        rw [freedByFlip_iff.2 ⟨hs, hh⟩] at h
        cases h
      rw [applyStaged_retire hs hh]; constructor <;> rfl

/-- No staged part is left. -/
theorem applyStaged_staged (h : r.staged.isSome = true) :
    r.applyStaged.staged = none ∧ r.applyStaged.stagedEnds = ⟨none, none⟩ := by
  unfold Record.applyStaged
  dsimp only
  split
  · rename_i hn; rw [hn] at h; cases h
  · exact ⟨rfl, rfl⟩
  · exact ⟨rfl, rfl⟩
  · exact ⟨rfl, rfl⟩
  · exact ⟨rfl, rfl⟩
  · split
    · exact ⟨rfl, rfl⟩
    · exact ⟨rfl, rfl⟩

/-! ### The restart of path selection (R7, R112) -/

theorem restartPath_sameTable : SameTable new (s.restartPath old new) := by
  unfold State.restartPath
  dsimp only
  split
  · constructor <;> rfl
  split
  · split
    · constructor <;> rfl
    · constructor <;> rfl
  · exact .refl new

/-- The starting values of path selection (R112). -/
def PathFresh (s : State) (q : Record) : Prop :=
  q.selected = .none ∧ q.lastPath = none ∧ (∀ k, q.copy.get k = if s.usable k = true then .good else .down) ∧
    (∀ k, q.tag.get k = ⟨false, false, 0, 0, false⟩) ∧ q.far = .unknown ∧ q.farCand = none ∧ q.health = q.healthOf

/-- The values of a record without a trunk end (R7). -/
def PathAbsent (q : Record) : Prop :=
  q.selected = .notApplicable ∧ q.copy = ⟨.down, .down⟩ ∧ q.far = .unknown ∧ (q.inMap = true → q.health = q.healthOf)

theorem restartPath_changed (h : new.trunkCells.isSome = true) (hn : new.trunkCells ≠ old.trunkCells) :
    PathFresh s (s.restartPath old new) := by
  have hc : trunkEndChanged old new = true := by simp [trunkEndChanged, h, hn]
  have hcopy (k : Trunk) : copyStatus (s.usable k) false = if s.usable k = true then .good else .down := by
    cases hu : s.usable k with
    | false => rfl
    | true => rfl
  unfold State.restartPath
  rw [if_pos hc]
  exact ⟨rfl, rfl, fun k => by cases k <;> exact hcopy _, fun k => by cases k <;> rfl, rfl, rfl, rfl⟩

theorem restartPath_same (h : new.trunkCells.isSome = true) (he : new.trunkCells = old.trunkCells) :
    s.restartPath old new = new := by
  have hc : trunkEndChanged old new = false := by simp [trunkEndChanged, he]
  have hn : new.trunkCells.isNone = false := by simpa [Option.isSome_iff_ne_none] using h
  simp [State.restartPath, hc, hn]

theorem restartPath_none (h : new.trunkCells = none) : PathAbsent (s.restartPath old new) := by
  have hc : trunkEndChanged old new = false := by simp [trunkEndChanged, h]
  simp only [State.restartPath, hc, h, Option.isNone_none, if_true]
  cases hm : new.inMap with
  | true => exact ⟨rfl, rfl, rfl, fun _ => rfl⟩
  | false => exact ⟨rfl, rfl, rfl, fun hx => Bool.noConfusion (hm.symm.trans hx)⟩

/-! ### One record at the flip -/

theorem flipRecord_unstaged (h : r.staged = none) : s.flipRecord r = r := by simp [State.flipRecord, h]

theorem flipRecord_staged (h : r.staged.isSome = true) : s.flipRecord r = s.restartPath r r.applyStaged := if_pos h

theorem flipRecord_freed (h : r.freedByFlip = true) : s.flipRecord r = .freeRecord := by
  rw [flipRecord_staged s (by simp [(freedByFlip_iff.1 h).1]), applyStaged_freed h]
  rfl

/-- Of all but its path items and its health, the flip makes what the staged operation makes. -/
theorem flipRecord_sameTable : SameTable r.applyStaged (s.flipRecord r) := by
  cases hs : r.staged with
  | none => rw [flipRecord_unstaged s hs, applyStaged_unstaged hs]; exact .refl r
  | some op => rw [flipRecord_staged s (by simp [hs])]; exact restartPath_sameTable s

theorem flipRecord_fields (h : r.freedByFlip = false) : (s.flipRecord r).fields = r.fields :=
  (flipRecord_sameTable s).fields.trans (applyStaged_samePath h).fields

/-- A record that the flip does not leave FREE is not one that it frees. -/
theorem not_freed_of_state (h : (s.flipRecord r).state ≠ .free) : r.freedByFlip = false := by
  cases hf : r.freedByFlip with
  | false => rfl
  | true => rw [flipRecord_freed s hf] at h; exact absurd rfl h

theorem state_ne_free_of_trunkCells (h : r.trunkCells.isSome = true) : r.state ≠ .free := by
  intro hf
  simp [Record.trunkCells, Record.inMap, hf] at h

/-- With a trunk end that it had not, a record starts its path selection afresh (R112). -/
theorem flipRecord_changed (h : r.staged.isSome = true) (hc : (s.flipRecord r).trunkCells.isSome = true)
    (hn : (s.flipRecord r).trunkCells ≠ r.trunkCells) : PathFresh s (s.flipRecord r) ∧
      (s.flipRecord r).switches = r.switches ∧ (s.flipRecord r).misroutes = r.misroutes := by
  have table := flipRecord_sameTable s (r := r)
  have path := applyStaged_samePath (not_freed_of_state s (state_ne_free_of_trunkCells hc))
  refine ⟨?_, table.switches.trans path.switches, table.misroutes.trans path.misroutes⟩
  rw [table.trunkCells] at hc hn
  rw [flipRecord_staged s h]
  exact restartPath_changed s hc hn

/-- With the trunk end that it had, a record keeps its path items. -/
theorem flipRecord_samePath (h : r.staged.isSome = true) (hc : (s.flipRecord r).trunkCells.isSome = true)
    (he : (s.flipRecord r).trunkCells = r.trunkCells) : SamePath r (s.flipRecord r) := by
  have path := applyStaged_samePath (not_freed_of_state s (state_ne_free_of_trunkCells hc))
  rw [(flipRecord_sameTable s).trunkCells] at hc he
  rw [flipRecord_staged s h, restartPath_same s hc he]
  exact path

/-- Without a trunk end, a staged record takes the values of R7. -/
theorem flipRecord_absent (h : r.staged.isSome = true) (hc : (s.flipRecord r).trunkCells = none) :
    PathAbsent (s.flipRecord r) := by
  rw [(flipRecord_sameTable s).trunkCells] at hc
  rw [flipRecord_staged s h]
  exact restartPath_none s hc

end Sys2Proof.Machine
end

section
/-! The map flip (R38 to R40). -/

namespace Sys2Proof.Machine

variable (s : State)

/-- The signalling entries of a trunk end that changes start afresh (R112, R118). -/
def State.clearCells (s : State) (cells : List Nat) : State :=
  { s with ps := { s.ps with sig := mapVec (fun n e => if cells.contains n then .clear else e) s.ps.sig } }

/-- The flip up to its freeing of records: every staged operation applied, and the Next Map installed. -/
def State.applied (s : State) : State := (s.updateRecords fun _ r => s.flipRecord r).installNext

/-- The flip up to its sweep of the detectors. -/
def State.installed (s : State) : State :=
  (s.applied.freeRecords fun id => (s.record id).freedByFlip).clearCells s.restartedCells

/-- The sweep comes last but for the marks of the multiframe start. -/
theorem flip_eq : s.flip = { s.installed.sweep with stu := s.flip.stu } := rfl

theorem exec_mapFlip {s : State} (hr : s.inReset = false) (hd : s.flipDue = true) : exec .mapFlip s = .next s.flip :=
  congrArg Host.Outcome.next (if_pos (by simp [hr, hd]))

/-! ### Records and units -/

/-- A unit's record is freed by the flip. -/
def State.freesUnit (s : State) (b : Option (RecId × Side)) : Bool := (b.map fun x => (s.record x.1).freedByFlip).getD false

theorem record_applied (id : RecId) : s.applied.record id = s.flipRecord (s.record id) :=
  record_updateRecords s (fun _ r => s.flipRecord r) id

theorem record_installed (id : RecId) : s.installed.record id = s.flipRecord (s.record id) := by
  refine (record_freeRecords s.applied (fun id => (s.record id).freedByFlip) id).trans ?_
  split
  · rename_i h; exact (flipRecord_freed s h).symm
  · exact record_applied s id

theorem record_flip (id : RecId) : s.flip.record id = s.flipRecord (s.record id) := by
  rw [flip_eq]
  exact record_installed s id

theorem det_installed (d : Idx8) :
    s.installed.det d = if s.freesUnit (s.det d).binding then (s.det d).freed else s.det d :=
  det_freeRecords s.applied (fun id => (s.record id).freedByFlip) d

theorem keyer_flip (k : Idx8) :
    s.flip.keyer k = if s.freesUnit (s.keyer k).binding then (s.keyer k).freed else s.keyer k :=
  keyer_freeRecords s.applied (fun id => (s.record id).freedByFlip) k

theorem det_flip (d : Idx8) : s.flip.det d = s.installed.sweptDet (s.installed.det d) := by
  rw [flip_eq]
  exact det_sweep s.installed d

section
variable {s} {d : Idx8} {id : RecId} {dir : Side}

theorem det_flip_of_unbound (h : (s.det d).binding = none) : s.flip.det d = s.det d := by
  have hd : s.installed.det d = s.det d := (det_installed s d).trans (by simp [State.freesUnit, h])
  rw [det_flip, hd, sweptDet_of_unbound h]

theorem det_flip_of_freed (h : (s.det d).binding = some (id, dir)) (hf : (s.record id).freedByFlip = true) :
    s.flip.det d = (s.det d).freed := by
  have hd : s.installed.det d = (s.det d).freed := (det_installed s d).trans (by simp [State.freesUnit, h, hf])
  rw [det_flip, hd, sweptDet_of_unbound rfl]

theorem det_installed_of_kept (h : (s.det d).binding = some (id, dir)) (hf : (s.record id).freedByFlip = false) :
    s.installed.det d = s.det d := (det_installed s d).trans (by simp [State.freesUnit, h, hf])

theorem det_flip_of_kept (h : (s.det d).binding = some (id, dir)) (hf : (s.record id).freedByFlip = false) :
    s.flip.det d = if s.installed.circuitBlocks id then
      (if (s.det d).state = .blocked then { s.det d with release := 0 } else (s.det d).block) else s.det d := by
  rw [det_flip, det_installed_of_kept h hf, sweptDet_of_bound h]

end

theorem installed_circuitBlocks (id : RecId) : s.installed.circuitBlocks id = decide ((s.flip.record id).state ≠ .active ∨
    (s.flip.record id).far = .sourceFail ∨ (s.flip.record id).far = .conditioned) := rfl

/-- The detectors of the records that are not ACTIVE after the flip are BLOCKED; one of an ACTIVE record that its far end does not block
stays as it is (R39, R40, R140). -/
theorem det_flip_cases {d : Idx8} {id : RecId} {dir : Side} (h : (s.det d).binding = some (id, dir)) :
    ((s.record id).freedByFlip = true → s.flip.det d = { Detector.reset with
      cfg := (s.det d).cfg, commands := (s.det d).commands, blockedEvents := (s.det d).blockedEvents }) ∧
    ((s.record id).freedByFlip = false → (s.flip.record id).state ≠ .active →
      ((s.det d).state = .blocked → s.flip.det d = { s.det d with release := 0 }) ∧
      ((s.det d).state ≠ .blocked →
        s.flip.det d = { s.det d with state := .blocked, persist := 0, release := 0, prolong := 0, unknown := 0 })) ∧
    ((s.flip.record id).state = .active → (s.flip.record id).far ≠ .sourceFail → (s.flip.record id).far ≠ .conditioned →
      s.flip.det d = s.det d) := by
  refine ⟨fun hf => det_flip_of_freed h hf, fun hf ha => ?_, fun ha h1 h2 => ?_⟩
  · have hb : s.installed.circuitBlocks id = true := by rw [installed_circuitBlocks]; simp [ha]
    rw [det_flip_of_kept h hf, if_pos hb]
    exact ⟨fun hs => if_pos hs, fun hs => if_neg hs⟩
  · have hf : (s.record id).freedByFlip = false := by
      refine not_freed_of_state s fun hn => ?_
      rw [record_flip, hn] at ha
      cases ha
    have hb : s.installed.circuitBlocks id = false := by rw [installed_circuitBlocks]; simp [ha, h1, h2]
    rw [det_flip_of_kept h hf, hb]
    rfl

theorem keyer_flip_cases {k : Idx8} {id : RecId} {dir : Side} (h : (s.keyer k).binding = some (id, dir)) :
    ((s.record id).freedByFlip = true → s.flip.keyer k = { Keyer.reset with cfg := (s.keyer k).cfg, sent := (s.keyer k).sent }) ∧
    ((s.record id).freedByFlip = false → s.flip.keyer k = s.keyer k) := by
  refine ⟨fun hf => (keyer_flip s k).trans (if_pos ?_), fun hf => (keyer_flip s k).trans (if_neg ?_)⟩
  · simp [State.freesUnit, h, hf]
  · simp [State.freesUnit, h, hf]

/-! ### What is posted, and the flags -/

/-- Freeing posts nothing more: the records freed are FREE already. -/
theorem installed_au : s.installed.au = s.applied.au := by
  refine updateRecords_queue_of_same s.applied fun id => ?_
  split
  · rename_i h; rw [record_applied, flipRecord_freed s h]
  · rfl

theorem flip_flag (i : Nat) : s.flip.au.flags.getLsbD i = (s.au.flags.getLsbD i || decide (i = 12)) := by
  have e : s.flip.au.flags = s.installed.au.flags := rfl
  rw [e, installed_au]
  exact raise_flag (s.updateRecords fun _ r => s.flipRecord r) i (by decide)

theorem installed_queue : s.installed.au.queue = (s.updateRecords fun _ r => s.flipRecord r).au.queue := by
  rw [installed_au]
  rfl

theorem flip_queue_prefix : s.au.queue <+: s.flip.au.queue := by
  have h1 : s.au.queue <+: s.installed.au.queue := installed_queue s ▸ prefix_updateRecords s _
  have h2 : s.installed.au.queue <+: s.installed.sweep.au.queue := sweep_eq s.installed ▸ prefix_updateDets s.installed _
  exact h1.trans h2

/-- A detector that the sweep moves is bound to a record that the flip does not free. -/
theorem swept_moves_iff (id : RecId) (d : Idx8) (dir : Side) :
    ((s.installed.det d).binding = some (id, dir) ∧
      (s.installed.sweptDet (s.installed.det d)).state ≠ (s.installed.det d).state) ↔
    (s.record id).freedByFlip = false ∧ (s.det d).binding = some (id, dir) ∧ (s.flip.det d).state ≠ (s.det d).state := by
  rw [← det_flip]
  constructor
  · rintro ⟨hb, hm⟩
    have hd := det_installed s d
    cases hu : s.freesUnit (s.det d).binding with
    | true =>
      rw [hu, if_pos rfl] at hd
      rw [hd] at hb
      cases hb
    | false =>
      rw [hu, if_neg Bool.false_ne_true] at hd
      rw [hd] at hb hm
      refine ⟨?_, hb, hm⟩
      simpa [State.freesUnit, hb] using hu
  · rintro ⟨hf, hb, hm⟩
    rw [det_installed_of_kept hb hf]
    exact ⟨hb, hm⟩

/-- The flip posts the records that it changes, and those whose detectors it moves (R40, R146). -/
theorem mem_flip_queue (id : RecId) : id ∈ s.flip.au.queue ↔ id ∈ s.au.queue ∨ ((s.record id).fields.attention = true ∧
    ((s.record id).sameShown (s.flip.record id) = false ∨
      (s.record id).freedByFlip = false ∧
        ∃ d dir, (s.det d).binding = some (id, dir) ∧ (s.flip.det d).state ≠ (s.det d).state)) := by
  have hq : id ∈ s.flip.au.queue ↔ id ∈ s.installed.sweep.au.queue := Iff.rfl
  have attention (hf : (s.record id).freedByFlip = false) :
      (s.installed.record id).fields.attention = (s.record id).fields.attention := by
    rw [record_installed, flipRecord_fields s hf]
  rw [hq, mem_sweep_queue, installed_queue, mem_updateRecords_queue, record_flip]
  simp only [swept_moves_iff, exists_and_left]
  constructor
  · rintro ((h | ⟨ha, h⟩) | ⟨⟨hf, h⟩, ha⟩)
    · exact .inl h
    · exact .inr ⟨ha, .inl h⟩
    · exact .inr ⟨attention hf ▸ ha, .inr ⟨hf, h⟩⟩
  · rintro (h | ⟨ha, h | ⟨hf, h⟩⟩)
    · exact .inl (.inl h)
    · exact .inl (.inr ⟨ha, h⟩)
    · exact .inr ⟨⟨hf, h⟩, (attention hf).symm ▸ ha⟩

/-! ### Received trunk signalling -/

theorem mem_records {r : Record} : r ∈ s.ct.records.toList ↔ ∃ id, s.record id = r := by
  rw [Vector.mem_toList_iff, Vector.mem_iff_getElem]
  exact ⟨fun ⟨i, hi, e⟩ => ⟨⟨i, hi⟩, e⟩, fun ⟨id, e⟩ => ⟨id.val, id.isLt, e⟩⟩

theorem trunkEndChanged_iff {old new : Record} : trunkEndChanged old new = true ↔
    ∃ cells, new.trunkCells = some cells ∧ old.trunkCells ≠ some cells := by
  unfold trunkEndChanged
  rw [Bool.and_eq_true, decide_eq_true_eq, Option.isSome_iff_exists]
  exact ⟨fun ⟨⟨cells, h⟩, hn⟩ => ⟨cells, h, fun ho => hn (h.trans ho.symm)⟩,
    fun ⟨cells, h, hn⟩ => ⟨⟨cells, h⟩, fun he => hn (he.symm.trans h)⟩⟩

/-- The cells of the trunk ends that the flip changes (R112). -/
theorem mem_restartedCells (n : Nat) : n ∈ s.restartedCells ↔ ∃ id cells,
    (s.flip.record id).trunkCells = some cells ∧ n ∈ cells ∧ (s.record id).trunkCells ≠ some cells := by
  have one (r : Record) : n ∈ (if trunkEndChanged r (s.flipRecord r) then (s.flipRecord r).trunkCells.getD [] else []) ↔
      ∃ cells, (s.flipRecord r).trunkCells = some cells ∧ n ∈ cells ∧ r.trunkCells ≠ some cells := by
    split
    · rename_i h
      obtain ⟨cells, hc, hn⟩ := trunkEndChanged_iff.1 h
      simp [hc, hn]
    · rename_i h
      rw [trunkEndChanged_iff] at h
      constructor
      · intro hm; cases hm
      · rintro ⟨cells, hc, -, hn⟩; exact absurd ⟨cells, hc, hn⟩ h
  simp only [State.restartedCells, List.mem_flatMap, mem_records, one, record_flip]
  constructor
  · rintro ⟨_, ⟨id, rfl⟩, h⟩; exact ⟨id, h⟩
  · rintro ⟨id, h⟩; exact ⟨_, ⟨id, rfl⟩, h⟩

theorem flip_sig (n : Fin 248) : s.flip.ps.sig.get n = if n.val ∈ s.restartedCells then .clear else s.ps.sig.get n := by
  refine (mapVec_get (fun n e => if s.restartedCells.contains n then SigEntry.clear else e) s.ps.sig n).trans ?_
  simp

/-! ### The records of each staged operation -/

section
variable {s} {id : RecId}

theorem flip_active (h : (s.record id).staged = some .activate ∨ (s.record id).staged = some .resume) :
    (s.flip.record id).state = .active ∧ (s.flip.record id).ends = (s.record id).ends := by
  have table := flipRecord_sameTable s (r := s.record id)
  rw [applyStaged_active h] at table
  rw [record_flip]
  exact ⟨table.state, table.ends⟩

theorem flip_suspend (h : (s.record id).staged = some .suspend) :
    (s.flip.record id).state = .suspended ∧ (s.flip.record id).ends = (s.record id).ends := by
  have table := flipRecord_sameTable s (r := s.record id)
  rw [applyStaged_suspend h] at table
  rw [record_flip]
  exact ⟨table.state, table.ends⟩

theorem flip_remap (h : (s.record id).staged = some .remap) :
    (s.flip.record id).state = (s.record id).state ∧ (s.flip.record id).ends = (s.record id).stagedEnds := by
  have table := flipRecord_sameTable s (r := s.record id)
  rw [applyStaged_remap h] at table
  rw [record_flip]
  exact ⟨table.state, table.ends⟩

theorem flip_retire (h : (s.record id).staged = some .retire) (hh : (s.record id).fields.hold ≠ 0) :
    (s.flip.record id).state = .retiring ∧ (s.flip.record id).holdRemaining = (s.record id).fields.hold := by
  have table := flipRecord_sameTable s (r := s.record id)
  rw [applyStaged_retire h hh] at table
  rw [record_flip]
  exact ⟨table.state, table.holdRemaining⟩

theorem flip_staged_none (h : (s.record id).staged.isSome = true) :
    (s.flip.record id).staged = none ∧ (s.flip.record id).stagedEnds = ⟨none, none⟩ := by
  have table := flipRecord_sameTable s (r := s.record id)
  obtain ⟨hs, he⟩ := applyStaged_staged h
  rw [record_flip]
  exact ⟨table.staged.trans hs, table.stagedEnds.trans he⟩

end

/-- Settles O28: records, posting, units, path selection and signalling entries, each by its lemma on the flip. -/
theorem mapFlipAppliesStagedOperations : Obligations.MapFlipAppliesStagedOperations := by
  intro s hr hd
  refine ⟨s.flip, exec_mapFlip hr hd, rfl, rfl, rfl, rfl, ?_, fun i hi => ?_, fun id h => ?_, fun id h => flip_active (.inl h),
    fun id h => flip_suspend h, fun id h => flip_active (.inr h), fun id h => flip_remap h, fun id h hh => flip_retire h hh,
    fun id h hh => ?_, fun id h => flip_staged_none h, rfl, rfl, rfl, rfl, rfl, rfl, flip_queue_prefix s, mem_flip_queue s,
    fun d h => det_flip_of_unbound h, fun k h => ?_, fun d id dir h => det_flip_cases s h, fun k id dir h => keyer_flip_cases s h,
    ?_, fun n => ⟨fun h => ?_, fun h => ?_⟩⟩
  · simp [flip_flag]
  · simp [flip_flag, Nat.ne_of_lt hi]
  · rw [record_flip, flipRecord_unstaged s h]
  · rw [record_flip, flipRecord_freed s (freedByFlip_iff.2 ⟨h, hh⟩)]
  · exact (keyer_flip s k).trans (by simp [State.freesUnit, h])
  · rintro id r q rfl rfl h
    rw [record_flip]
    refine ⟨fun hc hn => ?_, fun hc he => ?_, flipRecord_absent s h⟩
    · obtain ⟨⟨h1, h2, h3, h4, h5, h6, h7⟩, hsw, hm⟩ := flipRecord_changed s h hc hn
      exact ⟨h1, h2, h3, h4, h5, h6, hsw, hm, h7⟩
    · have path := flipRecord_samePath s h hc he
      exact ⟨path.selected, path.lastPath, path.copy, path.tag, path.far, path.farCand, path.health⟩
  · exact (flip_sig s n).trans (if_pos ((mem_restartedCells s n).2 h))
  · refine (flip_sig s n).trans (if_neg fun hm => ?_)
    obtain ⟨id, cells, hc, hmem, hn⟩ := (mem_restartedCells s n).1 hm
    exact hn (h id cells hc hmem)

end Sys2Proof.Machine
end

section
/-! SUPPORT. The view of the state that the laws of the slot maps speak of (R29 to R33), and what leaves it as it is: the work on one
record, on one port, and on the state. -/

namespace Sys2Proof.Machine

/-- The items of a record on which its map entries depend (R30, R33). -/
structure MapItems where
  state : RecState
  ends : Both (Option End)
  staged : Option StagedOp
  stagedEnds : Both (Option End)

def Record.mapItems (r : Record) : MapItems := ⟨r.state, r.ends, r.staged, r.stagedEnds⟩

/-- What the laws of the slot maps speak of: the maps, the pending commit, the records' ends and the ports' configurations. -/
structure MapView where
  active : SlotMap
  next : SlotMap
  pending : Bool
  items : RecId → MapItems
  cfg : Idx8 → TribConfig

def State.mapView (s : State) : MapView where
  active := s.ct.activeMap
  next := s.ct.nextMap
  pending := s.ct.commitPending
  items id := (s.record id).mapItems
  cfg n := (s.trib n).cfg

variable (s : State)

/-! ### Updates that leave the view alone -/

section
variable {s} {t u : State}

theorem mapView_of_ct (h : t.ct = s.ct) (hc : ∀ n, (t.trib n).cfg = (s.trib n).cfg) : t.mapView = s.mapView := by
  unfold State.mapView State.record
  simp only [h, hc]

theorem StuOnly.mapView (h : StuOnly s t) : t.mapView = s.mapView := by
  rw [h.eq]
  rfl

theorem ite_mapView {c : Prop} [Decidable c] (h : t.mapView = s.mapView) (k : u.mapView = s.mapView) :
    (if c then t else u).mapView = s.mapView := by
  split
  · exact h
  · exact k

/-- An event that is due or changes nothing. -/
theorem due_mapView {c : Prop} [Decidable c] (h : t.mapView = s.mapView) : (if c then t else s).mapView = s.mapView :=
  ite_mapView h rfl

end

theorem foldl_mapView {α : Type} (g : State → α → State) (h : ∀ s a, (g s a).mapView = s.mapView) (l : List α) :
    (l.foldl g s).mapView = s.mapView := by
  induction l generalizing s with
  | nil => rfl
  | cons a as ih => exact (ih _).trans (h s a)

theorem mapRecords_mapView (f : RecId → Record → Record) (h : ∀ id r, (f id r).mapItems = r.mapItems) :
    (s.mapRecords f).mapView = s.mapView := by
  have items : (fun id => ((s.mapRecords f).record id).mapItems) = fun id => (s.record id).mapItems :=
    funext fun id => by rw [record_mapRecords, h]
  exact congrArg (fun i => { s.mapView with items := i }) items

theorem updateRecords_mapView (f : RecId → Record → Record) (h : ∀ id r, (f id r).mapItems = r.mapItems) :
    (s.updateRecords f).mapView = s.mapView := mapRecords_mapView s f h

theorem setRecord_mapView (id : RecId) {r : Record} (h : r.mapItems = (s.record id).mapItems) :
    (s.setRecord id r).mapView = s.mapView := by
  have items : (fun j => ((s.setRecord id r).record j).mapItems) = fun j => (s.record j).mapItems := funext fun j => by
    rw [record_setRecord]
    split
    · rename_i e; exact e ▸ h
    · rfl
  exact congrArg (fun i => { s.mapView with items := i }) items

theorem setTrib_mapView (n : Idx8) {p : Trib} (h : p.cfg = (s.trib n).cfg) : (s.setTrib n p).mapView = s.mapView :=
  mapView_of_ct rfl fun m => by
    rw [trib_setTrib]
    split
    · rename_i e; exact e ▸ h
    · rfl

theorem mapTribs_mapView (f : Nat → Trib → Trib) (h : ∀ n p, (f n p).cfg = p.cfg) :
    { s with tribs := mapVec f s.tribs }.mapView = s.mapView :=
  mapView_of_ct rfl fun n => (congrArg Trib.cfg (mapVec_get f s.tribs n)).trans (h _ _)

theorem raiseIf_mapView (c : Bool) (n : Nat) : (s.raiseIf c n).mapView = s.mapView := by cases c <;> rfl

/-! ### The work on one record -/

theorem refresh_mapItems (old new : Record) : (old.refresh new).mapItems = new.mapItems := by
  unfold Record.refresh
  split
  · rfl
  · rfl

theorem withPath_mapItems (r : Record) (sel : PathSel) : (r.withPath sel).mapItems = r.mapItems := by
  unfold Record.withPath
  split
  · rfl
  · rfl

theorem farReceipt_mapItems (r : Record) (turn : Bool) (res : Pair ReadResult) :
    (r.farReceipt turn res).mapItems = r.mapItems := by
  unfold Record.farReceipt
  split
  · rfl
  · split
    · split
      · rfl
      · rfl
    · rfl

theorem readWork_mapItems (r : Record) (pos : Nat) (usable : Pair Bool) (res : Pair ReadResult) :
    (r.readWork pos usable res).mapItems = r.mapItems := by
  unfold Record.readWork
  split
  · rfl
  · exact (refresh_mapItems r _).trans ((farReceipt_mapItems _ _ _).trans (withPath_mapItems _ _))

theorem withFields_mapItems (r : Record) (f : Fields) : (r.withFields f).mapItems = r.mapItems := by
  unfold Record.withFields
  split
  · rfl
  · rfl

/-! ### The work on one port -/

section
variable (p : Trib)

theorem countLoss_cfg : p.countLoss.cfg = p.cfg := by
  unfold Trib.countLoss
  split
  · rfl
  · rfl

theorem loseClock_cfg : p.loseClock.cfg = p.cfg := countLoss_cfg p

theorem loseAlignment_cfg (rest : List Bool) : (p.loseAlignment rest).cfg = p.cfg := countLoss_cfg p

theorem findClock_cfg : p.findClock.cfg = p.cfg := by
  unfold Trib.findClock
  dsimp only
  split
  · rfl
  · rfl

theorem judgeClock_cfg (present : Bool) : (p.judgeClock present).cfg = p.cfg := by
  unfold Trib.judgeClock
  split
  · rfl
  · split
    · exact findClock_cfg p
    · rfl
  · split
    · rfl
    split
    · exact loseClock_cfg p
    · rfl

theorem checkWord_cfg (slot0 : Byte) : (p.checkWord slot0).cfg = p.cfg := by
  unfold Trib.checkWord
  split
  · rfl
  · rfl

theorem slot16_cfg (b : Byte) : (p.slot16 b).cfg = p.cfg := by
  unfold Trib.slot16
  split
  · rfl
  split
  · split
    · rfl
    · rfl
  split
  · split
    · rfl
    split
    · rfl
    · rfl
  · rfl

theorem writeFrame_cfg (frame : List Byte) : (p.writeFrame frame).cfg = p.cfg := by
  unfold Trib.writeFrame
  split
  · rfl
  · rfl

theorem receiveFrame_cfg (bits : List Bool) : (p.receiveFrame bits).cfg = p.cfg := by
  unfold Trib.receiveFrame
  extract_lets slot0 p1 p2
  have h1 : p1.cfg = p.cfg := by
    unfold p1
    split
    · rfl
    · exact checkWord_cfg p slot0
  split
  · exact loseAlignment_cfg p _
  · exact (writeFrame_cfg _ _).trans ((slot16_cfg p1 _).trans h1)

theorem keepBits_cfg (bits : List Bool) : (p.keepBits bits).cfg = p.cfg := by
  unfold Trib.keepBits
  dsimp only
  split
  · rfl
  · rfl
  · rfl

theorem readStore_cfg : p.readStore.cfg = p.cfg := by
  unfold Trib.readStore
  split
  · rfl
  split
  · rfl
  · rfl

theorem readTx_cfg : p.readTx.2.cfg = p.cfg := by
  unfold Trib.readTx
  split
  · split
    · rfl
    · rfl
  · rfl

theorem transmit_cfg : p.transmit.cfg = p.cfg := by
  unfold Trib.transmit
  split
  · exact readTx_cfg p
  · rfl

theorem writeTx_cfg : p.writeTx.cfg = p.cfg := by
  unfold Trib.writeTx
  split
  · split
    · rfl
    · rfl
  · rfl

end

/-! ### The station timing unit and the ports -/

theorem stuReact_mapView : s.stuReact.mapView = s.mapView := (stuReact_only s).mapView

theorem stuStart_mapView : s.stuStart.mapView = s.mapView := by
  unfold State.stuStart
  split
  · rfl
  · exact ((stuCount_only s).trans (stuReact_only _)).mapView

theorem refSeen_mapView : s.refSeen.mapView = s.mapView := stuReact_mapView _

theorem refSilent_mapView : s.refSilent.mapView = s.mapView := by
  unfold State.refSilent
  exact ite_mapView (ite_mapView (stuReact_mapView _) rfl) rfl

theorem changeTrib_mapView (n : Idx8) {p : Trib} (h : p.cfg = (s.trib n).cfg) : (s.changeTrib n p).mapView = s.mapView := by
  unfold State.changeTrib
  exact (stuReact_mapView _).trans ((raiseIf_mapView _ _ _).trans (setTrib_mapView s n h))

/-! ### The path selector -/

theorem countSlips_mapView (p : Port) : (s.countSlips p).mapView = s.mapView := by
  unfold State.countSlips
  refine mapRecords_mapView s _ fun id r => ?_
  split
  · rfl
  · rfl

theorem slipNotice_mapView (p : Port) : (s.slipNotice p).mapView = s.mapView := countSlips_mapView s p

theorem jump_mapView (k : Trunk) : (s.jump k).mapView = s.mapView := slipNotice_mapView _ .trunk

theorem anchor_mapView (k : Trunk) : (s.anchor k).mapView = s.mapView := by
  unfold State.anchor
  exact ite_mapView (jump_mapView _ k) rfl

theorem reanchor_mapView : s.reanchor.mapView = s.mapView := by
  unfold State.reanchor
  exact ite_mapView rfl (ite_mapView (anchor_mapView s _) (ite_mapView (anchor_mapView s _) rfl))

theorem deskewLeave_mapView (k : Trunk) : (s.deskewLeave k).mapView = s.mapView :=
  mapRecords_mapView (s.setDeskew k .reset) _ fun _ _ => rfl

theorem deskewEnter_mapView (k : Trunk) : (s.deskewEnter k).mapView = s.mapView := by
  unfold State.deskewEnter
  exact ite_mapView rfl (anchor_mapView s k)

theorem syncCopies_mapView : s.syncCopies.mapView = s.mapView := by
  unfold State.syncCopies
  refine updateRecords_mapView s _ fun id r => ?_
  split
  · exact refresh_mapItems r _
  · rfl

theorem trunkSettle_mapView (old : State) : (s.trunkSettle old).mapView = s.mapView := by
  unfold State.trunkSettle State.trunkFlags
  exact (stuReact_mapView _).trans
    ((syncCopies_mapView _).trans ((raiseIf_mapView _ _ _).trans (raiseIf_mapView s _ _)))

theorem loseWindow_mapView (k : Trunk) : (s.loseWindow k).mapView = s.mapView := by
  unfold State.loseWindow
  exact ite_mapView (s := s) rfl (anchor_mapView _ k)

theorem applyRead_mapView (k : Trunk) (res : ReadResult) : (s.applyRead k res).mapView = s.mapView := by
  unfold State.applyRead
  exact ite_mapView (loseWindow_mapView _ k) (ite_mapView rfl rfl)

theorem applyReads_mapView (res : Pair ReadResult) : (s.applyReads res).mapView = s.mapView := by
  unfold State.applyReads
  exact ite_mapView ((applyRead_mapView _ _ _).trans (applyRead_mapView s _ _))
    ((applyRead_mapView _ _ _).trans (applyRead_mapView s _ _))

theorem psRead_mapView (res : Pair ReadResult) : (s.psRead res).mapView = s.mapView := by
  unfold State.psRead
  exact (updateRecords_mapView _ _ fun _ r => readWork_mapItems r _ _ _).trans (applyReads_mapView s res)

theorem arrive_mapView (k : Trunk) (f : DFrame) (b : Bool) : (s.arrive k f b).mapView = s.mapView := by
  unfold State.arrive
  dsimp only
  split
  · rfl
  · rfl

theorem handOn_mapView (k : Trunk) (seq : Nat) (header payload : List Byte) (b : Bool) :
    (s.handOn k seq header payload b).mapView = s.mapView := arrive_mapView _ k _ b

theorem changePort_mapView (k : Trunk) (p : TrunkPort) : (s.changePort k p).mapView = s.mapView := by
  unfold State.changePort
  exact (trunkSettle_mapView _ s).trans (ite_mapView (s := s) ((reanchor_mapView _).trans (deskewLeave_mapView _ k)) rfl)

theorem configureTrunks_mapView (ea eb : Bool) (skew : Nat) (code : Byte) :
    (s.configureTrunks ea eb skew code).mapView = s.mapView := by
  unfold State.configureTrunks
  extract_lets pa pb leaves s1 s2 s3
  have h2 : s2.mapView = s1.mapView := due_mapView (deskewLeave_mapView s1 .a)
  have h3 : s3.mapView = s2.mapView := due_mapView (deskewLeave_mapView s2 .b)
  have h4 : (if leaves .a pa || leaves .b pb then s3.reanchor else s3).mapView = s3.mapView := due_mapView (reanchor_mapView s3)
  exact (trunkSettle_mapView _ s).trans (h4.trans (h3.trans h2))

theorem frameReceived_mapView (t : Idx8) (bits : List Bool) : (s.frameReceived t bits).mapView = s.mapView := by
  have port : (s.changeTrib t (((s.trib t).feed bits).receiveFrame ((s.trib t).rx.part ++ bits))).mapView = s.mapView :=
    changeTrib_mapView s t (receiveFrame_cfg _ _)
  unfold State.frameReceived
  exact ite_mapView ((slipNotice_mapView _ _).trans port) port

/-! ### The station frame, but for the multiframe start -/

theorem flush_mapView : s.flush.mapView = s.mapView := by
  refine mapTribs_mapView s _ fun _ p => ?_
  split
  · exact transmit_cfg p
  · rfl

theorem readStores_mapView : s.readStores.mapView = s.mapView := mapTribs_mapView s _ fun _ p => readStore_cfg p

theorem xceWork_mapView (res : Pair ReadResult) : (s.xceWork res).mapView = s.mapView := by
  have sources : (s.writeSources res).mapView = s.mapView := by
    unfold State.writeSources
    refine updateRecords_mapView s _ fun id r => ?_
    split
    · exact refresh_mapItems r _
    · rfl
  exact (mapTribs_mapView (s.writeSources res) (fun n p => (s.writeSources res).fillTrib res (unitAt n) p)
    fun _ _ => writeTx_cfg _).trans sources

theorem filled_mapView (inp : FrameIn) : (s.filled inp).mapView = s.mapView := by
  have counted (s : State) (l : List Idx8) : (l.foldl (fun s t => s.countSlips (.trib t)) s).mapView = s.mapView :=
    foldl_mapView s _ (fun s t => countSlips_mapView s (.trib t)) l
  unfold State.filled
  exact (counted _ _).trans ((xceWork_mapView _ _).trans ((readStores_mapView _).trans (psRead_mapView s s.reads)))

theorem unitWork_mapView (before : State) (res : Pair ReadResult) (repeats : List Idx8) (inp : FrameIn) :
    (s.unitWork before res repeats inp).mapView = s.mapView := by
  unfold State.unitWork
  split
  · exact foldl_mapView (State.detFrames { s with dets := before.dets } res inp.deferDet _) State.restartDets (fun _ _ => rfl) _
  · exact foldl_mapView s (fun s t => s.restartDets (.trib t)) (fun _ _ => rfl) repeats

theorem transmitAll_mapView (defer : BitVec 8) : (s.transmitAll defer).mapView = s.mapView := by
  refine mapTribs_mapView s _ fun n p => ?_
  split
  · rfl
  split
  · rfl
  · exact transmit_cfg p

theorem traffic_mapView (inp : FrameIn) : (s.traffic inp).mapView = s.mapView := by
  unfold State.traffic
  exact (transmitAll_mapView _ _).trans ((unitWork_mapView _ _ _ _ _).trans (filled_mapView s inp))

theorem judge_mapView (inp : FrameIn) : (s.judge inp).mapView = s.mapView := by
  unfold State.judge
  extract_lets trib s1 s2 s3
  have h1 : s1.mapView = s.mapView := foldl_mapView s trib (fun s t => changeTrib_mapView s t (judgeClock_cfg _ _)) _
  have h2 : s2.mapView = s1.mapView := changePort_mapView s1 _ _
  have h3 : s3.mapView = s2.mapView := changePort_mapView s2 _ _
  exact (ite_mapView (refSeen_mapView s3) (refSilent_mapView s3)).trans (h3.trans (h2.trans h1))

end Sys2Proof.Machine
end

section
/-! SUPPORT. How COMMIT builds the Next Map: each placement in order, and what the map built holds (R31, R33, R34). -/

namespace Sys2Proof.Machine

variable {s : State} {m m' : SlotMap} {p : Placement} {l : List Placement} {c : Conflict}

/-! ### Entries after a write -/

/-- A port has no entry beyond its last (R29). -/
theorem write_beyond {q : Port} {n : Nat} (e : Entry) (h : q.size ≤ n) : m.write q n e = m := by
  cases q with
  | trib t => exact if_neg (Nat.not_lt.2 h)
  | trunk =>
    have h' : 248 ≤ n := h
    simp [SlotMap.write, Vector.setIfInBounds_eq_of_size_le h']

theorem entry_write_of_lt (q q' : Port) (n : Nat) {k : Nat} (e : Entry) (hk : k < q'.size) :
    (m.write q n e).entry q' k = if q = q' ∧ n = k then some e else m.entry q' k := by
  by_cases hn : n < q.size
  · exact entry_write m q q' k e hn
  · have hne : ¬ (q = q' ∧ n = k) := fun h => hn (h.1 ▸ h.2 ▸ hk)
    rw [write_beyond e (Nat.not_lt.1 hn), if_neg hne]

/-! ### One placement (R34) -/

theorem placeOne_reserved (h : s.reservedSlot p.port p.slot = true) : s.placeOne m p = .error (.reserved p) := if_pos h

theorem placeOne_disabled (hr : s.reservedSlot p.port p.slot = false) (h : s.portDisabled p.port = true) :
    s.placeOne m p = .error (.disabled p) := by simp [State.placeOne, hr, h]

theorem placeOne_duplicate (hr : s.reservedSlot p.port p.slot = false) (hd : s.portDisabled p.port = false) {e : Entry}
    (h : m.entry p.port p.slot = some e) : s.placeOne m p = .error (.duplicate e.owner p) := by
  simp [State.placeOne, hr, hd, h]

theorem placeOne_vacant (hr : s.reservedSlot p.port p.slot = false) (hd : s.portDisabled p.port = false)
    (h : m.entry p.port p.slot = none) : s.placeOne m p = .ok (m.write p.port p.slot p.entry) := by
  simp [State.placeOne, hr, hd, h]

/-- A placement that is made has passed the three checks, and writes its entry. -/
theorem placeOne_ok (h : s.placeOne m p = .ok m') : s.reservedSlot p.port p.slot = false ∧ s.portDisabled p.port = false ∧
    m.entry p.port p.slot = none ∧ m' = m.write p.port p.slot p.entry := by
  unfold State.placeOne at h
  split at h
  · cases h
  split at h
  · cases h
  split at h
  · cases h
  · rename_i hr hd _ he
    cases h
    exact ⟨Bool.eq_false_of_not_eq_true hr, Bool.eq_false_of_not_eq_true hd, he, rfl⟩

/-! ### Placements in order (R33, R34) -/

theorem placeAll_cons_ok (h : s.placeAll (p :: l) m = .ok m') :
    ∃ m1, s.placeOne m p = .ok m1 ∧ s.placeAll l m1 = .ok m' := by
  unfold State.placeAll at h
  split at h
  · cases h
  · exact ⟨_, ‹_›, h⟩

theorem placeAll_cons_of_ok {m1 : SlotMap} (h : s.placeOne m p = .ok m1) : s.placeAll (p :: l) m = s.placeAll l m1 := by
  simp [State.placeAll, h]

/-- The first placement that fails ends the build. -/
theorem placeAll_error (h : s.placeAll l m = .error c) : ∃ before p rest m', l = before ++ p :: rest ∧
    s.placeAll before m = .ok m' ∧ s.placeOne m' p = .error c := by
  induction l generalizing m with
  | nil => cases h
  | cons p ps ih =>
    cases hp : s.placeOne m p with
    | error d =>
      rw [State.placeAll, hp] at h
      cases h
      exact ⟨[], p, ps, m, rfl, rfl, hp⟩
    | ok m1 =>
      rw [placeAll_cons_of_ok hp] at h
      obtain ⟨before, q, rest, m', rfl, hb, hq⟩ := ih h
      exact ⟨p :: before, q, rest, m', rfl, (placeAll_cons_of_ok hp).trans hb, hq⟩

/-- A map built holds the entries placed beside those it had: no placement overwrites an entry. -/
theorem entry_placeAll (h : s.placeAll l m = .ok m') {q : Port} {k : Nat} (hk : k < q.size) (e : Entry) :
    m'.entry q k = some e ↔ m.entry q k = some e ∨ ⟨e, q, k⟩ ∈ l := by
  induction l generalizing m with
  | nil => cases h; simp
  | cons p ps ih =>
    obtain ⟨m1, hp, hps⟩ := placeAll_cons_ok h
    obtain ⟨-, -, hvacant, rfl⟩ := placeOne_ok hp
    rw [ih hps, entry_write_of_lt _ _ _ _ hk, List.mem_cons]
    obtain ⟨entry, port, slot⟩ := p
    by_cases hpos : port = q ∧ slot = k
    · obtain ⟨rfl, rfl⟩ := hpos
      have hvacant : m.entry port slot = none := hvacant
      simp [hvacant, eq_comm]
    · have hne : (⟨e, q, k⟩ : Placement) ≠ ⟨entry, port, slot⟩ := fun heq => by
        cases heq
        exact hpos ⟨rfl, rfl⟩
      simp [hpos, hne]

/-- Every placement made is on an enabled port, and none on a reserved slot. -/
theorem placeAll_allowed (h : s.placeAll l m = .ok m') :
    ∀ p ∈ l, s.reservedSlot p.port p.slot = false ∧ s.portDisabled p.port = false := by
  induction l generalizing m with
  | nil => simp
  | cons p ps ih =>
    obtain ⟨m1, hp, hps⟩ := placeAll_cons_ok h
    obtain ⟨hr, hd, -⟩ := placeOne_ok hp
    exact List.forall_mem_cons.2 ⟨⟨hr, hd⟩, ih hps⟩

/-! ### The placements of the table (R33) -/

theorem mem_mapFrom {α β : Type} (f : Nat → α → β) (l : List α) (b : β) :
    b ∈ mapFrom f 0 l ↔ ∃ i a, l[i]? = some a ∧ f i a = b := by
  simp only [List.mem_iff_getElem?, mapFrom_getElem?, Nat.zero_add, Option.map_eq_some_iff]

theorem mem_placeEnd (id : RecId) (sd : Side) (d? : Option End) (e : Entry) (q : Port) (n : Nat) :
    ⟨e, q, n⟩ ∈ placeEnd id sd d? ↔
      e.owner = id ∧ e.side = sd ∧ ∃ d, d? = some d ∧ d.port = q ∧ d.list[e.pos]? = some n := by
  obtain ⟨owner, side, pos⟩ := e
  cases d? with
  | none => simp [placeEnd]
  | some d =>
    simp only [placeEnd, mem_mapFrom, Placement.mk.injEq, Entry.mk.injEq, Option.some.injEq, exists_eq_left']
    constructor
    · rintro ⟨i, a, hi, ⟨rfl, rfl, rfl⟩, rfl, rfl⟩
      exact ⟨rfl, rfl, rfl, hi⟩
    · rintro ⟨rfl, rfl, rfl, hi⟩
      exact ⟨pos, n, hi, ⟨rfl, rfl, rfl⟩, rfl, rfl⟩

theorem mem_placements (e : Entry) (q : Port) (n : Nat) : ⟨e, q, n⟩ ∈ s.placements ↔
    ∃ d, (s.record e.owner).candidate.get e.side = some d ∧ d.port = q ∧ d.list[e.pos]? = some n := by
  obtain ⟨owner, side, pos⟩ := e
  simp only [State.placements, List.mem_flatMap, List.mem_append, mem_placeEnd]
  constructor
  · rintro ⟨id, -, ⟨rfl, rfl, h⟩ | ⟨rfl, rfl, h⟩⟩
    · exact h
    · exact h
  · intro h
    refine ⟨owner, List.mem_finRange _, ?_⟩
    cases side with
    | x => exact .inl ⟨rfl, rfl, h⟩
    | y => exact .inr ⟨rfl, rfl, h⟩

/-! ### The map that COMMIT accepts -/

theorem entry_buildNext (h : s.buildNext = .ok m) {q : Port} {k : Nat} (hk : k < q.size) (e : Entry) :
    m.entry q k = some e ↔ ⟨e, q, k⟩ ∈ s.placements := by
  rw [entry_placeAll h hk, entry_vacant]
  simp

/-- The map built holds each candidate entry once, and no other (R33). -/
theorem agrees_buildNext (h : s.buildNext = .ok m) : Agrees m fun id => (s.record id).candidate := fun q n e hn => by
  rw [entry_buildNext h hn, mem_placements]

/-- An entry that no placement may be made in is vacant in the map built. -/
theorem entry_buildNext_eq_none (h : s.buildNext = .ok m) {q : Port} {k : Nat} (hk : k < q.size)
    (hq : s.reservedSlot q k = true ∨ s.portDisabled q = true) : m.entry q k = none := by
  refine Option.eq_none_iff_forall_ne_some.2 fun e he => ?_
  obtain ⟨hr, hd⟩ := placeAll_allowed h _ ((entry_buildNext h hk e).1 he)
  obtain hq | hq := hq
  · exact Bool.false_ne_true (hr.symm.trans hq)
  · exact Bool.false_ne_true (hd.symm.trans hq)

theorem reservedFree_buildNext (h : s.buildNext = .ok m) : ReservedFree s m := fun t =>
  ⟨entry_buildNext_eq_none h (q := .trib t) (by decide : 0 < 32) (.inl rfl),
    fun hs => entry_buildNext_eq_none h (q := .trib t) (by decide : 16 < 32) (.inl hs)⟩

theorem disabled_buildNext (h : s.buildNext = .ok m) {t : Idx8} {n : Nat} (hn : n < 32) (hd : (s.trib t).cfg.enable = false) :
    m.entry (.trib t) n = none :=
  entry_buildNext_eq_none h (q := .trib t) hn (.inr (by simp [State.portDisabled, hd]))

end Sys2Proof.Machine
end

section
/-! SUPPORT. What keeps the laws of the slot maps: an unchanged view, the writes of one record, the freeing of records, and the map
flip (R29 to R33, R38, R39, R43). -/

namespace Sys2Proof.Machine

variable {s t u : State}

/-- A change that keeps the reserved slots free (R29, R31), and the maps in agreement with the records (R30, R33). -/
structure LawsKept (s t : State) : Prop where
  reserved : ReservedLaw s → ReservedLaw t
  maps : MapLaw s → MapLaw t

theorem LawsKept.refl : LawsKept s s := ⟨id, id⟩

theorem LawsKept.trans (h : LawsKept s t) (k : LawsKept t u) : LawsKept s u := ⟨k.reserved ∘ h.reserved, k.maps ∘ h.maps⟩

theorem LawsKept.due {c : Prop} [Decidable c] (h : c → LawsKept s t) : LawsKept s (if c then t else s) := by
  split
  · exact h ‹_›
  · exact .refl

/-! ### The laws depend on the view alone -/

theorem reservedFree_of_cfg {m : SlotMap} (hc : ∀ n, (t.trib n).cfg = (s.trib n).cfg) (h : ReservedFree s m) :
    ReservedFree t m := fun n => by
  rw [hc n]
  exact h n

section
variable {q r : Record} (h : q.mapItems = r.mapItems)
include h

theorem stagedFits_of_mapItems (hr : r.stagedFits) : q.stagedFits := by
  have hs : q.state = r.state := congrArg MapItems.state h
  have ho : q.staged = r.staged := congrArg MapItems.staged h
  unfold Record.stagedFits at *
  rwa [hs, ho]

theorem mapEnds_of_mapItems : q.mapEnds = r.mapEnds := by
  have hs : q.state = r.state := congrArg MapItems.state h
  have he : q.ends = r.ends := congrArg MapItems.ends h
  unfold Record.mapEnds Record.inMap
  rw [hs, he]

theorem candidate_of_mapItems : q.candidate = r.candidate := by
  have hs : q.state = r.state := congrArg MapItems.state h
  have he : q.ends = r.ends := congrArg MapItems.ends h
  have ho : q.staged = r.staged := congrArg MapItems.staged h
  have hp : q.stagedEnds = r.stagedEnds := congrArg MapItems.stagedEnds h
  unfold Record.candidate
  rw [hs, he, ho, hp]

end

theorem LawsKept.of_mapView (h : t.mapView = s.mapView) : LawsKept s t := by
  have ha : t.ct.activeMap = s.ct.activeMap := congrArg MapView.active h
  have hn : t.ct.nextMap = s.ct.nextMap := congrArg MapView.next h
  have hp : t.ct.commitPending = s.ct.commitPending := congrArg MapView.pending h
  have hi (id : RecId) : (t.record id).mapItems = (s.record id).mapItems := congrFun (congrArg MapView.items h) id
  have hc (n : Idx8) : (t.trib n).cfg = (s.trib n).cfg := congrFun (congrArg MapView.cfg h) n
  refine ⟨fun ⟨active, next, vacant⟩ => ?_, fun ⟨fits, active, next⟩ => ?_⟩
  · unfold ReservedLaw
    rw [ha, hn, hp]
    exact ⟨reservedFree_of_cfg hc active, reservedFree_of_cfg hc next, vacant⟩
  · have ends : (fun id => (t.record id).mapEnds) = fun id => (s.record id).mapEnds :=
      funext fun id => mapEnds_of_mapItems (hi id)
    have candidates : (fun id => (t.record id).candidate) = fun id => (s.record id).candidate :=
      funext fun id => candidate_of_mapItems (hi id)
    unfold MapLaw
    rw [ha, hn, hp, ends, candidates]
    exact ⟨fun id => stagedFits_of_mapItems (hi id) (fits id), active, next⟩

/-- What follows a change that leaves the view alone. -/
theorem LawsKept.after (k : LawsKept t u) (h : t.mapView = s.mapView) : LawsKept s u := (LawsKept.of_mapView h).trans k

/-- What a change that leaves the view alone follows. -/
theorem LawsKept.then (k : LawsKept s t) (h : u.mapView = t.mapView) : LawsKept s u := k.trans (.of_mapView h)

/-! ### Vacating (R39, R43) -/

theorem reservedFree_vacate {m : SlotMap} (gone : RecId → Bool) (h : ReservedFree s m) : ReservedFree s (m.vacate gone) := by
  intro n
  obtain ⟨h0, h16⟩ := h n
  simp only [entry_vacate]
  exact ⟨by rw [h0]; rfl, fun hs => by rw [h16 hs]; rfl⟩

theorem vacate_vacant (gone : RecId → Bool) : SlotMap.vacant.vacate gone = .vacant := by
  have keep (k : Nat) : mapVec (fun _ (e : Option Entry) => e.filter fun e => !gone e.owner) (Vector.replicate k none) =
      Vector.replicate k none := by
    refine Vector.ext fun i hi => ?_
    have filtered := mapVec_get (fun _ (e : Option Entry) => e.filter fun e => !gone e.owner) (Vector.replicate k none) ⟨i, hi⟩
    have vacant : (Vector.replicate k (none : Option Entry)).get ⟨i, hi⟩ = none := Vector.getElem_replicate _
    rw [vacant] at filtered
    exact filtered.trans vacant.symm
  exact congrArg₂ SlotMap.mk (keep 256) (keep 248)

/-- The map vacated agrees with the ends of the records that are left. -/
theorem agrees_vacate {m : SlotMap} {ends : RecId → Both (Option End)} (gone : RecId → Bool) (h : Agrees m ends) :
    Agrees (m.vacate gone) fun id => if gone id then ⟨none, none⟩ else ends id := by
  intro p n e hn
  rw [entry_vacate, Option.filter_eq_some_iff, h p n e hn]
  cases hg : gone e.owner with
  | false => simp [hg]
  | true => cases hs : e.side <;> simp [hg, Both.get]

/-- Records freed leave both maps with their units (R44). -/
theorem freeRecords_laws (gone : RecId → Bool) : LawsKept s (s.freeRecords gone) := by
  refine ⟨fun ⟨active, next, vacant⟩ => ⟨reservedFree_vacate gone active, reservedFree_vacate gone next, fun hp => ?_⟩,
    fun ⟨fits, active, next⟩ => ⟨fun id => ?_, ?_, fun hp => ?_⟩⟩
  · exact (congrArg (SlotMap.vacate · gone) (vacant hp)).trans (vacate_vacant gone)
  · rw [record_freeRecords]
    split
    · trivial
    · exact fits id
  · have ends : (fun id => ((s.freeRecords gone).record id).mapEnds) =
        fun id => if gone id then ⟨none, none⟩ else (s.record id).mapEnds := funext fun id => by
      rw [record_freeRecords]
      split
      · rfl
      · rfl
    rw [ends]
    exact agrees_vacate gone active
  · have candidates : (fun id => ((s.freeRecords gone).record id).candidate) =
        fun id => if gone id then ⟨none, none⟩ else (s.record id).candidate := funext fun id => by
      rw [record_freeRecords]
      split
      · rfl
      · rfl
    rw [candidates]
    exact agrees_vacate gone (next hp)

/-! ### The map flip (R38, R39) -/

section
variable {r : Record}

/-- A staged operation leaves none behind. -/
theorem applyStaged_stagedFits (h : r.stagedFits) : r.applyStaged.stagedFits := by
  cases hs : r.staged with
  | none => rwa [applyStaged_unstaged hs]
  | some op =>
    have hn := (applyStaged_staged (r := r) (by simp [hs])).1
    unfold Record.stagedFits
    rw [hn]
    trivial

/-- The candidate ends are those that the staged operation puts into the map (R33, R38). -/
theorem applyStaged_mapEnds (h : r.stagedFits) (hf : r.freedByFlip = false) : r.applyStaged.mapEnds = r.candidate := by
  unfold Record.stagedFits at h
  cases hs : r.staged with
  | none =>
    rw [applyStaged_unstaged hs]
    cases hst : r.state <;> simp [Record.mapEnds, Record.inMap, Record.candidate, hs, hst]
  | some op =>
    simp only [hs] at h
    cases op with
    | activate =>
      rw [applyStaged_active (.inl hs)]
      simp [Record.mapEnds, Record.inMap, Record.candidate, hs, h]
    | resume =>
      rw [applyStaged_active (.inr hs)]
      simp [Record.mapEnds, Record.inMap, Record.candidate, hs, h]
    | suspend =>
      rw [applyStaged_suspend hs]
      simp [Record.mapEnds, Record.inMap, Record.candidate, hs, h]
    | remap =>
      rw [applyStaged_remap hs]
      obtain h | h := h <;> simp [Record.mapEnds, Record.inMap, Record.candidate, hs, h]
    | retire =>
      have hh : r.fields.hold ≠ 0 := fun hh => Bool.false_ne_true (hf.symm.trans (freedByFlip_iff.2 ⟨hs, hh⟩))
      rw [applyStaged_retire hs hh]
      obtain h | h := h <;> simp [Record.mapEnds, Record.inMap, Record.candidate, hs, h]

theorem flipRecord_mapEnds (s : State) (h : r.stagedFits) :
    (s.flipRecord r).mapEnds = if r.freedByFlip then ⟨none, none⟩ else r.candidate := by
  split
  · rename_i hf
    rw [flipRecord_freed s hf]
    rfl
  · rename_i hf
    rw [← applyStaged_mapEnds h (Bool.eq_false_of_not_eq_true hf)]
    have table := flipRecord_sameTable s (r := r)
    unfold Record.mapEnds
    rw [table.inMap, table.ends]

theorem flipRecord_stagedFits (s : State) (h : r.stagedFits) : (s.flipRecord r).stagedFits := by
  have table := flipRecord_sameTable s (r := r)
  have fits := applyStaged_stagedFits h
  unfold Record.stagedFits at *
  rwa [table.staged, table.state]

end

/-- A pending commit's Next Map becomes the Active Map, but for the entries of the records that the flip frees. -/
theorem flip_laws (hp : s.ct.commitPending = true) : LawsKept s s.flip := by
  have hn : s.flip.ct.nextMap = .vacant := vacate_vacant fun id => (s.record id).freedByFlip
  refine ⟨fun ⟨_, next, _⟩ => ⟨reservedFree_vacate (fun id => (s.record id).freedByFlip) next, ?_, fun _ => hn⟩,
    fun ⟨fits, _, next⟩ => ⟨fun id => ?_, ?_, fun h => Bool.noConfusion h⟩⟩
  · rw [hn]
    exact reservedFree_vacant _
  · rw [record_flip]
    exact flipRecord_stagedFits s (fits id)
  · have ends : (fun id => (s.flip.record id).mapEnds) =
        fun id => if (s.record id).freedByFlip then ⟨none, none⟩ else (s.record id).candidate := funext fun id => by
      rw [record_flip]
      exact flipRecord_mapEnds s (fits id)
    rw [ends]
    exact agrees_vacate (fun id => (s.record id).freedByFlip) (next hp)

/-! ### The multiframe start and the station frame -/

theorem expire_laws (id : RecId) : LawsKept s (s.expire id) := (freeRecords_laws fun i => i == id).then rfl

theorem countdown_laws : LawsKept s s.countdown := by
  unfold State.countdown
  refine (freeRecords_laws _).after (mapRecords_mapView s _ fun id r => ?_)
  split
  · rfl
  · rfl

theorem multiframeStart_laws : LawsKept s s.multiframeStart :=
  (countdown_laws.after (stuStart_mapView s)).then rfl

theorem pending_of_flipDue (h : s.flipDue = true) : s.ct.commitPending = true := by
  simp only [State.flipDue, Bool.and_eq_true] at h
  exact h.1.1

theorem newFrame_laws : LawsKept s s.newFrame := by
  unfold State.newFrame
  split
  · extract_lets s1 s2
    have start : LawsKept s s1 := by
      unfold s1
      split
      · exact .refl
      · exact multiframeStart_laws
    have flip : LawsKept s1 s2 := .due fun h => flip_laws (pending_of_flipDue h)
    exact (start.trans flip).then rfl
  · exact .of_mapView rfl

theorem opening_laws (inp : FrameIn) : LawsKept s (s.opening inp) := by
  have slips (s : State) : (s.repeating.foldl (fun s t => s.slipNotice (.trib t)) s).mapView = s.mapView :=
    foldl_mapView s _ (fun s t => slipNotice_mapView s (.trib t)) _
  unfold State.opening
  exact newFrame_laws.after ((due_mapView (slips s.flush)).trans (flush_mapView s))

theorem stationFrame_laws (inp : FrameIn) : LawsKept s (((s.opening inp).traffic inp).judge inp) :=
  (opening_laws inp).then ((judge_mapView _ inp).trans (traffic_mapView _ inp))

/-! ### Writes of one record, with no commit pending -/

/-- A record written without a commit pending keeps the laws if its ends in the map stay and its staged operation fits. -/
theorem setRecord_laws (hp : s.ct.commitPending = false) (id : RecId) {r : Record}
    (fits : (s.record id).stagedFits → r.stagedFits) (ends : r.mapEnds = (s.record id).mapEnds) : LawsKept s (s.setRecord id r) := by
  refine ⟨fun h => h, fun ⟨hfits, active, _⟩ => ⟨fun j => ?_, ?_, fun h => Bool.noConfusion (hp.symm.trans h)⟩⟩
  · rw [record_setRecord]
    split
    · rename_i e; exact fits (e ▸ hfits id)
    · exact hfits j
  · have same : (fun j => ((s.setRecord id r).record j).mapEnds) = fun j => (s.record j).mapEnds := funext fun j => by
      rw [record_setRecord]
      split
      · rename_i e; exact e ▸ ends
      · rfl
    rw [same]
    exact active

theorem writeRecord_laws (hp : s.ct.commitPending = false) (id : RecId) {r : Record} (attention : Bool)
    (fits : (s.record id).stagedFits → r.stagedFits) (ends : r.mapEnds = (s.record id).mapEnds) :
    LawsKept s (s.writeRecord id r attention) := (setRecord_laws hp id fits ends).then rfl

/-- A port configured without a commit pending keeps the laws if signalling goes on with slot 16 vacant alone (R31, R49). -/
theorem changeTrib_laws (hp : s.ct.commitPending = false) (n : Idx8) {p : Trib} (hs : p.cfg.signalling = true →
    (s.trib n).cfg.signalling = true ∨ s.ct.activeMap.entry (.trib n) 16 = none) : LawsKept s (s.changeTrib n p) := by
  have set : LawsKept s (s.setTrib n p) := by
    refine ⟨fun ⟨active, _, vacant⟩ => ⟨fun m => ⟨(active m).1, fun hm => ?_⟩, ?_, vacant⟩, fun h => h⟩
    · rw [trib_setTrib] at hm
      split at hm
      · rename_i e
        subst e
        exact (hs hm).elim (active n).2 fun h => h
      · exact (active m).2 hm
    · rw [setTrib_ct, vacant hp]
      exact reservedFree_vacant _
  unfold State.changeTrib
  exact set.then ((stuReact_mapView _).trans (raiseIf_mapView _ _ _))

end Sys2Proof.Machine
end

section
/-! SUPPORT. The commands keep the laws of the slot maps: those that leave the view alone, then those that write it. -/

namespace Sys2Proof.Machine

variable (s : State)

/-! ### Transactions -/

/-- A command's own work leaves the view alone in every state. -/
def BodyQuiet (f : State → Code × State) : Prop := ∀ s, (f s).2.mapView = s.mapView

/-- A command's own work keeps the laws in every state without a commit pending. -/
def BodyLaws (f : State → Code × State) : Prop := ∀ s, s.ct.commitPending = false → LawsKept s (f s).2

section
variable {s} {ps : List Byte} {exempt responds : Bool} {own : Option (State → Code × State)}

/-- A transaction released or refused keeps the laws; one that is run does so if its command does, which no commit holds up
unless the command is BUSY-exempt (R164, R165). -/
theorem transact_laws (h : ∀ f, own = some f → exempt = true ∨ s.ct.commitPending = false → LawsKept s (f s).2) :
    LawsKept s (transact ps exempt responds own s) := by
  by_cases hb : exempt = true ∨ s.ct.commitPending = false
  · obtain e | ⟨c, e⟩ | ⟨f, hf, e⟩ := transact_cases ps exempt responds own s
    · rw [e]; exact .of_mapView rfl
    · rw [e]; exact .of_mapView rfl
    · rw [e]; exact (h f hf hb).then rfl
  · simp only [not_or, Bool.not_eq_true, Bool.not_eq_false] at hb
    obtain ⟨rfl, hb⟩ := hb
    cases hx : s.executes with
    | false => rw [transact_released hx]; exact .of_mapView rfl
    | true =>
      have hr := executes_iff_runs.1 hx
      cases own with
      | none => rw [transact_length hr]; exact .of_mapView rfl
      | some f => rw [transact_busy hr hb]; exact .of_mapView rfl

theorem transact_quiet (h : ∀ f, own = some f → BodyQuiet f) : LawsKept s (transact ps exempt responds own s) :=
  transact_laws fun f hf _ => .of_mapView (h f hf s)

theorem transact_staged (h : ∀ f, own = some f → BodyLaws f) : LawsKept s (transact ps false responds own s) :=
  transact_laws fun f hf hp => h f hf s (hp.resolve_left Bool.false_ne_true)

variable {P : (State → Code × State) → Prop}

theorem noParam_all {g : State → Code × State} (h : P g) : ∀ f, noParam ps g = some f → P f := by
  unfold noParam
  split
  · rintro _ ⟨⟩; exact h
  · simp

theorem oneParam_all {g : Byte → State → Code × State} (h : ∀ a, P (g a)) : ∀ f, oneParam ps g = some f → P f := by
  unfold oneParam
  split
  · rintro _ ⟨⟩; exact h _
  · simp

theorem twoParams_all {g : Byte → Byte → State → Code × State} (h : ∀ a b, P (g a b)) :
    ∀ f, twoParams ps g = some f → P f := by
  unfold twoParams
  split
  · rintro _ ⟨⟩; exact h _ _
  · simp

theorem threeParams_all {g : Byte → Byte → Byte → State → Code × State} (h : ∀ a b c, P (g a b c)) :
    ∀ f, threeParams ps g = some f → P f := by
  unfold threeParams
  split
  · rintro _ ⟨⟩; exact h _ _ _
  · simp

theorem fourParams_all {g : Byte → Byte → Byte → Byte → State → Code × State} (h : ∀ a b c d, P (g a b c d)) :
    ∀ f, fourParams ps g = some f → P f := by
  unfold fourParams
  split
  · rintro _ ⟨⟩; exact h _ _ _ _
  · simp

end

theorem ranged_quiet {α : Type} (a : Option α) {f : α → State → Code × State} (h : ∀ v, BodyQuiet (f v)) :
    BodyQuiet (ranged a f) := by
  intro s
  unfold ranged
  split
  · rfl
  · exact h _ s

theorem answering_quiet (r : State → List Byte) : BodyQuiet (answering r) := fun _ => rfl

/-! ### Commands that leave the view alone -/

theorem nextAttentionBody_quiet : BodyQuiet nextAttentionBody := fun s => by
  unfold nextAttentionBody
  split
  · rfl
  · rfl

theorem setMaskBody_quiet (a b c : Byte) : BodyQuiet (setMaskBody a b c) := fun s => by
  unfold setMaskBody
  split
  · rfl
  · rfl

theorem clearAll_mapView : s.clearAll.mapView = s.mapView :=
  (mapTribs_mapView (s.mapRecords fun _ r => r.clearCounters) (fun _ p => p.clearCounters) fun _ _ => rfl).trans
    (mapRecords_mapView s _ fun _ _ => rfl)

/-- The six kinds of CLEAR COUNTERS (R174). -/
theorem clearCountersBody_quiet (kind index : Byte) : BodyQuiet (clearCountersBody kind index) := by
  intro s
  unfold clearCountersBody
  split
  · exact ranged_quiet _ (fun t s => setTrib_mapView s t (p := (s.trib t).clearCounters) rfl) s
  · exact ranged_quiet _ (fun _ _ => rfl) s
  · exact setRecord_mapView s _ rfl
  · exact ranged_quiet _ (fun _ _ => rfl) s
  · exact ranged_quiet _ (fun _ _ => rfl) s
  · split
    · exact clearAll_mapView s
    · rfl
  · rfl

theorem lineConfigBody_quiet (a b c d : Byte) : BodyQuiet (lineConfigBody a b c d) := fun s => by
  unfold lineConfigBody
  split
  · split
    · rfl
    · exact ite_mapView (s := s) rfl rfl
  · rfl

theorem alarmMaskBody_quiet (b : Byte) : BodyQuiet (alarmMaskBody b) := ranged_quiet _ fun _ _ => rfl

theorem setFieldBody_quiet (a b c d : Byte) : BodyQuiet (setFieldBody a b c d) := by
  intro s
  unfold setFieldBody
  dsimp only
  split
  · rfl
  split
  · rfl
  split
  · split
    · rfl
    split
    · rfl
    split
    · rfl
    · exact setRecord_mapView s _ rfl
  · split
    · rfl
    · exact setRecord_mapView s _ (withFields_mapItems _ _)

theorem nextRecordBody_quiet : BodyQuiet nextRecordBody := fun s => by
  unfold nextRecordBody
  dsimp only
  split
  · rfl
  split
  · rfl
  · rfl
  · rfl

theorem mapQueryBody_quiet (a b : Byte) : BodyQuiet (mapQueryBody a b) := fun s => by
  unfold mapQueryBody
  split
  · rfl
  split
  · rfl
  · rfl

theorem timingConfigure_quiet (a b : Byte) (l : List Byte) : BodyQuiet (timingConfigure a b l) := fun s => by
  unfold timingConfigure
  split
  · split
    · rfl
    · exact stuReact_mapView _
  · rfl

theorem trunkConfigBody_quiet (a b c d : Byte) : BodyQuiet (trunkConfigBody a b c d) := fun s => by
  unfold trunkConfigBody
  split
  · split
    · rfl
    · exact configureTrunks_mapView s _ _ _ _
  · rfl

theorem recentreBody_quiet (b : Byte) : BodyQuiet (recentreBody b) := ranged_quiet _ fun k s => by
  split
  · rfl
  · exact (trunkSettle_mapView _ s).trans (jump_mapView _ k)

theorem detBindBody_quiet (a b c : Byte) : BodyQuiet (detBindBody a b c) := fun s => by
  unfold detBindBody
  split
  · dsimp only
    split
    · rfl
    · rfl
  · rfl

theorem detUnbindBody_quiet (b : Byte) : BodyQuiet (detUnbindBody b) := ranged_quiet _ fun d s => by
  split
  · rfl
  · rfl
  · rfl
  · rfl

theorem detConfigBody_quiet (b : Byte) (c : Option DetConfig) : BodyQuiet (detConfigBody b c) := fun s => by
  unfold detConfigBody
  split
  · split
    · rfl
    · rfl
    · rfl
    · rfl
  · rfl

theorem detConfigShape_quiet (ps : List Byte) : ∀ f, detConfigShape ps = some f → BodyQuiet f := by
  unfold detConfigShape
  split
  · rintro _ ⟨⟩; exact detConfigBody_quiet _ _
  · simp

theorem keyBindBody_quiet (a b c : Byte) : BodyQuiet (keyBindBody a b c) := fun s => by
  unfold keyBindBody
  split
  · dsimp only
    split
    · rfl
    · rfl
  · rfl

theorem keyUnbindBody_quiet (b : Byte) : BodyQuiet (keyUnbindBody b) := ranged_quiet _ fun k s => by
  split
  · rfl
  · rfl
  · rfl
  · rfl

theorem keyConfigBody_quiet (b : Byte) (c : Option KeyConfig) : BodyQuiet (keyConfigBody b c) := fun s => by
  unfold keyConfigBody
  split
  · split
    · rfl
    · rfl
    · rfl
  · rfl

theorem keyConfigShape_quiet (ps : List Byte) : ∀ f, keyConfigShape ps = some f → BodyQuiet f := by
  unfold keyConfigShape
  split
  · rintro _ ⟨⟩; exact keyConfigBody_quiet _ _
  · simp

theorem keyTestBody_quiet (a b c : Byte) : BodyQuiet (keyTestBody a b c) := ranged_quiet _ fun k s => by
  dsimp only
  split
  · rfl
  split
  · rfl
  split
  · rfl
  · rfl

/-! ### Commands on records and ports, taken with no commit pending -/

theorem mapEnds_of_not_inMap {r : Record} (h : r.inMap = false) : r.mapEnds = ⟨none, none⟩ := by simp [Record.mapEnds, h]

theorem inMap_of_draft {r : Record} (h : r.state = .draft) : r.inMap = false := by simp [Record.inMap, h]

theorem active_or_suspended {st : RecState} (h : ¬ (st = .free ∨ st = .retiring)) (hd : ¬ st = .draft) :
    st = .active ∨ st = .suspended := by
  revert h hd
  cases st <;> decide

theorem openBody_laws (idb cls : Byte) : BodyLaws (openBody idb cls) := by
  intro s hp
  unfold openBody
  dsimp only
  split
  · exact .refl
  · rename_i hfree
    have old : (s.record (readId idb)).inMap = false := by simp [Record.inMap, not_not.1 hfree]
    unfold ranged
    split
    · exact .refl
    · refine writeRecord_laws hp (readId idb) true (fun _ => trivial) ?_
      rw [mapEnds_of_not_inMap old]
      rfl

theorem discardBody_laws (idb : Byte) : BodyLaws (discardBody idb) := fun s _ => by
  unfold discardBody
  dsimp only
  split
  · exact .refl
  · exact freeRecords_laws _

/-- An end written in DRAFT is in no map, and a staged REMAP is of a record in the map (R15, R16). -/
theorem setEndBody_laws (idb endb port : Byte) (entries : List Byte) : BodyLaws (setEndBody idb endb port entries) := by
  intro s hp
  unfold setEndBody
  dsimp only
  split
  · exact .refl
  rename_i hstate
  split
  · split
    · exact .refl
    split
    · rename_i hdraft
      refine writeRecord_laws hp (readId idb) _ (fun h => h) ?_
      rw [mapEnds_of_not_inMap (r := s.record (readId idb)) (inMap_of_draft hdraft)]
      exact mapEnds_of_not_inMap (inMap_of_draft hdraft)
    split
    · exact .refl
    · rename_i hdraft _
      refine setRecord_laws hp _ (fun _ => ?_) rfl
      exact active_or_suspended hstate hdraft
  · exact .refl

theorem activateBody_laws (idb : Byte) : BodyLaws (activateBody idb) := by
  intro s hp
  unfold activateBody
  dsimp only
  split
  · exact .refl
  rename_i hdraft
  split
  · exact .refl
  split
  · exact .refl
  split
  · exact .refl
  · exact setRecord_laws hp _ (fun _ => not_not.1 hdraft) rfl

/-- Staging keeps the laws for an operation in a state that allows it (R21, R22, R23). -/
theorem stageBody_laws (op : StagedOp) (allowed : RecState → Bool) (idb : Byte)
    (h : ∀ r : Record, allowed r.state = true → { r with staged := some op }.stagedFits) :
    BodyLaws (stageBody op allowed idb) := by
  intro s hp
  unfold stageBody
  dsimp only
  split
  · exact .refl
  rename_i hallowed
  split
  · exact .refl
  · exact setRecord_laws hp _ (fun _ => h _ (by simpa using hallowed)) rfl

theorem revokeBody_laws (idb : Byte) : BodyLaws (revokeBody idb) := by
  intro s hp
  unfold revokeBody
  dsimp only
  split
  · exact .refl
  split
  · exact .refl
  · exact setRecord_laws hp _ (fun _ => trivial) rfl

theorem configure_cfg (p : Trib) (c : TribConfig) : (p.configure c).cfg = c := by
  unfold Trib.configure
  extract_lets p1 p2
  have h2 : p2.cfg = c := by
    unfold p2
    split
    · rfl
    · rfl
  split
  · exact h2
  split
  · exact h2
  split
  · exact h2
  · unfold Trib.retime
    split
    · exact h2
    · exact h2

/-- TRIB CONFIG is refused where signalling would take an owned slot 16 (R31, R49). -/
theorem tribConfigBody_laws (t : Byte) (c : Option TribConfig) : BodyLaws (tribConfigBody t c) := by
  intro s hp
  unfold tribConfigBody
  split
  · rename_i n cfg _
    split
    · exact .refl
    split
    · exact .refl
    · rename_i hsig
      refine changeTrib_laws hp n fun h => ?_
      rw [configure_cfg] at h
      cases hold : (s.trib n).cfg.signalling with
      | true => exact .inl rfl
      | false => exact .inr (by simpa [h, hold] using hsig)
  · exact .refl

theorem tribConfigShape_laws (ps : List Byte) : ∀ f, tribConfigShape ps = some f → BodyLaws f := by
  unfold tribConfigShape
  split
  · rintro _ ⟨⟩; exact tribConfigBody_laws _ _
  · simp

/-! ### COMMIT, ABORT COMMIT and the resets -/

/-- COMMIT puts the map it has built beside the Active Map (R33, R35). -/
theorem commitBody_laws : BodyLaws commitBody := by
  intro s _
  unfold commitBody
  split
  · exact .refl
  split
  · exact .of_mapView rfl
  · rename_i m hm
    have agrees : Agrees m fun id => (s.record id).candidate := agrees_buildNext hm
    exact ⟨fun ⟨active, _, _⟩ => ⟨active, (reservedFree_buildNext hm : ReservedFree s m), fun h => Bool.noConfusion h⟩,
      fun ⟨fits, active, _⟩ => ⟨fits, active, fun _ => agrees⟩⟩

theorem abortBody_laws : LawsKept s (abortBody s).2 := by
  unfold abortBody
  split
  · exact ⟨fun ⟨active, _, _⟩ => ⟨active, reservedFree_vacant s, fun _ => rfl⟩,
      fun ⟨fits, active, _⟩ => ⟨fits, active, fun h => Bool.noConfusion h⟩⟩
  · exact .refl

/-- The laws hold of a table that has been reset (R45). -/
theorem laws_of_ct_reset {t : State} (h : t.ct = .reset) : LawsKept s t := by
  have free (id : RecId) : t.record id = .freeRecord := record_of_ct_reset h id
  refine ⟨fun _ => ?_, fun _ => ⟨fun id => ?_, ?_, fun hp => ?_⟩⟩
  · unfold ReservedLaw
    rw [h]
    exact ⟨reservedFree_vacant t, reservedFree_vacant t, fun _ => rfl⟩
  · rw [free]
    trivial
  · rw [h]
    exact agrees_vacant fun id => by rw [free]; rfl
  · rw [h] at hp
    cases hp

/-! ### Every command -/

theorem exec_laws (c : Instr) : ∃ t, exec c s = .next t ∧ LawsKept s t := by
  have changed (t : Idx8) {p : Trib} (h : p.cfg = (s.trib t).cfg) : LawsKept s (s.changeTrib t p) :=
    .of_mapView (changeTrib_mapView s t h)
  have ported (k : Trunk) (p : TrunkPort) : LawsKept s (s.changePort k p) := .of_mapView (changePort_mapView s k p)
  have received (t : Idx8) (bits : List Bool) : LawsKept s (s.frameReceived t bits) :=
    .of_mapView (frameReceived_mapView s t bits)
  have started : LawsKept s s.stuStart := .of_mapView (stuStart_mapView s)
  have handed (n : Idx8) : LawsKept s (s.takeHanded n) := .of_mapView rfl
  have keyed (n : Idx8) : LawsKept s (s.takeKeyer n) := .of_mapView rfl
  cases c with
  | transactionStart =>
    refine ⟨_, rfl, .of_mapView ?_⟩
    split
    · exact ite_mapView rfl rfl
    · rfl
  | emptyTransaction => exact ⟨_, rfl, .of_mapView rfl⟩
  | unknownCommand code ps => exact ⟨_, rfl, .of_mapView (ite_mapView rfl (ite_mapView rfl rfl))⟩
  | nop ps => exact ⟨_, rfl, transact_quiet (noParam_all fun _ => rfl)⟩
  | fetch ps => exact ⟨_, rfl, .of_mapView (ite_mapView rfl rfl)⟩
  | softReset ps =>
    refine ⟨_, rfl, transact_staged fun f hf s _ => ?_⟩
    split at hf
    · cases hf; exact laws_of_ct_reset s (softResetBody_ct s)
    · cases hf
  | readFlags ps => exact ⟨_, rfl, transact_quiet (noParam_all fun _ => rfl)⟩
  | nextAttention ps => exact ⟨_, rfl, transact_quiet (noParam_all nextAttentionBody_quiet)⟩
  | setMask ps => exact ⟨_, rfl, transact_quiet (threeParams_all setMaskBody_quiet)⟩
  | clearCounters ps => exact ⟨_, rfl, transact_quiet (twoParams_all clearCountersBody_quiet)⟩
  | openRecord ps => exact ⟨_, rfl, transact_staged (twoParams_all openBody_laws)⟩
  | discard ps => exact ⟨_, rfl, transact_staged (oneParam_all discardBody_laws)⟩
  | setEnd ps =>
    refine ⟨_, rfl, transact_staged fun f hf => ?_⟩
    obtain ⟨x, -, rfl⟩ := Option.map_eq_some_iff.1 hf
    exact setEndBody_laws _ _ _ _
  | setField ps => exact ⟨_, rfl, transact_quiet (fourParams_all setFieldBody_quiet)⟩
  | activate ps => exact ⟨_, rfl, transact_staged (oneParam_all activateBody_laws)⟩
  | suspend ps =>
    refine ⟨_, rfl, transact_staged (oneParam_all fun a => stageBody_laws _ _ a fun r h => ?_)⟩
    exact (of_decide_eq_true h : r.state = .active)
  | resume ps =>
    refine ⟨_, rfl, transact_staged (oneParam_all fun a => stageBody_laws _ _ a fun r h => ?_)⟩
    exact (of_decide_eq_true h : r.state = .suspended)
  | retire ps =>
    refine ⟨_, rfl, transact_staged (oneParam_all fun a => stageBody_laws _ _ a fun r h => ?_)⟩
    exact (of_decide_eq_true h : r.state = .active ∨ r.state = .suspended)
  | revoke ps => exact ⟨_, rfl, transact_staged (oneParam_all revokeBody_laws)⟩
  | query ps => exact ⟨_, rfl, transact_quiet (oneParam_all fun _ => answering_quiet _)⟩
  | queryStaged ps => exact ⟨_, rfl, transact_quiet (oneParam_all fun _ => answering_quiet _)⟩
  | cursor ps => exact ⟨_, rfl, transact_quiet (oneParam_all fun _ _ => rfl)⟩
  | nextRecord ps => exact ⟨_, rfl, transact_quiet (noParam_all nextRecordBody_quiet)⟩
  | commit ps => exact ⟨_, rfl, transact_staged (noParam_all commitBody_laws)⟩
  | abortCommit ps =>
    exact ⟨_, rfl, transact_laws fun f hf _ => noParam_all (P := fun f => LawsKept s (f s).2) (abortBody_laws s) f hf⟩
  | mapQuery ps => exact ⟨_, rfl, transact_quiet (twoParams_all mapQueryBody_quiet)⟩
  | tribConfig ps => exact ⟨_, rfl, transact_staged (tribConfigShape_laws ps)⟩
  | tribStatus ps => exact ⟨_, rfl, transact_quiet (oneParam_all fun _ => ranged_quiet _ fun _ => answering_quiet _)⟩
  | timingConfig ps =>
    refine ⟨_, rfl, transact_quiet fun f hf => ?_⟩
    obtain ⟨x, -, rfl⟩ := Option.map_eq_some_iff.1 hf
    exact timingConfigure_quiet _ _ _
  | timingStatus ps => exact ⟨_, rfl, transact_quiet (noParam_all (answering_quiet _))⟩
  | trunkConfig ps => exact ⟨_, rfl, transact_quiet (fourParams_all trunkConfigBody_quiet)⟩
  | trunkStatus ps => exact ⟨_, rfl, transact_quiet (oneParam_all fun _ => ranged_quiet _ fun _ => answering_quiet _)⟩
  | recentre ps => exact ⟨_, rfl, transact_quiet (oneParam_all recentreBody_quiet)⟩
  | detBind ps => exact ⟨_, rfl, transact_quiet (threeParams_all detBindBody_quiet)⟩
  | detUnbind ps => exact ⟨_, rfl, transact_quiet (oneParam_all detUnbindBody_quiet)⟩
  | detConfig ps => exact ⟨_, rfl, transact_quiet (detConfigShape_quiet ps)⟩
  | detStatus ps => exact ⟨_, rfl, transact_quiet (oneParam_all fun _ => ranged_quiet _ fun _ => answering_quiet _)⟩
  | keyBind ps => exact ⟨_, rfl, transact_quiet (threeParams_all keyBindBody_quiet)⟩
  | keyUnbind ps => exact ⟨_, rfl, transact_quiet (oneParam_all keyUnbindBody_quiet)⟩
  | keyConfig ps => exact ⟨_, rfl, transact_quiet (keyConfigShape_quiet ps)⟩
  | keyTest ps => exact ⟨_, rfl, transact_quiet (threeParams_all keyTestBody_quiet)⟩
  | keyStatus ps => exact ⟨_, rfl, transact_quiet (oneParam_all fun _ => ranged_quiet _ fun _ => answering_quiet _)⟩
  | lineConfig ps => exact ⟨_, rfl, transact_quiet (fourParams_all lineConfigBody_quiet)⟩
  | lineWrite ps => exact ⟨_, rfl, transact_quiet (oneParam_all fun _ _ => rfl)⟩
  | lineRead ps => exact ⟨_, rfl, transact_quiet (noParam_all (answering_quiet _))⟩
  | alarmMask ps => exact ⟨_, rfl, transact_quiet (oneParam_all alarmMaskBody_quiet)⟩
  | hardwareReset => exact ⟨_, rfl, laws_of_ct_reset s rfl⟩
  | resetRelease => exact ⟨_, rfl, .of_mapView rfl⟩
  | stationFrame inp =>
    refine ⟨_, rfl, ?_⟩
    split
    · exact .refl
    · exact stationFrame_laws inp
  | stationMultiframeStart => exact ⟨_, rfl, .due fun _ => multiframeStart_laws⟩
  | mapFlip =>
    refine ⟨_, rfl, .due fun h => flip_laws (pending_of_flipDue ?_)⟩
    simp only [Bool.and_eq_true] at h
    exact h.2
  | retireHoldExpiry id => exact ⟨_, rfl, .due fun _ => expire_laws id⟩
  | tribClockLoss t => exact ⟨_, rfl, .due fun _ => changed t (loseClock_cfg _)⟩
  | tribCandidateFound t bits =>
    refine ⟨_, rfl, ?_⟩
    split
    · exact .due fun _ => changed t rfl
    · exact .refl
  | tribAlignmentConfirmed t bits => exact ⟨_, rfl, .due fun _ => changed t rfl⟩
  | tribConfirmationFailed t bits => exact ⟨_, rfl, .due fun _ => changed t rfl⟩
  | tribFrameReceived t bits => exact ⟨_, rfl, .due fun _ => received t bits⟩
  | tribAlignmentLoss t bits => exact ⟨_, rfl, .due fun _ => changed t (loseAlignment_cfg _ _)⟩
  | aisWindowEnd t bits => exact ⟨_, rfl, .due fun _ => changed t (keepBits_cfg _ _)⟩
  | tribRemoteAlarmChange t bits => exact ⟨_, rfl, .due fun _ => received t bits⟩
  | mfAlignmentLoss t bits => exact ⟨_, rfl, .due fun _ => received t bits⟩
  | tribTransmitFrame t => exact ⟨_, rfl, .due fun _ => .of_mapView (setTrib_mapView s t (transmit_cfg _))⟩
  | refActivityLoss => exact ⟨_, rfl, .due fun _ => .of_mapView (refSilent_mapView s)⟩
  | acquisitionComplete => exact ⟨_, rfl, .due fun _ => started⟩
  | holdoverExpiry => exact ⟨_, rfl, .due fun _ => started⟩
  | wtrExpiry => exact ⟨_, rfl, .due fun _ => started⟩
  | trunkClockLoss k => exact ⟨_, rfl, .due fun _ => ported k _⟩
  | trunkCandidateFound k bits =>
    refine ⟨_, rfl, ?_⟩
    split
    · exact .due fun _ => ported k _
    · exact .refl
  | trunkAlignmentConfirmed k bits overhead =>
    exact ⟨_, rfl, .due fun _ => .of_mapView ((trunkSettle_mapView _ s).trans (deskewEnter_mapView _ k))⟩
  | trunkConfirmationFailed k bits => exact ⟨_, rfl, .due fun _ => ported k _⟩
  | trunkFrameJudged k header => exact ⟨_, rfl, .due fun _ => ported k _⟩
  | trunkAlignmentLoss k word seq => exact ⟨_, rfl, .due fun _ => ported k _⟩
  | trunkFrameHandedOn k payload b =>
    refine ⟨_, rfl, ?_⟩
    split
    · exact .due fun _ => .of_mapView (handOn_mapView s k _ _ _ _)
    · exact .refl
  | windowLoss k => exact ⟨_, rfl, .due fun _ => .of_mapView ((syncCopies_mapView _).trans (loseWindow_mapView s k))⟩
  | windowReturn k => exact ⟨_, rfl, .due fun _ => .of_mapView (syncCopies_mapView _)⟩
  | anchorFrameArrival k payload b =>
    refine ⟨_, rfl, ?_⟩
    split
    · exact .due fun _ => .of_mapView (handOn_mapView s k _ _ _ _)
    · exact .refl
  | detectorUnblock d => exact ⟨_, rfl, .due fun _ => handed d⟩
  | detectorCommandRecognised d => exact ⟨_, rfl, .due fun _ => handed d⟩
  | detectorRelease d => exact ⟨_, rfl, .due fun _ => handed d⟩
  | trailExpiry d => exact ⟨_, rfl, .due fun _ => handed d⟩
  | detectorUnavailable d => exact ⟨_, rfl, .due fun _ => handed d⟩
  | lineRequestQualified k => exact ⟨_, rfl, .due fun _ => keyed k⟩
  | keyerCommandEnd k => exact ⟨_, rfl, .due fun _ => keyed k⟩
  | lockoutExpiry k => exact ⟨_, rfl, .due fun _ => keyed k⟩
  | testRemainderExpiry k => exact ⟨_, rfl, .due fun _ => keyed k⟩
  | lineLevelChange n w => exact ⟨_, rfl, .of_mapView (raiseIf_mapView _ _ _)⟩

/-- Every step keeps both laws: it runs one command, or idles. -/
theorem step_laws {s t : State} (h : step s = .next t) : LawsKept s t := by
  unfold step at h
  split at h
  · obtain rfl := Host.Outcome.next.inj h
    exact .refl
  · rename_i c rest _
    obtain ⟨u, hu, hl⟩ := exec_laws { s with pending := rest } c
    rw [hu] at h
    obtain rfl := Host.Outcome.next.inj h
    exact hl.after (s := s) rfl

/-- Settles O58: each command keeps the reserved slots free, and a step runs one command. -/
theorem stepKeepsReservedSlotsFree : Obligations.StepKeepsReservedSlotsFree := fun _ _ hs h => (step_laws h).reserved hs

/-- Settles O25: each placement by its check, the map that the placements build, and the laws at every step. -/
theorem mapsKeepReservedSlotsAndVacate : Obligations.MapsKeepReservedSlotsAndVacate := by
  refine ⟨fun s m p => ⟨placeOne_reserved, placeOne_disabled, fun hr hd =>
      ⟨fun e => placeOne_duplicate hr hd, placeOne_vacant hr hd⟩⟩,
    fun s c h => placeAll_error h, fun s m _ h => agrees_buildNext h, fun s t _ hm h => (step_laws h).maps hm,
    fun s m h => ⟨reservedFree_buildNext h, fun t n hn hd => disabled_buildNext h hn hd⟩,
    fun m gone p n => ⟨fun e he hg => ?_, fun e he hg => ?_, fun he => ?_⟩⟩
  · simp [entry_vacate, he, hg]
  · simp [entry_vacate, he, hg]
  · simp [entry_vacate, he]

end Sys2Proof.Machine
end

section
/-! COMMIT, ABORT COMMIT and MAP QUERY (R32, R34 to R37). -/

namespace Sys2Proof.Machine

variable {s t u : State}

/-! ### COMMIT (R34, R35) -/

theorem exec_commit (h : Clear s) (hr : s.cp.response = none) : exec (.commit []) s = .next (ran [] commitBody s) :=
  congrArg Host.Outcome.next (transact_run h.1 (.inr h.2) (.inr hr))

theorem any_halfRemap_iff : s.ct.records.toList.any Record.halfRemap = true ↔ ∃ id, (s.record id).halfRemap = true := by
  simp only [List.any_eq_true, mem_records]
  constructor
  · rintro ⟨_, ⟨id, rfl⟩, h⟩; exact ⟨id, h⟩
  · rintro ⟨id, h⟩; exact ⟨_, ⟨id, rfl⟩, h⟩

theorem commitBody_incomplete (h : ∃ id, (s.record id).halfRemap = true) : commitBody s = (.incomplete, s) :=
  if_pos (any_halfRemap_iff.2 h)

section
variable (h : ∀ id, (s.record id).halfRemap = false)
include h

theorem any_halfRemap_eq_false : ¬ s.ct.records.toList.any Record.halfRemap = true := fun ha => by
  obtain ⟨id, hid⟩ := any_halfRemap_iff.1 ha
  exact Bool.false_ne_true ((h id).symm.trans hid)

theorem commitBody_conflict {c : Conflict} (hb : s.buildNext = .error c) :
    commitBody s = (.conflict, s.answer (respond (byte Code.conflict.toNat :: c.report))) := by
  unfold commitBody
  rw [if_neg (any_halfRemap_eq_false h), hb]

theorem commitBody_ok {m : SlotMap} (hb : s.buildNext = .ok m) : commitBody s = (.ok,
    { s.answer (s.commitResponse s.stagedCount) with ct := { s.ct with nextMap := m, commitPending := true } }) := by
  unfold commitBody
  rw [if_neg (any_halfRemap_eq_false h), hb]
  rfl

end

/-- The codes of an end and of a port, as the statements on reports give them (R175). -/
theorem byte_side_code {sd : Side} {e : Byte} (hx : sd = .x → e = 0) (hy : sd = .y → e = 1) : byte sd.code = e := by
  cases sd with
  | x => exact (hx rfl).symm
  | y => exact (hy rfl).symm

theorem byte_port_code {q : Port} {b : Byte} (ht : ∀ n : Idx8, q = .trib n → b = byte n.val) (hk : q = .trunk → b = 8) :
    byte q.code = b := by
  cases q with
  | trib n => exact (ht n rfl).symm
  | trunk => exact (hk rfl).symm

/-- Settles O24: the three ways COMMIT can end, with the bytes of each response. -/
theorem commitOutcomes : Obligations.CommitOutcomes := by
  intro s hs hr
  refine ⟨_, exec_commit hs hr, fun h => ?_, fun h =>
    ⟨fun c hc => ⟨?_, fun p e port hx hy ht hk => ⟨?_, ?_, ?_⟩⟩, fun m hm => ?_⟩⟩
  · rw [← hr]
    exact ran_refusal (commitBody_incomplete h)
  · rw [ran_of (commitBody_conflict h hc)]
    rfl
  · rintro rfl
    rw [ran_of (commitBody_conflict h hc), ← byte_side_code hx hy, ← byte_port_code ht hk]
    rfl
  · rintro rfl
    rw [ran_of (commitBody_conflict h hc), ← byte_side_code hx hy, ← byte_port_code ht hk]
    rfl
  · rintro first rfl
    rw [ran_of (commitBody_conflict h hc), ← byte_side_code hx hy, ← byte_port_code ht hk]
    rfl
  · rw [ran_of (commitBody_ok h hm)]
    exact ⟨rfl, rfl⟩

/-! ### A COMMIT after a part of the start has been taken (R36) -/

theorem flipDue_iff : s.flipDue = true ↔ s.ct.commitPending = true ∧ s.atBoundary = true ∧ s.stu.flipClosed = false := by
  simp [State.flipDue, and_assoc]

theorem flipDue_of_not_pending (h : s.ct.commitPending = false) : s.flipDue = false := by simp [State.flipDue, h]

theorem flipDue_of_closed (h : s.stu.flipClosed = true) : s.flipDue = false := by simp [State.flipDue, h]

theorem commitBody_stu (s : State) : (commitBody s).2.stu = s.stu := by
  unfold commitBody
  split
  · rfl
  split
  · rfl
  · rfl

/-- COMMIT leaves the station timing unit and its marks alone. -/
theorem exec_commit_stu {ps : List Byte} (h : exec (.commit ps) t = .next u) : u.stu = t.stu := by
  obtain rfl : transact ps false true (noParam ps commitBody) t = u := Host.Outcome.next.inj h
  obtain e | ⟨c, e⟩ | ⟨f, hf, e⟩ := transact_cases ps false true (noParam ps commitBody) t
  · rw [e]; rfl
  · rw [e]; rfl
  · rw [e]
    exact noParam_all (P := fun f => (ran ps f t).stu = t.stu) (commitBody_stu t) f hf

/-- A COMMIT made after the flip of the start at hand has been closed waits for the next start (R36). -/
theorem flipDue_after_commit {ps : List Byte} (hc : t.stu.flipClosed = true) (h : exec (.commit ps) t = .next u) :
    u.flipDue = false :=
  flipDue_of_closed (by rw [exec_commit_stu h, hc])

/-! ### ABORT COMMIT (R37) -/

theorem exec_abortCommit (h : Runs s) : exec (.abortCommit []) s = .next (ran [] abortBody s) :=
  congrArg Host.Outcome.next (transact_exempt h)

/-- What a taken ABORT COMMIT leaves, but for the end of its transaction (R37, log 5). -/
def State.aborted (s : State) : State :=
  { s with
    ct := { s.ct with commitPending := false, nextMap := .vacant }
    stu := { s.stu with flipClosed := s.stu.flipClosed || s.stu.partTaken } }

theorem abortBody_ok (h : s.ct.commitPending = true) : abortBody s = (.ok, s.aborted) := if_pos h

theorem abortBody_notPending (h : s.ct.commitPending = false) : abortBody s = (.notPending, s) := by
  simp [abortBody, h]

theorem partTaken_iff (v : Stu) : v.partTaken = true ↔ v.begun = true ∨ v.stuTaken = true ∨ v.retiredNow ≠ [] := by
  simp [Stu.partTaken, or_assoc]

/-- BUSY is the highest bit of the status byte (R163, 12.1). -/
theorem statusByte_busy (s : State) : s.statusByte.getLsbD 7 = s.ct.commitPending := by
  unfold State.statusByte
  refine BitVec.getLsbD_append.trans ?_
  simp only [BitVec.getLsbD_append]
  simp

/-- An event out of its moment changes nothing (log 2). -/
theorem exec_mapFlip_not_due (h : s.flipDue = false) : exec .mapFlip s = .next s :=
  congrArg Host.Outcome.next (if_neg (by simp [h]))

/-- Settles O26: the pending commit cleared, the refusal, and the flip taken first. -/
theorem abortCommitCancels : Obligations.AbortCommitCancels := by
  refine ⟨fun s hs hp => ⟨_, exec_abortCommit hs, ?_⟩,
    fun s hs hp => ⟨_, exec_abortCommit hs, ran_refusal (abortBody_notPending hp)⟩,
    fun s hr hd => ⟨s.flip, exec_mapFlip hr hd, rfl, rfl⟩⟩
  rw [ran_of (abortBody_ok hp)]
  have hd : (s.aborted.rise (List.replicate 1 s.latched) .ok).flipDue = false := flipDue_of_not_pending rfl
  refine ⟨rfl, rfl, rfl, hd, exec_mapFlip_not_due hd, statusByte_busy _, ?_, fun hc _ _ h => flipDue_after_commit hc h⟩
  exact Bool.or_eq_true_iff.trans (or_congr Iff.rfl (partTaken_iff _))

/-! ### MAP QUERY (R32) -/

theorem exec_mapQuery (h : Free s) (port slot : Byte) :
    exec (.mapQuery [port, slot]) s = .next (ran [port, slot] (mapQueryBody port slot) s) :=
  congrArg Host.Outcome.next (transact_free h)

theorem mapQueryBody_ok {port slot : Byte} {q : Port} (hq : readPort port.toNat = some q) (he : entryExists q slot.toNat = true) :
    mapQueryBody port slot s = (.ok, s.answer (s.mapResponse q slot.toNat)) := by
  simp [mapQueryBody, hq, he, answering]

/-- A port read from a byte is the port whose code the byte is (R175). -/
theorem code_of_readPort {n : Nat} {q : Port} (h : readPort n = some q) : q.code = n := by
  unfold readPort readUnit at h
  split at h
  · rename_i h8
    cases h
    exact h8.symm
  · split at h
    · cases h; rfl
    · cases h

/-- The entries that a port has (R29, R32). -/
theorem entryExists_iff {q : Port} {n : Nat} : entryExists q n = true ↔ n < q.size := by
  cases q <;> simp [entryExists, Port.size]

theorem mapQueryBody_range {port slot : Byte} (h : 8 < port.toNat ∨ (port.toNat < 8 ∧ 31 < slot.toNat) ∨
    (port.toNat = 8 ∧ 247 < slot.toNat)) : mapQueryBody port slot s = (.range, s) := by
  unfold mapQueryBody
  cases hq : readPort port.toNat with
  | none => rfl
  | some q =>
    have code := code_of_readPort hq
    refine if_neg fun he => ?_
    rw [entryExists_iff] at he
    cases q with
    | trib n =>
      have he : slot.toNat < 32 := he
      have code : n.val = port.toNat := code
      omega
    | trunk =>
      have he : slot.toNat < 248 := he
      have code : 8 = port.toNat := code
      omega

theorem mapQueryBody_cases (port slot : Byte) (s : State) :
    mapQueryBody port slot s = (.range, s) ∨ ∃ r, mapQueryBody port slot s = (.ok, s.answer r) := by
  unfold mapQueryBody
  split
  · exact .inl rfl
  split
  · exact .inr ⟨_, rfl⟩
  · exact .inl rfl

theorem byte_toNat (b : Byte) : byte b.toNat = b := by simp [byte]

theorem mapResponse_vacant {q : Port} {n : Nat} (h : s.ct.activeMap.entry q n = none) :
    s.mapResponse q n = [6, byte q.code, byte n, 1] ++ bytes16 s.ct.epoch.toNat := by
  simp only [State.mapResponse, h]
  rfl

theorem mapResponse_owned {q : Port} {n : Nat} {e : Entry} (h : s.ct.activeMap.entry q n = some e) :
    s.mapResponse q n = [10, byte q.code, byte n, 0, byte e.owner.val, byte e.side.code, byte e.pos,
      byte (s.record e.owner).state.code] ++ bytes16 s.ct.epoch.toNat := by
  simp only [State.mapResponse, h]
  rfl

/-- Settles O27: the refusals, and both answers. -/
theorem mapQueryReportsActiveEntry : Obligations.MapQueryReportsActiveEntry := by
  intro s port slot hs
  have free : s.cp.response = none := hs.2
  refine ⟨_, exec_mapQuery hs port slot, ?_, fun h => ?_, fun q hq he => ⟨fun hv => ?_, fun e ho => ?_⟩⟩
  · obtain h | ⟨r, h⟩ := mapQueryBody_cases port slot s
    · rw [ran_of h]; rfl
    · rw [ran_of h]; rfl
  · rw [← free]
    exact (ran_refusal (mapQueryBody_range h)).1
  · rw [ran_of (mapQueryBody_ok hq he), mapResponse_vacant hv, code_of_readPort hq, byte_toNat, byte_toNat]
    rfl
  · rw [ran_of (mapQueryBody_ok hq he), mapResponse_owned ho, code_of_readPort hq, byte_toNat, byte_toNat]
    rfl

end Sys2Proof.Machine
end

section
/-! The station multiframe start and the release holds (R36, R42 to R44, R68). -/

namespace Sys2Proof.Machine

variable {s t : State} {id : RecId}

/-! ### The countdown (R42, R43) -/

theorem holdCounts_iff : s.holdCounts id = true ↔ (s.record id).state = .retiring ∧ id ∉ s.stu.retiredNow := by
  simp [State.holdCounts]

theorem holdExpires_iff : s.holdExpires id = true ↔
    ((s.record id).state = .retiring ∧ id ∉ s.stu.retiredNow) ∧ (s.record id).holdRemaining ≤ 1 := by
  simp [State.holdExpires, holdCounts_iff]

/-- A record at the countdown: freed, its hold counted down, or left as it is. -/
theorem record_countdown (s : State) (id : RecId) : s.countdown.record id = if s.holdExpires id then .freeRecord
    else if s.holdCounts id then { s.record id with holdRemaining := (s.record id).holdRemaining - 1 } else s.record id := by
  unfold State.countdown
  rw [record_freeRecords, record_mapRecords]

theorem record_countdown_of_not_counted (h : s.holdCounts id = false) : s.countdown.record id = s.record id := by
  rw [record_countdown]
  simp [State.holdExpires, h]

/-! ### The station multiframe start (R36, R42, R68) -/

/-- The STU's part of a start touches the STU and the flags alone, and takes none of the start's other parts. -/
structure StuStarted (s t : State) : Prop where
  eq : t = { s with stu := t.stu, au := { s.au with flags := t.au.flags } }
  retiredNow : t.stu.retiredNow = s.stu.retiredNow
  flipClosed : t.stu.flipClosed = (s.stu.flipClosed || (!s.stu.stuTaken && !s.ct.commitPending))

theorem stuStart_started (s : State) : StuStarted s s.stuStart := by
  unfold State.stuStart
  split
  · rename_i ht
    exact ⟨rfl, rfl, by simp [ht]⟩
  · rename_i ht
    have only := (stuCount_only s).trans (stuReact_only s.stuCount)
    refine ⟨?_, only.retiredNow, ?_⟩
    · have e := only.eq
      generalize s.stuCount.stuReact = v at *
      rw [e]
      rfl
    · have hp : s.stuCount.stuReact.ct.commitPending = s.ct.commitPending := by rw [only.eq]
      have hc : (s.stuCount.stuReact.stu.flipClosed || !s.stuCount.stuReact.ct.commitPending) =
          (s.stu.flipClosed || !s.ct.commitPending) := by rw [hp, only.flipClosed]
      exact hc.trans (by simp [ht])

theorem exec_stationMultiframeStart (hr : s.inReset = false) (ha : s.atBoundary = true) (hb : s.stu.begun = false) :
    exec .stationMultiframeStart s = .next s.multiframeStart :=
  congrArg Host.Outcome.next (if_pos (by simp [hr, ha, hb]))

/-- The records at a start are those of the countdown, which the STU's part leaves alone. -/
theorem record_multiframeStart (s : State) (id : RecId) : s.multiframeStart.record id = s.countdown.record id := by
  have h := stuStart_started s
  have hc : s.stuStart.holdCounts id = s.holdCounts id := by
    unfold State.holdCounts State.record
    rw [h.retiredNow, h.eq]
  have hr : s.stuStart.record id = s.record id := by
    unfold State.record
    rw [h.eq]
  have e : s.multiframeStart.record id = s.stuStart.countdown.record id := rfl
  rw [e, record_countdown, record_countdown]
  unfold State.holdExpires
  rw [hc, hr]

/-- With a commit pending a start leaves the flip as it is; without one it closes it (R36). -/
theorem multiframeStart_flipClosed (s : State) :
    s.multiframeStart.stu.flipClosed = (s.stu.flipClosed || !s.ct.commitPending) := by
  have hp : s.stuStart.ct.commitPending = s.ct.commitPending := by rw [(stuStart_started s).eq]
  have e : s.multiframeStart.stu.flipClosed = (s.stuStart.stu.flipClosed || !s.stuStart.ct.commitPending) := rfl
  rw [e, (stuStart_started s).flipClosed, hp]
  cases s.stu.stuTaken with
  | true => simp
  | false => simp

/-- Settles O29: the countdown record by record, and the mark that closes the flip. -/
theorem multiframeStartCountsHolds : Obligations.MultiframeStartCountsHolds := by
  intro s hr ha hb
  have started := (stuStart_started s).eq
  have hp : s.multiframeStart.ct.commitPending = s.ct.commitPending :=
    (congrArg CircuitTable.commitPending (stuStart_ct s) :)
  refine ⟨_, exec_stationMultiframeStart hr ha hb, rfl, fun id h => ?_, fun id h hn => ?_, fun id h hn hl => ?_,
    fun id h hn hl => ?_, (congrArg CircuitTable.epoch (stuStart_ct s) :), hp, ?_, ?_, ?_, ?_, ?_, fun hd => ?_, fun hn => ?_⟩
  · rw [record_multiframeStart, record_countdown_of_not_counted]
    simp [State.holdCounts, h]
  · rw [record_multiframeStart, record_countdown_of_not_counted]
    simp [State.holdCounts, hn]
  · have hc := holdCounts_iff.2 ⟨h, hn⟩
    have he : ¬ s.holdExpires id = true := fun he => BitVec.not_le.2 hl (holdExpires_iff.1 he).2
    rw [record_multiframeStart, record_countdown, if_neg he, if_pos hc]
  · rw [record_multiframeStart, record_countdown, if_pos (holdExpires_iff.2 ⟨⟨h, hn⟩, hl⟩)]
  · exact (congrArg State.tribs started :)
  · exact (congrArg State.trunks started :)
  · exact (congrArg State.ps started :)
  · exact (congrArg State.clu started :)
  · exact (congrArg State.cp started :)
  · obtain ⟨hpend, -, hclosed⟩ := flipDue_iff.1 hd
    refine flipDue_iff.2 ⟨hp.trans hpend, Bool.or_true _, ?_⟩
    rw [multiframeStart_flipClosed, hclosed, hpend]
    rfl
  · have closed : s.multiframeStart.stu.flipClosed = true := by simp [multiframeStart_flipClosed, hn]
    exact ⟨flipDue_of_closed closed, fun ps u h => flipDue_after_commit closed h⟩

/-! ### The expiry of one release hold (R43, R44) -/

theorem exec_retireHoldExpiry (hr : s.inReset = false) (ha : s.atBoundary = true) (hb : s.stu.begun = false)
    (he : s.holdExpires id = true) : exec (.retireHoldExpiry id) s = .next (s.expire id) :=
  congrArg Host.Outcome.next (if_pos (by simp [hr, ha, hb, he]))

theorem record_expire (s : State) (id j : RecId) : (s.expire id).record j = if j = id then .freeRecord else s.record j :=
  (record_freeRecords s (fun i => i == id) j).trans (by simp)

theorem det_expire (s : State) (id : RecId) (d : Idx8) :
    (s.expire id).det d = if boundTo (s.det d).binding id then (s.det d).freed else s.det d := by
  rw [← boundTo_eq]
  exact det_freeRecords s (fun i => i == id) d

theorem keyer_expire (s : State) (id : RecId) (k : Idx8) :
    (s.expire id).keyer k = if boundTo (s.keyer k).binding id then (s.keyer k).freed else s.keyer k := by
  rw [← boundTo_eq]
  exact keyer_freeRecords s (fun i => i == id) k

theorem expire_flipClosed (s : State) (id : RecId) :
    (s.expire id).stu.flipClosed = (s.stu.flipClosed || !s.ct.commitPending) := rfl

/-- Settles O30: the one record freed with its units, and the mark that closes the flip. -/
theorem retireHoldExpiryFreesRecord : Obligations.RetireHoldExpiryFreesRecord := by
  intro s id hr ha hb h hn hl
  have he : s.holdExpires id = true := holdExpires_iff.2 ⟨⟨h, hn⟩, by simp [hl]⟩
  have hfree : (s.record id).state ≠ .free := by simp [h]
  refine ⟨_, exec_retireHoldExpiry hr ha hb he, ?_, fun j hj => ?_, rfl, rfl, fun d hd => ?_, fun d hd => ?_, fun k hk => ?_,
    fun k hk => ?_, freeRecords_one_au id hfree, rfl, fun hd => ?_, fun hp ps u hu => flipDue_after_commit ?_ hu⟩
  · rw [record_expire, if_pos rfl]
  · rw [record_expire, if_neg hj]
  · rw [det_expire, if_pos hd]
    exact ⟨rfl, rfl⟩
  · rw [det_expire, hd]
    rfl
  · rw [keyer_expire, if_pos hk]
    exact ⟨rfl, rfl⟩
  · rw [keyer_expire, hk]
    rfl
  · obtain ⟨hpend, hat, hclosed⟩ := flipDue_iff.1 hd
    refine flipDue_iff.2 ⟨hpend, hat, ?_⟩
    rw [expire_flipClosed, hclosed, hpend]
    rfl
  · rw [expire_flipClosed, hp]
    exact Bool.or_true _

end Sys2Proof.Machine
end

section
/-! SUPPORT. What each piece of work makes of one tributary port: the AIS windows, the checks of a line frame, slot 16 and the receive
store (R53 to R60, R79, R80). -/

namespace Sys2Proof.Machine

variable (p : Trib) (rx : TribRx) (bits : List Bool)

/-! ### The AIS windows (R55) -/

/-- Bits passed through the windows change the windows alone. -/
theorem aisFeed_eq : rx.aisFeed bits = { rx with
    ais := (rx.aisFeed bits).ais, aisBits := (rx.aisFeed bits).aisBits, aisZeros := (rx.aisFeed bits).aisZeros } := by
  unfold TribRx.aisFeed
  induction bits generalizing rx with
  | nil => rfl
  | cons b bs ih =>
    rw [List.foldl_cons, ih]
    unfold TribRx.aisBit
    dsimp only
    split <;> rfl

/-- The bits that fill the window in progress judge its zeros, and begin a new one. -/
theorem aisFeed_window (h : rx.aisBits < 512) (hw : rx.aisBits + bits.length = 512) : rx.aisFeed bits = { rx with
    ais := decide (rx.aisZeros + bits.count false < 3), aisBits := 0, aisZeros := 0 } := by
  induction bits generalizing rx with
  | nil => simp only [List.length_nil] at hw; omega
  | cons b bs ih =>
    have step : rx.aisFeed (b :: bs) = (rx.aisBit b).aisFeed bs := rfl
    have zeros : (if b then rx.aisZeros else rx.aisZeros + 1) + bs.count false = rx.aisZeros + (b :: bs).count false := by
      cases b with
      | false => simp; omega
      | true => simp
    rw [List.length_cons] at hw
    cases bs with
    | nil =>
      have last : Config.aisWindow ≤ rx.aisBits + 1 := Nat.le_of_eq hw.symm
      rw [step, TribRx.aisBit, if_pos last, ← zeros]
      rfl
    | cons c cs =>
      rw [List.length_cons] at hw
      have more : ¬ Config.aisWindow ≤ rx.aisBits + 1 := by
        simp only [Config.aisWindow]
        omega
      rw [step, TribRx.aisBit, if_neg more, ih _ (by dsimp only; omega) (by rw [List.length_cons]; dsimp only; omega)]
      simp only [zeros]

theorem feed_rx : (p.feed bits).rx = p.rx.aisFeed bits := rfl

@[simp] theorem feed_align : (p.feed bits).rx.align = p.rx.align := by rw [feed_rx, aisFeed_eq]

theorem keepBits_eq : p.keepBits bits = { p with
    rx := { p.rx with kept := (p.keepBits bits).rx.kept, part := (p.keepBits bits).rx.part } } := by
  unfold Trib.keepBits
  dsimp only
  split <;> rfl

/-- Settles O38: the window filled by the event's bits. -/
theorem aisWindowEndJudgesZeros : Obligations.AisWindowEndJudgesZeros := by
  intro s n bits hr hlt hw hq
  have due : exec (.aisWindowEnd n bits) s = .next (s.changeTrib n (((s.trib n).feed bits).keepBits bits)) :=
    congrArg Host.Outcome.next (if_pos (by simp [hr, hq, Config.aisWindow, hw]))
  have window := aisFeed_window _ _ hlt hw
  have port : ((s.trib n).feed bits).keepBits bits = { s.trib n with rx := { (s.trib n).rx with
      ais := decide ((s.trib n).rx.aisZeros + bits.count false < 3), aisBits := 0, aisZeros := 0
      kept := (((s.trib n).feed bits).keepBits bits).rx.kept
      part := (((s.trib n).feed bits).keepBits bits).rx.part } } := by
    rw [keepBits_eq, feed_rx, window]
    rfl
  refine ⟨_, due, changeTrib_event s n _, changeTrib_aside s n _, ?_⟩
  rw [changeTrib_trib]
  generalize ((s.trib n).feed bits).keepBits bits = q at port
  rw [port]
  exact ⟨rfl, rfl, rfl, rfl⟩


/-! ### The departure from ALIGNED (R54, R79) -/

theorem thirdError_feed (slot0 : Byte) : (p.feed bits).thirdError slot0 = p.thirdError slot0 := by
  unfold Trib.thirdError
  rw [feed_rx, aisFeed_eq]

theorem countLoss_aligned (h : p.rx.align = .aligned) :
    p.countLoss = { p with counters := { p.counters with losses := bump p.counters.losses } } := if_pos h

/-- A port has gone from ALIGNED to SEARCH at an errored word: one loss, an empty store, no remote alarm and no multiframe alignment. -/
structure AlignmentLost (p q : Trib) (rest bits : List Bool) : Prop where
  kept : q.rx.kept = rest
  align : q.rx.align = .search
  store : q.store = .empty
  remote : q.rx.remote = false
  mfAligned : q.rx.mfAligned = false
  ais : q.rx.ais = (p.rx.aisFeed bits).ais
  counters : q.counters =
    { p.counters with alignErrors := bump p.counters.alignErrors, losses := bump p.counters.losses }

theorem loseAlignment_lost (rest : List Bool) (h : p.rx.align = .aligned) :
    AlignmentLost p ((p.feed bits).loseAlignment rest) rest bits := by
  unfold Trib.loseAlignment
  rw [countLoss_aligned _ ((feed_align p bits).trans h)]
  exact ⟨rfl, rfl, rfl, rfl, rfl, rfl, rfl⟩

theorem thirdError_of {slot0 : Byte} (ho : p.rx.odd = false) (he : p.rx.errorRun = 2) (hw : slot0 &&& 0x7F ≠ 0x1B) :
    p.thirdError slot0 = true := by
  have errored : wordErrored slot0 = true := bne_iff_ne.2 hw
  simp [Trib.thirdError, ho, he, errored, Config.tribErroredWords]

/-! ### A line frame that stays ALIGNED (R54, R56, R59, R60, R79, R80) -/

/-- The judgement of slot 0: the remote-alarm bit of an odd frame, the word of an even one. -/
def Trib.judgeSlot0 (p : Trib) (slot0 : Byte) : Trib :=
  if p.rx.odd then { p with rx := p.rx.remoteBit (slot0.getLsbD 5) } else p.checkWord slot0

theorem receiveFrame_lost (h : p.thirdError (byteAt bits 0) = true) : p.receiveFrame bits = p.loseAlignment (bits.drop 8) :=
  if_pos h

/-- The frame with slot 0 judged, slot 16 received and the store written. -/
def Trib.takeFrame (p : Trib) (bits : List Bool) : Trib :=
  ((p.judgeSlot0 (byteAt bits 0)).slot16 (byteAt bits 16)).writeFrame (bytesOf bits 32)

theorem receiveFrame_kept (h : p.thirdError (byteAt bits 0) = false) : p.receiveFrame bits =
    { p.takeFrame bits with rx := { (p.takeFrame bits).rx with odd := !p.rx.odd, part := [] } } :=
  if_neg (by simp [h])

theorem remoteBit_eq (b : Bool) : rx.remoteBit b = { rx with
    setRun := (rx.remoteBit b).setRun, clearRun := (rx.remoteBit b).clearRun, remote := (rx.remoteBit b).remote } := by
  unfold TribRx.remoteBit
  split <;> rfl

/-- Slot 0 leaves the signalling and the store alone. -/
theorem judgeSlot0_eq (slot0 : Byte) : p.judgeSlot0 slot0 = { p with
    rx := { p.rx with
      errorRun := (p.judgeSlot0 slot0).rx.errorRun, setRun := (p.judgeSlot0 slot0).rx.setRun
      clearRun := (p.judgeSlot0 slot0).rx.clearRun, remote := (p.judgeSlot0 slot0).rx.remote }
    counters := { p.counters with alignErrors := (p.judgeSlot0 slot0).counters.alignErrors } } := by
  unfold Trib.judgeSlot0
  split
  · dsimp only
    rw [remoteBit_eq]
  · unfold Trib.checkWord
    split <;> rfl

/-- Slot 16 writes the multiframe state and the signalling table alone. -/
theorem slot16_eq (b : Byte) : p.slot16 b = { p with
    rx := { p.rx with
      mfAligned := (p.slot16 b).rx.mfAligned, mfNext := (p.slot16 b).rx.mfNext, mfWrong := (p.slot16 b).rx.mfWrong }
    sig := (p.slot16 b).sig } := by
  unfold Trib.slot16
  split
  · rfl
  split
  · split <;> rfl
  split
  · split
    · rfl
    · split <;> rfl
  · rfl

theorem writeFrame_eq (frame : List Byte) : p.writeFrame frame = { p with
    store := (p.writeFrame frame).store
    counters := { p.counters with deleteSlips := (p.writeFrame frame).counters.deleteSlips } } := by
  unfold Trib.writeFrame
  split <;> rfl

/-- What a received frame that stays ALIGNED takes from each part of its work. -/
structure FrameTaken (p q : Trib) (bits : List Bool) : Prop where
  align : q.rx.align = p.rx.align
  odd : q.rx.odd = !p.rx.odd
  part : q.rx.part = []
  errorRun : q.rx.errorRun = (p.judgeSlot0 (byteAt bits 0)).rx.errorRun
  setRun : q.rx.setRun = (p.judgeSlot0 (byteAt bits 0)).rx.setRun
  clearRun : q.rx.clearRun = (p.judgeSlot0 (byteAt bits 0)).rx.clearRun
  remote : q.rx.remote = (p.judgeSlot0 (byteAt bits 0)).rx.remote
  alignErrors : q.counters.alignErrors = (p.judgeSlot0 (byteAt bits 0)).counters.alignErrors
  mfAligned : q.rx.mfAligned = (p.slot16 (byteAt bits 16)).rx.mfAligned
  mfNext : q.rx.mfNext = (p.slot16 (byteAt bits 16)).rx.mfNext
  mfWrong : q.rx.mfWrong = (p.slot16 (byteAt bits 16)).rx.mfWrong
  sig : q.sig = (p.slot16 (byteAt bits 16)).sig
  store : q.store = (p.writeFrame (bytesOf bits 32)).store
  deleteSlips : q.counters.deleteSlips = (p.writeFrame (bytesOf bits 32)).counters.deleteSlips
  losses : q.counters.losses = p.counters.losses

/-- Slot 16 is received as if slot 0 had not been judged. -/
theorem slot16_judged (e sr cr : Nat) (ra : Bool) (k : TribCounters) (b : Byte) :
    ({ p with
      rx := { p.rx with errorRun := e, setRun := sr, clearRun := cr, remote := ra }, counters := k }).slot16 b =
    { p.slot16 b with
      rx := { (p.slot16 b).rx with errorRun := e, setRun := sr, clearRun := cr, remote := ra }, counters := k } := by
  unfold Trib.slot16
  dsimp only
  split
  · rfl
  split
  · split <;> rfl
  split
  · split
    · rfl
    · split <;> rfl
  · rfl

/-- The frame joins the store as if neither slot 0 nor slot 16 had been judged. -/
theorem writeFrame_judged (v : TribRx) (sig : Vector SigEntry 30) (e : Counter) (frame : List Byte) :
    ({ p with rx := v, sig := sig, counters := { p.counters with alignErrors := e } }).writeFrame frame =
    { p.writeFrame frame with
      rx := v, sig := sig, counters := { (p.writeFrame frame).counters with alignErrors := e } } := by
  unfold Trib.writeFrame
  by_cases hd : p.deletes = true
  · exact (if_pos hd).trans (by rw [if_pos hd])
  · exact (if_neg hd).trans (by rw [if_neg hd])

theorem takeFrame_taken : FrameTaken p
    { p.takeFrame bits with rx := { (p.takeFrame bits).rx with odd := !p.rx.odd, part := [] } } bits := by
  have slot0 := judgeSlot0_eq p (byteAt bits 0)
  have slot16 := slot16_eq p (byteAt bits 16)
  have store := writeFrame_eq p (bytesOf bits 32)
  have frame : p.takeFrame bits = { p with
      rx := { p.rx with
        errorRun := (p.judgeSlot0 (byteAt bits 0)).rx.errorRun, setRun := (p.judgeSlot0 (byteAt bits 0)).rx.setRun
        clearRun := (p.judgeSlot0 (byteAt bits 0)).rx.clearRun, remote := (p.judgeSlot0 (byteAt bits 0)).rx.remote
        mfAligned := (p.slot16 (byteAt bits 16)).rx.mfAligned, mfNext := (p.slot16 (byteAt bits 16)).rx.mfNext
        mfWrong := (p.slot16 (byteAt bits 16)).rx.mfWrong }
      sig := (p.slot16 (byteAt bits 16)).sig, store := (p.writeFrame (bytesOf bits 32)).store
      counters := { p.counters with
        alignErrors := (p.judgeSlot0 (byteAt bits 0)).counters.alignErrors
        deleteSlips := (p.writeFrame (bytesOf bits 32)).counters.deleteSlips } } := by
    unfold Trib.takeFrame
    generalize p.judgeSlot0 (byteAt bits 0) = a at *
    rw [slot0, slot16_judged]
    generalize p.slot16 (byteAt bits 16) = b at *
    rw [slot16]
    exact (writeFrame_judged p _ _ _ _).trans (by rw [store])
  rw [frame]
  exact ⟨rfl, rfl, rfl, rfl, rfl, rfl, rfl, rfl, rfl, rfl, rfl, rfl, rfl, rfl, rfl⟩

/-- The port with other AIS items. -/
def Trib.withAis (p : Trib) (ais : Bool) (n zeros : Nat) : Trib :=
  { p with rx := { p.rx with ais := ais, aisBits := n, aisZeros := zeros } }

theorem feed_withAis : ∃ a n z, p.feed bits = p.withAis a n z := by
  refine ⟨(p.rx.aisFeed bits).ais, (p.rx.aisFeed bits).aisBits, (p.rx.aisFeed bits).aisZeros, ?_⟩
  unfold Trib.withAis
  rw [← aisFeed_eq]
  rfl

section
variable (a : Bool) (n z : Nat)

theorem judgeSlot0_withAis (slot0 : Byte) : (p.withAis a n z).judgeSlot0 slot0 = (p.judgeSlot0 slot0).withAis a n z := by
  unfold Trib.judgeSlot0
  by_cases ho : p.rx.odd = true
  · rw [if_pos ho]
    refine (if_pos ho).trans ?_
    unfold TribRx.remoteBit Trib.withAis
    dsimp only
    split <;> rfl
  · rw [if_neg ho]
    refine (if_neg ho).trans ?_
    unfold Trib.checkWord
    split <;> rfl

theorem slot16_withAis (b : Byte) : (p.withAis a n z).slot16 b = (p.slot16 b).withAis a n z := by
  unfold Trib.slot16 Trib.withAis
  dsimp only
  split
  · rfl
  split
  · split <;> rfl
  split
  · split
    · rfl
    · split <;> rfl
  · rfl

theorem writeFrame_withAis (frame : List Byte) : (p.withAis a n z).writeFrame frame = (p.writeFrame frame).withAis a n z := by
  unfold Trib.writeFrame
  by_cases hd : p.deletes = true
  · exact (if_pos hd).trans (by rw [if_pos hd]; rfl)
  · exact (if_neg hd).trans (by rw [if_neg hd]; rfl)

end

/-- A line frame that stays ALIGNED, its bits passed through the AIS windows first (log 26). -/
theorem receiveFrame_taken (frame : List Bool) (h : p.thirdError (byteAt frame 0) = false) :
    FrameTaken p ((p.feed bits).receiveFrame frame) frame := by
  have fed := thirdError_feed p bits (byteAt frame 0)
  rw [h] at fed
  rw [receiveFrame_kept _ _ fed]
  obtain ⟨a, n, z, e⟩ := feed_withAis p bits
  rw [e]
  have taken := takeFrame_taken (p.withAis a n z) frame
  obtain ⟨align, odd, part, errorRun, setRun, clearRun, remote, alignErrors, mfAligned, mfNext, mfWrong, sig, store,
    deleteSlips, losses⟩ := taken
  rw [judgeSlot0_withAis] at errorRun setRun clearRun remote alignErrors
  rw [slot16_withAis] at mfAligned mfNext mfWrong sig
  rw [writeFrame_withAis] at store deleteSlips
  exact ⟨align, odd, part, errorRun, setRun, clearRun, remote, alignErrors, mfAligned, mfNext, mfWrong, sig, store,
    deleteSlips, losses⟩

/-! ### The cases of slot 0 (R54, R56) -/

theorem judgeSlot0_odd (h : p.rx.odd = true) (slot0 : Byte) :
    p.judgeSlot0 slot0 = { p with rx := p.rx.remoteBit (slot0.getLsbD 5) } := if_pos h

theorem judgeSlot0_even (h : p.rx.odd = false) (slot0 : Byte) : p.judgeSlot0 slot0 = p.checkWord slot0 :=
  if_neg (by simp [h])

theorem checkWord_sound {slot0 : Byte} (h : slot0 &&& 0x7F = 0x1B) :
    p.checkWord slot0 = { p with rx := { p.rx with errorRun := 0 } } := if_neg (bne_iff_ne.not.2 (not_not.2 h))

theorem checkWord_errored {slot0 : Byte} (h : slot0 &&& 0x7F ≠ 0x1B) : p.checkWord slot0 = { p with
    rx := { p.rx with errorRun := p.rx.errorRun + 1 }
    counters := { p.counters with alignErrors := bump p.counters.alignErrors } } := if_pos (bne_iff_ne.2 h)

theorem remoteBit_sets (h : rx.remote = false) : rx.remoteBit true = { rx with
    setRun := rx.setRun + 1, clearRun := 0, remote := decide (3 ≤ rx.setRun + 1) } := by
  unfold TribRx.remoteBit
  rw [h]
  rfl

theorem remoteBit_stays_clear (h : rx.remote = false) : rx.remoteBit false = { rx with setRun := 0 } := by
  unfold TribRx.remoteBit
  rw [h]

theorem remoteBit_clears (h : rx.remote = true) : rx.remoteBit false = { rx with
    clearRun := rx.clearRun + 1, setRun := 0, remote := decide (rx.clearRun + 1 < 3) } := by
  unfold TribRx.remoteBit
  rw [h]
  rfl

theorem remoteBit_stays_set (h : rx.remote = true) : rx.remoteBit true = { rx with clearRun := 0 } := by
  unfold TribRx.remoteBit
  rw [h]

/-! ### The cases of slot 16 (R59, R60) -/

theorem slot16_off (h : p.cfg.signalling = false) (b : Byte) : p.slot16 b = p := if_pos (by simp [h])

section
variable {p} {b : Byte} (hs : p.cfg.signalling = true)
include hs

theorem slot16_unaligned (ha : p.rx.mfAligned = false) : p.slot16 b = if upper b = 0 then
      { p with rx := { p.rx with mfAligned := true, mfNext := 1, mfWrong := 0 }, sig := clearCandidates p.sig }
    else p := by simp [Trib.slot16, hs, ha]

theorem slot16_marker (ha : p.rx.mfAligned = true) (hn : p.rx.mfNext = 0) : p.slot16 b =
    if upper b = 0 then { p with rx := { p.rx with mfNext := 1, mfWrong := 0 } }
    else if 1 ≤ p.rx.mfWrong then { p with rx := { p.rx with mfAligned := false, mfWrong := 0 } }
    else { p with rx := { p.rx with mfNext := 1, mfWrong := p.rx.mfWrong + 1 } } := by simp [Trib.slot16, hs, ha, hn]

theorem slot16_receipts (ha : p.rx.mfAligned = true) (hn : p.rx.mfNext ≠ 0) : p.slot16 b = { p with
    rx := { p.rx with mfNext := (p.rx.mfNext + 1) % 16 }, sig := receiveSignalling p.sig p.rx.mfNext b } := by
  simp [Trib.slot16, hs, ha, hn]

end

theorem clearCandidates_get (sig : Vector SigEntry 30) (i : Fin 30) :
    (clearCandidates sig).get i = ⟨(sig.get i).nib, none⟩ := mapVec_get ..

theorem receiveSignalling_get (sig : Vector SigEntry 30) (k : Nat) (b : Byte) (i : Fin 30) :
    (receiveSignalling sig k b).get i = if i.val = sigPos k then (sig.get i).receive (upper b)
      else if i.val = sigPos (k + 16) then (sig.get i).receive (lower b) else sig.get i := mapVec_get ..

/-- The two positions of frame k (R60). -/
theorem sigPos_pair {k : Nat} (h1 : 1 ≤ k) (h15 : k ≤ 15) : sigPos k = k - 1 ∧ sigPos (k + 16) = k + 14 := by
  unfold sigPos
  constructor
  · exact if_pos (by omega)
  · rw [if_neg (by omega)]
    omega

theorem receive_same {e : SigEntry} {v : Nibble} (h : e.cand = some v) : e.receive v = ⟨v, some v⟩ := if_pos h

theorem receive_other {e : SigEntry} {v : Nibble} (h : e.cand ≠ some v) : e.receive v = ⟨e.nib, some v⟩ := if_neg h

/-! ### The receive store (R79, R80) -/

theorem deletes_iff : p.deletes = true ↔ 2 ≤ p.store.unread.length := decide_eq_true_iff

theorem writeFrame_deletes (h : 2 ≤ p.store.unread.length) (frame : List Byte) : p.writeFrame frame = { p with
    store := ⟨p.store.unread.drop 1 ++ [frame], p.store.last⟩
    counters := { p.counters with deleteSlips := bump p.counters.deleteSlips } } := if_pos ((deletes_iff p).2 h)

theorem writeFrame_joins (h : p.store.unread.length < 2) (frame : List Byte) :
    p.writeFrame frame = { p with store := ⟨p.store.unread ++ [frame], p.store.last⟩ } :=
  if_neg fun hd => absurd ((deletes_iff p).1 hd) (Nat.not_le.2 h)

end Sys2Proof.Machine
end

section
/-! SUPPORT. The slip notice of a receive store: the records it counts in and the detectors it restarts (R81, R107, R145). -/

namespace Sys2Proof.Machine

variable {s : State}

theorem counts_iff {r : Record} : r.counts = true ↔ r.state = .active ∨ r.state = .suspended := by
  unfold Record.counts
  split <;> simp_all

theorem record_countSlips (s : State) (p : Port) (id : RecId) : (s.countSlips p).record id = { s.record id with
    slips := if ((s.record id).state = .active ∨ (s.record id).state = .suspended) ∧ id ∈ s.ownersOn p
      then bump (s.record id).slips else (s.record id).slips } := by
  unfold State.countSlips
  simp only [record_mapRecords, Bool.and_eq_true, List.contains_iff_mem, counts_iff]
  split <;> rfl

/-- A notice hits the same detectors before and after the slips are counted. -/
theorem slipHits_countSlips (s : State) (p q : Port) (id : RecId) : (s.countSlips p).slipHits q id = s.slipHits q id := by
  unfold State.slipHits Record.counts
  rw [record_countSlips]
  rfl

theorem slipHits_iff {p : Port} {id : RecId} : s.slipHits p id = true ↔
    ((s.record id).state = .active ∨ (s.record id).state = .suspended) ∧ id ∈ s.ownersOn p := by
  simp [State.slipHits, counts_iff]

theorem det_slipNotice (s : State) (p : Port) (d : Idx8) : (s.slipNotice p).det d = match (s.det d).binding with
    | some (id, dir) =>
      if s.slipHits p id && decide ((s.record id).portOf (otherSide dir) = some p) then (s.det d).restart else s.det d
    | none => s.det d := by
  unfold State.slipNotice
  rw [det_restartDets]
  have ends (id : RecId) (e : Side) : ((s.countSlips p).record id).portOf e = (s.record id).portOf e := by
    rw [record_countSlips]
    rfl
  simp only [slipHits_countSlips, ends]
  rfl

theorem noticeHits_iff {p : Port} {id : RecId} {dir : Side} : NoticeHits s p id dir ↔
    (s.slipHits p id && decide ((s.record id).portOf (otherSide dir) = some p)) = true := by
  simp [NoticeHits, slipHits_iff, and_assoc]

theorem slipNotice_notified (s : State) (p : Port) : DetsNotified s (s.slipNotice p) p := by
  refine fun d => ⟨fun id dir hb hit => ?_, fun miss => ?_⟩
  · rw [det_slipNotice, hb]
    dsimp only
    rw [if_pos (noticeHits_iff.1 hit)]
    unfold Detector.restart
    refine ⟨fun h => ?_, fun h => ?_, fun h => ?_⟩
    · rw [h]
    · obtain h | h := h <;> rw [h]
    · obtain h | h := h <;> rw [h]
  · rw [det_slipNotice]
    cases hb : (s.det d).binding with
    | none => rfl
    | some x => exact if_neg fun hit => miss x.1 x.2 hb (noticeHits_iff.2 hit)

/-- The notice speaks of the circuit table and the detectors alone. -/
theorem DetsNotified.congr {s s' t : State} {p : Port} (hc : s'.ct = s.ct) (hd : s'.dets = s.dets)
    (h : DetsNotified s' t p) : DetsNotified s t p := by
  have hits (id : RecId) (dir : Side) : NoticeHits s' p id dir ↔ NoticeHits s p id dir := by
    unfold NoticeHits State.ownersOn State.record
    rw [hc]
  have det (d : Idx8) : s'.det d = s.det d := by
    unfold State.det
    rw [hd]
  intro d
  have at_d := h d
  simp only [det, hits] at at_d
  exact at_d

end Sys2Proof.Machine
end

section
/-! The events of a tributary port's receive side (R53 to R60, R79 to R81). -/

namespace Sys2Proof.Machine

variable {s : State} {n : Idx8} {bits : List Bool}

/-! ### The third errored word (R54, R79) -/

theorem exec_tribFrameReceived (hr : s.inReset = false) (ha : (s.trib n).rx.align = .aligned)
    (hl : ((s.trib n).rx.part ++ bits).length = 256) :
    exec (.tribFrameReceived n bits) s = .next (s.frameReceived n bits) :=
  congrArg Host.Outcome.next (if_pos (by simp only [Trib.frameDue, hr, ha, hl]; decide))

theorem exec_tribAlignmentLoss (hr : s.inReset = false) (ha : (s.trib n).rx.align = .aligned)
    (hl : ((s.trib n).rx.part ++ bits).length = 8)
    (ht : (s.trib n).thirdError (byteAt ((s.trib n).rx.part ++ bits) 0) = true) :
    exec (.tribAlignmentLoss n bits) s = .next (s.changeTrib n (((s.trib n).feed bits).loseAlignment [])) :=
  congrArg Host.Outcome.next (if_pos (by simp only [hr, ha, hl, ht]; decide))

/-- A frame whose slot 0 ends the alignment gives no slip notice. -/
theorem frameReceived_lost (ht : (s.trib n).thirdError (byteAt ((s.trib n).rx.part ++ bits) 0) = true) :
    s.frameReceived n bits =
      s.changeTrib n (((s.trib n).feed bits).loseAlignment (((s.trib n).rx.part ++ bits).drop 8)) := by
  have fed := (thirdError_feed (s.trib n) bits (byteAt ((s.trib n).rx.part ++ bits) 0)).trans ht
  rw [← receiveFrame_lost _ _ fed]
  exact if_neg (by simp [ht])

/-- Settles O37: at slot 0 itself, and with the whole frame. -/
theorem thirdErroredWordEndsAlignment : Obligations.ThirdErroredWordEndsAlignment := by
  rintro s n bits frame hr rfl ha ho he hw
  have ht := thirdError_of (s.trib n) ho he hw
  refine ⟨fun hl => ⟨_, exec_tribAlignmentLoss hr ha hl ht, ?_⟩, fun hl => ⟨_, exec_tribFrameReceived hr ha hl, ?_⟩⟩
  · obtain ⟨kept, align, store, remote, mfAligned, ais, counters⟩ := loseAlignment_lost (s.trib n) bits [] ha
    refine ⟨?_, changeTrib_event .., changeTrib_aside .., ?_⟩
    · rwa [changeTrib_trib]
    · rw [changeTrib_trib]
      exact ⟨align, store, remote, mfAligned, ais, counters⟩
  · rw [frameReceived_lost ht]
    obtain ⟨kept, align, store, remote, mfAligned, ais, counters⟩ :=
      loseAlignment_lost (s.trib n) bits (((s.trib n).rx.part ++ bits).drop 8) ha
    refine ⟨?_, changeTrib_event .., changeTrib_aside .., ?_⟩
    · rwa [changeTrib_trib]
    · rw [changeTrib_trib]
      exact ⟨align, store, remote, mfAligned, ais, counters⟩

/-! ### Search and confirmation (R53, R79) -/

/-- The candidate is the first place of the alignment word. -/
theorem findPattern_eq_some (pat : List Bool) (m i : Nat) (all : List Bool) (hi : pat.isPrefixOf (all.drop i) = true)
    (hlt : i < all.length) (hmin : ∀ j, j < i → pat.isPrefixOf (all.drop j) = false) :
    findPattern pat m all = some (m + i) := by
  induction all generalizing m i with
  | nil => exact absurd hlt (Nat.not_lt_zero i)
  | cons b bs ih =>
    cases i with
    | zero => exact if_pos hi
    | succ i =>
      have first : pat.isPrefixOf (b :: bs) = false := hmin 0 (Nat.succ_pos i)
      have rest := ih (m + 1) i hi (Nat.lt_of_succ_lt_succ hlt) fun j hj => hmin (j + 1) (Nat.succ_lt_succ hj)
      rw [findPattern, if_neg (by simp [first]), rest]
      congr 1
      omega

/-- The word stands at a place exactly if it is the seven bits there. -/
theorem tribWord_isPrefixOf (l : List Bool) : tribWord.isPrefixOf l = true ↔ l.take 7 = tribWord := by
  rw [List.isPrefixOf_iff_prefix, List.prefix_iff_eq_take]
  exact eq_comm

/-- The word that ends at the last bit, and is the first, is found at its place. -/
theorem tribFound_of_last {kept bits : List Bool} {i : Nat} (hl : (kept ++ bits).length = i + 7)
    (hw : (kept ++ bits).drop i = tribWord) (hmin : ∀ j, j < i → ((kept ++ bits).drop j).take 7 ≠ tribWord) :
    tribFound kept bits = some i := by
  have here : tribWord.isPrefixOf ((kept ++ bits).drop i) = true := (tribWord_isPrefixOf _).2 (by rw [hw]; rfl)
  have first := findPattern_eq_some tribWord 0 i (kept ++ bits) here (by omega) fun j hj =>
    Bool.eq_false_iff.2 fun h => hmin j hj ((tribWord_isPrefixOf _).1 h)
  unfold tribFound tribCandidate
  rw [first, Nat.zero_add]
  simp [hl]

theorem confirmFails_of {kept bits : List Bool}
    (h : (kept ++ bits).length = 256 ∧ (kept ++ bits).getD 255 false = false ∨
      (kept ++ bits).length = 518 ∧ (kept ++ bits).getD 255 false = true ∧ ((kept ++ bits).drop 511).take 7 ≠ tribWord) :
    confirmFails kept bits = true := by
  unfold confirmFails confirmMarker confirmWord
  obtain ⟨hl, hm⟩ | ⟨hl, hm, hw⟩ := h
  · simp only [hl, hm]
    simp
  · have other : (((kept ++ bits).drop 511).take 7 == tribWord) = false := beq_eq_false_iff_ne.2 hw
    simp only [hl, hm, other]
    simp

theorem confirmSucceeds_of {all : List Bool} (hl : all.length = 518) (hm : all.getD 255 false = true)
    (hw : (all.drop 511).take 7 = tribWord) : confirmSucceeds all = true := by
  unfold confirmSucceeds confirmMarker confirmWord
  simp only [hl, hm, hw]
  decide

theorem exec_tribCandidateFound {i : Nat} (hr : s.inReset = false) (ha : (s.trib n).rx.align = .search)
    (hf : tribFound (s.trib n).rx.kept bits = some i) : exec (.tribCandidateFound n bits) s =
      .next (s.changeTrib n { (s.trib n).feed bits with rx := { ((s.trib n).feed bits).rx with
        align := .confirm, kept := ((s.trib n).rx.kept ++ bits).drop (i + 1) } }) := by
  unfold exec execTribCandidateFound
  dsimp only
  rw [hf]
  exact congrArg Host.Outcome.next (if_pos (by simp [hr, ha]))

theorem exec_tribConfirmationFailed (hr : s.inReset = false) (ha : (s.trib n).rx.align = .confirm)
    (hf : confirmFails (s.trib n).rx.kept bits = true) : exec (.tribConfirmationFailed n bits) s =
      .next (s.changeTrib n { (s.trib n).feed bits with rx := { ((s.trib n).feed bits).rx with
        align := .search, kept := (s.trib n).rx.kept ++ bits } }) :=
  congrArg Host.Outcome.next (if_pos (by simp [hr, ha, hf]))

theorem exec_tribAlignmentConfirmed (hr : s.inReset = false) (ha : (s.trib n).rx.align = .confirm)
    (hc : confirmSucceeds ((s.trib n).rx.kept ++ bits) = true) : exec (.tribAlignmentConfirmed n bits) s =
      .next (s.changeTrib n (((s.trib n).feed bits).enterAligned ((s.trib n).rx.kept ++ bits))) :=
  congrArg Host.Outcome.next (if_pos (by simp [hr, ha, hc]))

/-- Settles O34: the candidate, the two failures, and the entry into ALIGNED. -/
theorem tribSearchAndConfirmation : Obligations.TribSearchAndConfirmation := by
  rintro s n bits all hr rfl
  refine ⟨fun i ha _ hl hw hmin => ⟨_, exec_tribCandidateFound hr ha (tribFound_of_last hl hw hmin), changeTrib_event s n _,
      changeTrib_aside s n _, ?_⟩,
    fun ha hf => ⟨_, exec_tribConfirmationFailed hr ha (confirmFails_of hf), changeTrib_event s n _,
      changeTrib_aside s n _, ?_⟩,
    fun ha hl hm hw => ⟨_, exec_tribAlignmentConfirmed hr ha (confirmSucceeds_of hl hm hw), changeTrib_event s n _,
      changeTrib_aside s n _, ?_⟩⟩
  · rw [changeTrib_trib]
    exact ⟨rfl, rfl, rfl, rfl⟩
  · rw [changeTrib_trib]
    exact ⟨rfl, rfl, rfl⟩
  · rw [changeTrib_trib]
    exact ⟨rfl, rfl, rfl, rfl, rfl, rfl, rfl, rfl, rfl, rfl⟩

/-! ### A line frame received in ALIGNED (R54, R56, R59, R60, R79 to R81) -/

/-- The port takes the frame; only a delete slip gives notice (R80, R81). -/
theorem frameReceived_stays (ht : (s.trib n).thirdError (byteAt ((s.trib n).rx.part ++ bits) 0) = false) :
    s.frameReceived n bits =
      let u := s.changeTrib n (((s.trib n).feed bits).receiveFrame ((s.trib n).rx.part ++ bits))
      if (s.trib n).deletes then u.slipNotice (.trib n) else u := by
  unfold State.frameReceived
  simp only [ht]
  rfl

theorem frameReceived_trib (ht : (s.trib n).thirdError (byteAt ((s.trib n).rx.part ++ bits) 0) = false) :
    FrameTaken (s.trib n) ((s.frameReceived n bits).trib n) ((s.trib n).rx.part ++ bits) := by
  have taken := receiveFrame_taken (s.trib n) bits _ ht
  have port : (s.frameReceived n bits).trib n = ((s.trib n).feed bits).receiveFrame ((s.trib n).rx.part ++ bits) := by
    rw [frameReceived_stays ht]
    dsimp only
    split
    · exact changeTrib_trib s n _
    · exact changeTrib_trib s n _
  rwa [port]

theorem frameReceived_event (ht : (s.trib n).thirdError (byteAt ((s.trib n).rx.part ++ bits) 0) = false) :
    TribEvent s (s.frameReceived n bits) n ∧ (s.frameReceived n bits).cp = s.cp := by
  have event := changeTrib_event s n (((s.trib n).feed bits).receiveFrame ((s.trib n).rx.part ++ bits))
  have aside := changeTrib_aside s n (((s.trib n).feed bits).receiveFrame ((s.trib n).rx.part ++ bits))
  rw [frameReceived_stays ht]
  dsimp only
  split
  · exact ⟨event, aside.2.2⟩
  · exact ⟨event, aside.2.2⟩

theorem afterFrame_taken {p : Trib} (ht : p.thirdError (byteAt (p.rx.part ++ bits) 0) = false) :
    FrameTaken p (p.afterFrame bits) (p.rx.part ++ bits) := by
  unfold Trib.afterFrame
  rw [receiveFrame_kept _ _ ht]
  exact takeFrame_taken p _

theorem exec_tribRemoteAlarmChange (hr : s.inReset = false) (ha : (s.trib n).rx.align = .aligned)
    (hl : ((s.trib n).rx.part ++ bits).length = 256) (ho : (s.trib n).rx.odd = true)
    (ht : ((s.trib n).afterFrame bits).rx.remote ≠ (s.trib n).rx.remote) :
    exec (.tribRemoteAlarmChange n bits) s = .next (s.frameReceived n bits) :=
  congrArg Host.Outcome.next (if_pos (by simp [Trib.frameDue, hr, ha, -List.length_append, hl, ho, ht]))

theorem exec_mfAlignmentLoss (hr : s.inReset = false) (ha : (s.trib n).rx.align = .aligned)
    (hl : ((s.trib n).rx.part ++ bits).length = 256) (hm : (s.trib n).rx.mfAligned = true)
    (ht : ((s.trib n).afterFrame bits).rx.mfAligned = false) (hs : ((s.trib n).afterFrame bits).rx.align = .aligned) :
    exec (.mfAlignmentLoss n bits) s = .next (s.frameReceived n bits) :=
  congrArg Host.Outcome.next (if_pos (by simp [Trib.frameDue, hr, ha, -List.length_append, hl, hm, ht, hs]))

theorem thirdError_odd {p : Trib} (h : p.rx.odd = true) (slot0 : Byte) : p.thirdError slot0 = false := by
  simp [Trib.thirdError, h]

theorem remote_set {p : Trib} {slot0 : Byte} (ho : p.rx.odd = true) (hr : p.rx.remote = false)
    (hb : slot0.getLsbD 5 = true) : (p.judgeSlot0 slot0).rx.remote = decide (3 ≤ p.rx.setRun + 1) := by
  rw [judgeSlot0_odd _ ho, hb, remoteBit_sets _ hr]

theorem remote_clear {p : Trib} {slot0 : Byte} (ho : p.rx.odd = true) (hr : p.rx.remote = true)
    (hb : slot0.getLsbD 5 = false) : (p.judgeSlot0 slot0).rx.remote = decide (p.rx.clearRun + 1 < 3) := by
  rw [judgeSlot0_odd _ ho, hb, remoteBit_clears _ hr]

theorem slot16_second_wrong {p : Trib} {b : Byte} (hs : p.cfg.signalling = true) (ha : p.rx.mfAligned = true)
    (hn : p.rx.mfNext = 0) (hb : upper b ≠ 0) (hw : 1 ≤ p.rx.mfWrong) :
    p.slot16 b = { p with rx := { p.rx with mfAligned := false, mfWrong := 0 } } := by
  rw [slot16_marker hs ha hn, if_neg hb, if_pos hw]

/-- Settles O36: both rows do the work of the frame that causes them. -/
theorem remoteAlarmAndMultiframeLoss : Obligations.RemoteAlarmAndMultiframeLoss := by
  rintro s n bits frame hr rfl ha hl
  refine ⟨fun ho hrem hrun hb => ?_, fun ho hrem hrun hb => ?_, fun ht hs hm hn hw hb => ?_⟩
  · have ht := thirdError_odd ho (byteAt ((s.trib n).rx.part ++ bits) 0)
    have turns := (remote_set ho hrem hb).trans (decide_eq_true (by omega))
    have row := exec_tribRemoteAlarmChange hr ha hl ho (by rw [(afterFrame_taken ht).remote, turns, hrem]; decide)
    exact ⟨_, row, exec_tribFrameReceived hr ha hl, (frameReceived_trib ht).remote.trans turns⟩
  · have ht := thirdError_odd ho (byteAt ((s.trib n).rx.part ++ bits) 0)
    have turns := (remote_clear ho hrem hb).trans (decide_eq_false (by omega))
    have row := exec_tribRemoteAlarmChange hr ha hl ho (by rw [(afterFrame_taken ht).remote, turns, hrem]; decide)
    exact ⟨_, row, exec_tribFrameReceived hr ha hl, (frameReceived_trib ht).remote.trans turns⟩
  · have lost := slot16_second_wrong hs hm hn hb (Nat.le_of_eq hw.symm)
    have after := afterFrame_taken ht
    have row := exec_mfAlignmentLoss hr ha hl hm (by rw [after.mfAligned, lost]) (after.align.trans ha)
    have taken := frameReceived_trib ht
    exact ⟨_, row, exec_tribFrameReceived hr ha hl, by rw [taken.mfAligned, lost], by rw [taken.sig, lost]⟩

/-- The receipts of frame k write its two positions (R60). -/
theorem slot16_receipts_get {p : Trib} {b : Byte} {k : Nat} (hs : p.cfg.signalling = true) (ha : p.rx.mfAligned = true)
    (hk : p.rx.mfNext = k) (h1 : 1 ≤ k) (h15 : k ≤ 15) (i : Fin 30) (v : Nibble) :
    (i.val + 1 = k ∧ v = upper b ∨ i.val = k + 14 ∧ v = lower b →
      ((p.sig.get i).cand = some v → (p.slot16 b).sig.get i = ⟨v, some v⟩) ∧
      ((p.sig.get i).cand ≠ some v → (p.slot16 b).sig.get i = ⟨(p.sig.get i).nib, some v⟩)) ∧
    (i.val + 1 ≠ k → i.val ≠ k + 14 → (p.slot16 b).sig.get i = p.sig.get i) := by
  obtain ⟨first, second⟩ := sigPos_pair h1 h15
  have get : (p.slot16 b).sig.get i = if i.val = k - 1 then (p.sig.get i).receive (upper b)
      else if i.val = k + 14 then (p.sig.get i).receive (lower b) else p.sig.get i := by
    rw [slot16_receipts hs ha (by omega), ← first, ← second, ← hk]
    exact receiveSignalling_get ..
  rw [get]
  refine ⟨fun h => ?_, fun hi hj => by rw [if_neg (by omega), if_neg hj]⟩
  obtain ⟨hi, rfl⟩ | ⟨hi, rfl⟩ := h
  · rw [if_pos (by omega)]
    exact ⟨receive_same, receive_other⟩
  · rw [if_neg (by omega), if_pos hi]
    exact ⟨receive_same, receive_other⟩

/-- Settles O35: slot 0, slot 16 and the receive store, each from its own part of the frame's work. -/
theorem tribFrameIsJudgedAndStored : Obligations.TribFrameIsJudgedAndStored := by
  rintro s n bits frame hr rfl ha hl ht
  obtain ⟨event, cp⟩ := frameReceived_event ht
  have taken := frameReceived_trib ht
  refine ⟨_, exec_tribFrameReceived hr ha hl, event, cp, taken.align.trans ha, taken.odd, taken.part, fun ho => ?odd,
    fun hs => ?off, fun hs hm => ?waiting, fun hs hm hn => ?marker, fun k hs hm hk h1 h15 => ?receipts, fun ho => ?even,
    taken.losses, fun hfill => ?joins, fun hfill => ?deletes⟩
  case odd =>
    have slot0 := judgeSlot0_odd (s.trib n) ho (byteAt ((s.trib n).rx.part ++ bits) 0)
    rw [taken.errorRun, taken.alignErrors, taken.remote, taken.setRun, taken.clearRun, slot0]
    refine ⟨by rw [remoteBit_eq], rfl, fun hrem hb => ?_, fun hrem hb => ?_, fun hrem hb => ?_, fun hrem hb => ?_⟩
    · rw [hb, remoteBit_sets _ hrem]
      exact ⟨rfl, rfl, rfl⟩
    · rw [hb, remoteBit_stays_clear _ hrem]
      exact ⟨rfl, rfl, hrem⟩
    · rw [hb, remoteBit_clears _ hrem]
      exact ⟨rfl, rfl, rfl⟩
    · rw [hb, remoteBit_stays_set _ hrem]
      exact ⟨rfl, rfl, hrem⟩
  case off =>
    rw [taken.sig, taken.mfAligned, slot16_off _ hs]
    exact ⟨rfl, rfl⟩
  case waiting =>
    rw [taken.sig, taken.mfAligned, taken.mfNext, taken.mfWrong, slot16_unaligned hs hm]
    refine ⟨fun hb => ?_, fun hb => ?_⟩
    · rw [if_pos hb]
      exact ⟨rfl, rfl, rfl, clearCandidates_get _⟩
    · rw [if_neg hb]
      exact ⟨hm, rfl⟩
  case marker =>
    rw [taken.sig, taken.mfAligned, taken.mfNext, taken.mfWrong, slot16_marker hs hm hn]
    by_cases hb : upper (byteAt ((s.trib n).rx.part ++ bits) 16) = 0
    · rw [if_pos hb]
      exact ⟨rfl, fun _ => ⟨hm, rfl, rfl⟩, fun h => absurd hb h, fun h => absurd hb h⟩
    rw [if_neg hb]
    by_cases hw : 1 ≤ (s.trib n).rx.mfWrong
    · rw [if_pos hw]
      exact ⟨rfl, fun h => absurd h hb, fun _ h => absurd h (by omega), fun _ _ => rfl⟩
    · rw [if_neg hw]
      exact ⟨rfl, fun h => absurd h hb, fun _ h => ⟨hm, rfl, congrArg (· + 1) h⟩, fun _ h => absurd h hw⟩
  case receipts =>
    rw [taken.sig, taken.mfAligned, taken.mfNext]
    refine ⟨?_, ?_, slot16_receipts_get hs hm hk h1 h15⟩
    · rw [slot16_receipts hs hm (by omega)]
      exact hm
    · rw [slot16_receipts hs hm (by omega), hk]
  case even =>
    rw [taken.remote, taken.errorRun, taken.alignErrors, judgeSlot0_even _ ho]
    by_cases hb : byteAt ((s.trib n).rx.part ++ bits) 0 &&& 0x7F = 0x1B
    · rw [checkWord_sound _ hb]
      exact ⟨rfl, fun _ => ⟨rfl, rfl⟩, fun h => absurd hb h⟩
    · rw [checkWord_errored _ hb]
      exact ⟨rfl, fun h => absurd h hb, fun _ => ⟨rfl, rfl⟩⟩
  case joins =>
    have hd : (s.trib n).deletes = false := Bool.eq_false_iff.2 fun hd => absurd ((deletes_iff _).1 hd) (Nat.not_le.2 hfill)
    rw [taken.store, taken.deleteSlips, writeFrame_joins _ hfill, frameReceived_stays ht, hd]
    exact ⟨rfl, rfl, (changeTrib_aside s n _).1, (changeTrib_aside s n _).2.1⟩
  case deletes =>
    obtain ⟨ct, dets, -⟩ := changeTrib_aside s n (((s.trib n).feed bits).receiveFrame ((s.trib n).rx.part ++ bits))
    rw [taken.store, taken.deleteSlips, writeFrame_deletes _ hfill, frameReceived_stays ht, if_pos ((deletes_iff _).2 hfill)]
    generalize s.changeTrib n _ = u at *
    have table : (u.slipNotice (.trib n)).ct = { u.ct with records := (u.slipNotice (.trib n)).ct.records } := rfl
    refine ⟨rfl, rfl, ?_, (slipNotice_notified u (.trib n)).congr ct dets, fun id => ?_⟩
    · rwa [ct] at table
    · have record := record_countSlips u (.trib n) id
      unfold State.ownersOn State.record at record ⊢
      rw [ct] at record
      exact record

end Sys2Proof.Machine
end

section
/-! The transmit frames of a tributary port (R46, R47, R51, R62 to R64, R82, R83). -/

namespace Sys2Proof.Machine

variable {p : Trib} {s : State} {n : Idx8}

/-! ### The line frame (R46, R47, R62 to R64) -/

/-- One slot of the line frame made of the traffic slots given. -/
def Trib.slotSent (p : Trib) (n : Nat) (b : Option Byte) : Byte :=
  if n = 0 then p.slot0Sent
  else if n = 16 && p.cfg.signalling then p.slot16Sent
  else b.getD p.cfg.vacantCode

theorem lineFrame_getD {slots : List (Option Byte)} {k : Nat} (h : k < slots.length) :
    (p.lineFrame slots).getD k 0 = p.slotSent k (slots.getD k none) := by
  have read : (p.lineFrame slots)[k]? = (slots[k]?).map (p.slotSent (0 + k)) := mapFrom_getElem? ..
  rw [List.getElem?_eq_getElem h, Nat.zero_add] at read
  rw [List.getD_eq_getElem?_getD, List.getD_eq_getElem?_getD, read, List.getElem?_eq_getElem h]
  rfl

theorem slot16Sent_first (h : p.txCount = 0) : p.slot16Sent = 0x0F := if_pos (by rw [h]; rfl)

theorem slot16Sent_pair {k : Nat} (h1 : 1 ≤ k) (h15 : k ≤ 15) (h : p.txCount.toNat = k) :
    p.slot16Sent = joinNibbles (p.sigSent (k - 1)) (p.sigSent (k + 14)) := by
  obtain ⟨first, second⟩ := sigPos_pair h1 h15
  rw [← first, ← second, ← h]
  exact if_neg (by omega)

theorem lineFrame_sent {slots : List (Option Byte)} (h : slots.length = 32) : LineSent p slots (p.lineFrame slots) := by
  have slot0 : (p.lineFrame slots).getD 0 0 = p.slot0Sent := lineFrame_getD (by omega)
  have slot16 (hs : p.cfg.signalling = true) : (p.lineFrame slots).getD 16 0 = p.slot16Sent := by
    rw [lineFrame_getD (by omega), Trib.slotSent, if_neg (by decide), if_pos (by simp [hs])]
  refine ⟨(mapFrom_length ..).trans h, fun he => ?_, fun ho => ?_, fun hs h0 => ?_, fun k h1 h15 hs hk => ?_,
    fun k h1 h32 hk => ?_⟩
  · rw [slot0, Trib.slot0Sent, he]
    rfl
  · rw [slot0, Trib.slot0Sent, if_pos ho]
  · rw [slot16 hs, slot16Sent_first h0]
  · rw [slot16 hs, slot16Sent_pair h1 h15 hk]
    rfl
  · rw [lineFrame_getD (by omega), Trib.slotSent, if_neg (by omega)]
    refine if_neg ?_
    obtain h16 | hs := hk
    · simp [h16]
    · simp [hs]

/-! ### What a transmit frame takes (R62, R82, R83) -/

theorem usesTxStore_iff : p.usesTxStore = true ↔
    p.cfg.enable = true ∧ p.cfg.loopTiming = true ∧ p.rx.align ≠ .noSignal := by
  unfold Trib.usesTxStore Trib.fallback
  cases p.cfg.enable <;> cases p.cfg.loopTiming <;> simp

theorem usesTxStore_of_loop (he : p.cfg.enable = true) (hl : p.cfg.loopTiming = true) (ha : p.rx.align ≠ .noSignal) :
    p.usesTxStore = true := usesTxStore_iff.2 ⟨he, hl, ha⟩

theorem usesTxStore_of_station (h : p.cfg.enable = false ∨ p.cfg.loopTiming = false ∨ p.rx.align = .noSignal) :
    p.usesTxStore = false := by
  refine Bool.eq_false_iff.2 fun hu => ?_
  obtain ⟨he, hl, ha⟩ := usesTxStore_iff.1 hu
  obtain h | h | h := h
  · rw [he] at h
    cases h
  · rw [hl] at h
    cases h
  · exact ha h

theorem readTx_station (h : p.usesTxStore = false) : p.readTx = (p.delivered, p) := if_neg (by simp [h])

theorem readTx_oldest (h : p.usesTxStore = true) {f : List (Option Byte)} {rest : List (List (Option Byte))}
    (hu : p.txStore.unread = f :: rest) : p.readTx = (f, { p with txStore := ⟨rest, some f⟩ }) := by
  unfold Trib.readTx
  rw [if_pos h, hu]

theorem readTx_repeat (h : p.usesTxStore = true) (hu : p.txStore.unread = []) : p.readTx = (p.txStore.last.getD p.delivered,
    { p with counters := { p.counters with txSlips := bump p.counters.txSlips } }) := by
  unfold Trib.readTx
  rw [if_pos h, hu]

theorem transmit_disabled (h : p.cfg.enable = false) :
    p.transmit = { p with lineOut := List.replicate 32 0xFF, txDue := false, lineRemote := true } := if_neg (by simp [h])

theorem transmit_enabled (h : p.cfg.enable = true) : p.transmit = { p.readTx.2 with
    lineOut := p.lineFrame p.readTx.1, txCount := p.txCount + 1, txDue := false
    lineRemote := if p.txCount.getLsbD 0 then p.remoteSent else p.lineRemote } := if_pos h

theorem transmit_station (he : p.cfg.enable = true) (hu : p.usesTxStore = false) : p.transmit = { p with
    lineOut := p.lineFrame p.delivered, txCount := p.txCount + 1, txDue := false
    lineRemote := if p.txCount.getLsbD 0 then p.remoteSent else p.lineRemote } := by
  rw [transmit_enabled he, readTx_station hu]

theorem exec_tribTransmitFrame (hr : s.inReset = false) (h : (s.trib n).usesTxStore = true ∨ (s.trib n).txDue = true) :
    exec (.tribTransmitFrame n) s = .next (s.setTrib n (s.trib n).transmit) :=
  congrArg Host.Outcome.next (if_pos (by simpa [hr] using h))

theorem setTrib_others (q : Trib) (m : Idx8) (h : m ≠ n) : (s.setTrib n q).trib m = s.trib m :=
  (trib_setTrib ..).trans (if_neg h.symm)

/-- Settles O39: a frame of ones, a station-paced frame left due, and a frame in LOOP timing. -/
theorem tribTransmitFrameSent : Obligations.TribTransmitFrameSent := by
  refine ⟨fun s n hr he hd => ⟨_, exec_tribTransmitFrame hr (.inr hd), rfl, setTrib_others _, ?_⟩,
    fun s n hr he hd hp hl => ⟨_, exec_tribTransmitFrame hr (.inr hd), rfl, setTrib_others _, ?_⟩,
    fun s n hr he hl ha => ?_⟩
  · rw [trib_setTrib_self, transmit_disabled he]
  · rw [trib_setTrib_self, transmit_station he (usesTxStore_of_station (.inr hp))]
    exact ⟨lineFrame_sent hl, rfl⟩
  have uses := usesTxStore_of_loop he hl ha
  refine ⟨_, exec_tribTransmitFrame hr (.inl uses), rfl, setTrib_others _, ?_⟩
  rw [trib_setTrib_self, transmit_enabled he]
  cases hu : (s.trib n).txStore.unread with
  | nil =>
    rw [readTx_repeat uses hu]
    refine ⟨rfl, rfl, rfl, rfl, rfl, fun f rest h => (nomatch h), fun _ => ⟨rfl, rfl⟩, fun f h h32 => ?_⟩
    obtain ⟨rest, h⟩ | ⟨-, h⟩ := h
    · cases h
    · rw [h]
      exact lineFrame_sent h32
  | cons g gs =>
    rw [readTx_oldest uses hu]
    refine ⟨rfl, rfl, rfl, rfl, rfl, fun f rest h => ?_, fun h => (nomatch h), fun f h h32 => ?_⟩
    · cases h
      exact ⟨rfl, rfl⟩
    · obtain ⟨rest, h⟩ | ⟨h, -⟩ := h
      · cases h
        exact lineFrame_sent h32
      · cases h

end Sys2Proof.Machine
end

section
/-! TRIB CONFIG (R48 to R51). -/

namespace Sys2Proof.Machine

variable {p : Trib} {c : TribConfig} {s : State}

/-! ### Its parameters (R48, R49) -/

theorem readFlag_of_le {b : Byte} (h : b.toNat ≤ 1) : readFlag b.toNat = some (decide (b = 1)) := by
  obtain h | h : b.toNat = 0 ∨ b.toNat = 1 := by omega
  · have zero : b = 0 := BitVec.eq_of_toNat_eq h
    subst zero
    rfl
  · have one : b = 1 := BitVec.eq_of_toNat_eq h
    subst one
    rfl

theorem readUnit_byte (n : Idx8) : readUnit (byte n.val).toNat = some n := by
  have hn : (byte n.val).toNat = n.val := by
    rw [byte, BitVec.toNat_ofNat]
    exact Nat.mod_eq_of_lt (by omega)
  rw [hn]
  exact dif_pos n.isLt

theorem readUnit_of_gt {b : Nat} (h : 7 < b) : readUnit b = none := dif_neg (by omega)

theorem readTribConfig_of_le {en sg tim auto force code nib : Byte} (he : en.toNat ≤ 1) (hs : sg.toNat ≤ 1)
    (ht : tim.toNat ≤ 1) (ha : auto.toNat ≤ 1) (hf : force.toNat ≤ 1) (hn : nib.toNat ≤ 15) :
    readTribConfig en sg tim auto force code nib = some ⟨decide (en = 1), decide (sg = 1), decide (tim = 1),
      decide (auto = 1), decide (force = 1), code, nib.setWidth 4⟩ := by
  have width : readWidth 4 nib.toNat = some (nib.setWidth 4) := readWidth_of_lt (by omega)
  simp [readTribConfig, readFlag_of_le he, readFlag_of_le hs, readFlag_of_le ht, readFlag_of_le ha, readFlag_of_le hf, width]

theorem readTribConfig_of_gt {en sg tim auto force code nib : Byte}
    (h : 1 < en.toNat ∨ 1 < sg.toNat ∨ 1 < tim.toNat ∨ 1 < auto.toNat ∨ 1 < force.toNat ∨ 15 < nib.toNat) :
    readTribConfig en sg tim auto force code nib = none := by
  unfold readTribConfig
  obtain h | h | h | h | h | h := h
  · simp [readFlag_eq_none h]
  · simp [readFlag_eq_none h]
  · simp [readFlag_eq_none h]
  · simp [readFlag_eq_none h]
  · simp [readFlag_eq_none h]
  · simp [readWidth_of_le (w := 4) h]

theorem tribConfigBody_range {t : Byte} {c : Option TribConfig} (h : 7 < t.toNat ∨ c = none) :
    tribConfigBody t c s = (.range, s) := by
  unfold tribConfigBody
  obtain h | rfl := h
  · rw [readUnit_of_gt h]
  · cases readUnit t.toNat <;> rfl

variable {n : Idx8}

theorem tribConfigBody_inuse (h : (c.enable = false ∧ s.ownersOn (.trib n) ≠ []) ∨ (c.signalling = true ∧
    (s.trib n).cfg.signalling = false ∧ s.ct.activeMap.entry (.trib n) 16 ≠ none)) :
    tribConfigBody (byte n.val) (some c) s = (.inuse, s) := by
  unfold tribConfigBody
  rw [readUnit_byte]
  dsimp only
  obtain ⟨he, ho⟩ | ⟨hs, hp, ho⟩ := h
  · exact if_pos (by simp [he, ho])
  · split
    · rfl
    · exact if_pos (by simp [hs, hp, Option.isSome_iff_ne_none, ho])

theorem tribConfigBody_ok (he : c.enable = true ∨ s.ownersOn (.trib n) = [])
    (hs : c.signalling = false ∨ (s.trib n).cfg.signalling = true ∨ s.ct.activeMap.entry (.trib n) 16 = none) :
    tribConfigBody (byte n.val) (some c) s = (.ok, s.changeTrib n ((s.trib n).configure c)) := by
  unfold tribConfigBody
  rw [readUnit_byte]
  dsimp only
  rw [if_neg, if_neg]
  · obtain hs | hs | hs := hs <;> simp [hs]
  · obtain he | he := he <;> simp [he]

/-! ### Its effect on the port (R50, R51) -/

/-- The new items, and the signalling tables cleared by a change of the signalling mode. -/
def Trib.withConfig (p : Trib) (c : TribConfig) : Trib :=
  if c.signalling = p.cfg.signalling then { p with cfg := c } else { p with cfg := c }.clearSignalling

theorem withConfig_same (h : c.signalling = p.cfg.signalling) : p.withConfig c = { p with cfg := c } := if_pos h

theorem withConfig_changed (h : c.signalling ≠ p.cfg.signalling) :
    p.withConfig c = { p with cfg := c }.clearSignalling := if_neg h

/-- What the new items and the signalling mode leave alone. -/
theorem withConfig_eq : p.withConfig c = { p with
    cfg := c, sig := (p.withConfig c).sig
    rx := { p.rx with mfAligned := (p.withConfig c).rx.mfAligned, mfWrong := (p.withConfig c).rx.mfWrong } } := by
  unfold Trib.withConfig
  split <;> rfl

theorem configure_on (hc : c.enable = true) (hp : p.cfg.enable = false) : p.configure c = (p.withConfig c).turnOn :=
  if_pos (by simp [hc, hp])

theorem configure_off (hc : c.enable = false) (hp : p.cfg.enable = true) : p.configure c = (p.withConfig c).turnOff :=
  (if_neg (by simp [hc])).trans (if_pos (by simp [hc, hp]))

theorem configure_kept (h : c.enable = p.cfg.enable) : p.configure c =
    if c.loopTiming = p.cfg.loopTiming then p.withConfig c else (p.withConfig c).retime :=
  (if_neg (by simp [h])).trans (if_neg (by simp [h]))

/-- A change of the transmit timing writes the transmit store alone (R51, R83). -/
theorem retime_eq : p.retime = { p with txStore := p.retime.txStore } := by
  unfold Trib.retime
  split <;> rfl

theorem configure_kept_eq (h : c.enable = p.cfg.enable) :
    p.configure c = { p.withConfig c with txStore := (p.configure c).txStore } := by
  rw [configure_kept h]
  split
  · rfl
  · exact retime_eq

/-- A taken TRIB CONFIG of port `p` leaves port `q` (R50, R51). -/
structure Configured (p : Trib) (c : TribConfig) (q : Trib) : Prop where
  cfg : q.cfg = c
  counters : q.counters = p.counters
  on : c.enable = true → p.cfg.enable = false →
    q.rx.align = .noSignal ∧ q.rx.absence = 0 ∧ q.txCount = 0 ∧ q.store = .empty ∧ q.txStore = .empty
  off : c.enable = false → p.cfg.enable = true → q.rx.align = .off ∧ q.rx.ais = false ∧ q.rx.remote = false ∧
    q.rx.mfAligned = false ∧ q.good = false ∧ q.store = .empty ∧ q.txStore = .empty
  kept : c.enable = p.cfg.enable → q.rx.align = p.rx.align ∧ q.txCount = p.txCount ∧ q.store = p.store
  sameSignalling : c.signalling = p.cfg.signalling → q.sig = p.sig
  newSignalling : c.signalling ≠ p.cfg.signalling → q.sig = Vector.replicate 30 ⟨0xF, none⟩ ∧ q.rx.mfAligned = false

theorem configure_configured (p : Trib) (c : TribConfig) : Configured p c (p.configure c) := by
  have eq := withConfig_eq (p := p) (c := c)
  have same (h : c.signalling = p.cfg.signalling) : (p.withConfig c).sig = p.sig := by
    rw [withConfig_same h]
  have new (h : c.signalling ≠ p.cfg.signalling) : (p.withConfig c).sig = Vector.replicate 30 ⟨0xF, none⟩ ∧
      (p.withConfig c).rx.mfAligned = false := by
    rw [withConfig_changed h]
    exact ⟨rfl, rfl⟩
  by_cases h : c.enable = p.cfg.enable
  · have differ {a b : Bool} (hab : a ≠ b) (hc : c.enable = a) (hp : p.cfg.enable = b) : False :=
      hab (hc.symm.trans (h.trans hp))
    rw [configure_kept_eq h]
    generalize p.withConfig c = q at *
    rw [eq]
    exact ⟨rfl, rfl, fun hc hp => (differ (by decide) hc hp).elim, fun hc hp => (differ (by decide) hc hp).elim,
      fun _ => ⟨rfl, rfl, rfl⟩, same, new⟩
  cases hc : c.enable with
  | true =>
    have hp : p.cfg.enable = false := by simpa [hc] using h
    rw [configure_on hc hp]
    generalize p.withConfig c = q at *
    rw [eq]
    exact ⟨rfl, rfl, fun _ _ => ⟨rfl, rfl, rfl, rfl, rfl⟩, fun hc' => absurd (hc.symm.trans hc') (by decide),
      fun hk => absurd hk h, same, fun hs => ⟨(new hs).1, rfl⟩⟩
  | false =>
    have hp : p.cfg.enable = true := by simpa [hc] using h
    rw [configure_off hc hp]
    generalize p.withConfig c = q at *
    rw [eq]
    exact ⟨rfl, rfl, fun hc' => absurd (hc.symm.trans hc') (by decide), fun _ _ => ⟨rfl, rfl, rfl, rfl, rfl, rfl, rfl⟩,
      fun hk => absurd hk h, same, fun hs => ⟨(new hs).1, rfl⟩⟩

theorem configure_self (p : Trib) : p.configure p.cfg = p := by
  rw [configure_kept rfl, if_pos rfl, withConfig_same rfl]

/-- Settles O31: the refusals, and the port that a taken TRIB CONFIG leaves. -/
theorem tribConfigChecksAndWrites : Obligations.TribConfigChecksAndWrites := by
  intro s tb en sg tim auto force code nib hs
  have run : exec (.tribConfig [tb, en, sg, tim, auto, force, code, nib]) s =
      .next (ran [tb, en, sg, tim, auto, force, code, nib]
        (tribConfigBody tb (readTribConfig en sg tim auto force code nib)) s) :=
    congrArg Host.Outcome.next (transact_clear hs)
  refine ⟨_, run, fun h => ran_refusal (tribConfigBody_range ?_), ?_⟩
  · exact h.imp id readTribConfig_of_gt
  rintro n c rfl he hg ht ha hf hn hc
  rw [readTribConfig_of_le he hg ht ha hf hn, ← hc]
  refine ⟨fun h => ran_refusal (tribConfigBody_inuse h), fun h1 h2 => ?_⟩
  rw [ran_of (tribConfigBody_ok h1 h2)]
  obtain ⟨port_cfg, counters, on, off, kept, same, new⟩ := configure_configured (s.trib n) c
  obtain ⟨ct, dets, cp⟩ := changeTrib_aside s n ((s.trib n).configure c)
  have port := changeTrib_trib s n ((s.trib n).configure c)
  have event := changeTrib_event s n ((s.trib n).configure c)
  have response := congrArg CommandPort.response cp
  have self (h : c = (s.trib n).cfg) : (s.trib n).configure c = s.trib n := by rw [h, configure_self]
  generalize s.changeTrib n ((s.trib n).configure c) = t at *
  generalize (s.trib n).configure c = q at *
  subst port
  exact ⟨congrArg (fun r => (⟨.ok, r, .idle, _⟩ : CommandPort)) response, event, ct, dets, port_cfg, counters, on, off, kept,
    same, new, self⟩

end Sys2Proof.Machine
end

section
/-! The status queries (R66, R77, R101, R147, R154, R158, R175). -/

namespace Sys2Proof.Machine

variable {s : State}

/-! ### Transactions that answer -/

theorem ended_answer {ps : List Byte} {f : State → Code × State} {r : List Byte} (hf : f s = (.ok, s.answer r)) :
    Ended s (ran ps f s) ps.length .ok (some r) ∧ ran ps f s = { s with cp := (ran ps f s).cp } := by
  rw [ran_of hf]
  exact ⟨rfl, rfl⟩

theorem exec_tribStatus (h : Free s) (b : Byte) : exec (.tribStatus [b]) s =
    .next (ran [b] (ranged (readUnit b.toNat) fun t => answering fun s => s.tribResponse t) s) :=
  congrArg Host.Outcome.next (transact_free1 h ..)

theorem exec_detStatus (h : Free s) (b : Byte) : exec (.detStatus [b]) s =
    .next (ran [b] (ranged (readUnit b.toNat) fun d => answering fun s => s.detResponse d) s) :=
  congrArg Host.Outcome.next (transact_free1 h ..)

theorem exec_keyStatus (h : Free s) (b : Byte) : exec (.keyStatus [b]) s =
    .next (ran [b] (ranged (readUnit b.toNat) fun k => answering fun s => s.keyResponse k) s) :=
  congrArg Host.Outcome.next (transact_free1 h ..)

theorem exec_trunkStatus (h : Free s) (b : Byte) : exec (.trunkStatus [b]) s =
    .next (ran [b] (ranged (readTrunk b.toNat) fun k => answering fun s => s.trunkResponse k) s) :=
  congrArg Host.Outcome.next (transact_free1 h ..)

theorem exec_timingStatus (h : Free s) :
    exec (.timingStatus []) s = .next (ran [] (answering State.timingResponse) s) :=
  congrArg Host.Outcome.next (transact_free0 h _)

theorem exec_lineRead (h : Free s) : exec (.lineRead []) s = .next (ran [] (answering State.lineResponse) s) :=
  congrArg Host.Outcome.next (transact_free0 h _)

theorem ranged_answers {α : Type} {a : Option α} {v : α} (ha : a = some v) (r : α → State → List Byte) :
    ranged a (fun v => answering (r v)) s = (.ok, s.answer (r v s)) := by
  rw [ha]
  rfl

theorem ranged_refuses {α : Type} {a : Option α} (ha : a = none) (f : α → State → Code × State) :
    ranged a f s = (.range, s) := by
  rw [ha]
  rfl

theorem readTrunk_byte (k : Trunk) : readTrunk (byte (trunkCode k)).toNat = some k := by cases k <;> rfl

/-! ### Layout of the responses (R175) -/

theorem packNibbles_length : ∀ l : List Nibble, (packNibbles l).length = (l.length + 1) / 2
  | [] => by simp [packNibbles]
  | [_] => by simp [packNibbles]
  | _ :: _ :: rest => by
    rw [packNibbles, List.length_cons, packNibbles_length rest, List.length_cons, List.length_cons]
    omega

theorem maskOf_testBit (l : List Bool) (i : Nat) : (maskOf l).testBit i = l.getD i false := by
  induction l generalizing i with
  | nil => simp [maskOf]
  | cons b bs ih =>
    have low : b.toNat < 2 := Bool.toNat_lt b
    cases i with
    | zero =>
      have bit : (maskOf (b :: bs)) % 2 = b.toNat := by
        rw [maskOf]
        omega
      rw [Nat.testBit_zero, bit]
      cases b <;> rfl
    | succ i =>
      have half : (maskOf (b :: bs)) / 2 = maskOf bs := by
        rw [maskOf]
        omega
      rw [Nat.testBit_succ, half, ih]
      rfl

theorem byte_maskOf_getLsbD (l : List Bool) (i : Nat) (h : i < 8) : (byte (maskOf l)).getLsbD i = l.getD i false := by
  rw [byte, BitVec.getLsbD_ofNat, maskOf_testBit]
  simp [h]

theorem bytes16_length (n : Nat) : (bytes16 n).length = 2 := rfl

theorem counter_length (c : Counter) : (counter c).length = 2 := rfl

theorem bindingBytes_three (b : Option (RecId × Side)) : ∃ x y z, bindingBytes b = [x, y, z] := by
  cases b with
  | none => exact ⟨_, _, _, rfl⟩
  | some b => exact ⟨_, _, _, rfl⟩

theorem maybeByte_two (b : Option Byte) : ∃ x y, maybeByte b = [x, y] := by
  cases b with
  | none => exact ⟨_, _, rfl⟩
  | some b => exact ⟨_, _, rfl⟩

/-! ### TRIB STATUS (R66) -/

theorem tribNibbles_length (p : Trib) : (packNibbles (p.sig.toList.map SigEntry.nib)).length = 15 := by
  rw [packNibbles_length]
  simp

theorem tribResponse_length (s : State) (n : Idx8) : (s.tribResponse n).length = 44 := by
  simp [State.tribResponse, respond, tribNibbles_length, counter_length]

theorem tribResponse_items (s : State) (n : Idx8) : (s.tribResponse n).take 9 = [44, yes (s.trib n).cfg.enable,
    yes (s.trib n).cfg.signalling, yes (s.trib n).cfg.loopTiming, yes (s.trib n).cfg.autoRa, yes (s.trib n).cfg.forceRa,
    (s.trib n).cfg.vacantCode, byte (s.trib n).cfg.vacantNibble.toNat, byte (s.trib n).rx.align.code] := by
  have length := tribResponse_length s n
  unfold State.tribResponse at length ⊢
  rw [respond_eq, length]
  rfl

theorem tribResponse_counters (s : State) (n : Idx8) : (s.tribResponse n).drop 34 =
    counter (s.trib n).counters.alignErrors ++ counter (s.trib n).counters.losses ++
      counter (s.trib n).counters.repeatSlips ++ counter (s.trib n).counters.deleteSlips ++
      counter (s.trib n).counters.txSlips := by
  unfold State.tribResponse respond
  simp only [List.append_assoc]
  exact List.drop_left' (tribNibbles_length (s.trib n))

/-! ### TIMING STATUS (R77) -/

theorem timingResponse_length (s : State) : s.timingResponse.length = 16 + s.stu.list.length := by
  simp [State.timingResponse, respond, bytes16_length]
  omega

theorem timingResponse_items (s : State) : s.timingResponse.take 2 = [byte s.timingResponse.length, byte s.stu.list.length] ∧
    (s.timingResponse.drop 2).take s.stu.list.length = s.stu.list.map fun x => byte x.code := by
  unfold State.timingResponse respond
  simp only [List.append_assoc]
  exact ⟨rfl, List.take_left' (List.length_map ..)⟩

/-! ### LINE READ (R158) -/

theorem lineItems_length (s : State) :
    (s.clu.lines.toList.flatMap fun l => [byte l.function.code, yes l.activeLow, byte l.unit.val]).length = 24 := by
  rw [List.length_flatMap]
  simp

theorem lineResponse_length (s : State) : s.lineResponse.length = 30 := by
  have items := lineItems_length s
  simp only [State.lineResponse, respond, List.length_append, List.length_cons, List.length_nil, items]

theorem lineResponse_masks (s : State) (n : Idx8) : (s.lineResponse.getD 1 0).getLsbD n.val = s.presented n ∧
    (s.lineResponse.getD 2 0).getLsbD n.val = (s.line n).latch := by
  have presented := byte_maskOf_getLsbD (allUnits.map s.presented) n.val n.isLt
  have latched := byte_maskOf_getLsbD (s.clu.lines.toList.map Line.latch) n.val n.isLt
  refine ⟨presented.trans ?_, latched.trans ?_⟩
  · simp [allUnits]
  · simp [State.line, Vector.get]

theorem lineResponse_tail (s : State) :
    s.lineResponse.drop 27 = [yes s.alarmSummary, byte (maskOf s.alarmTerms), s.clu.alarmMask.setWidth 8] := by
  unfold State.lineResponse respond
  simp only [List.append_assoc]
  exact List.drop_left' (lineItems_length s)

/-- Settles O32: one answer for each query, and the refusals. -/
theorem statusQueriesAnswer : Obligations.StatusQueriesAnswer := by
  intro s hs
  have free : s.cp.response = none := hs.2
  have refused {b : Byte} {f : State → Code × State} (hf : f s = (.range, s)) :
      Ended s (ran [b] f s) 1 .range none ∧ ran [b] f s = { s with cp := (ran [b] f s).cp } := by
    rw [← free]
    exact ran_refusal hf
  refine ⟨fun n => ⟨_, s.tribResponse n, exec_tribStatus hs _, ?trib⟩, ⟨_, s.timingResponse, exec_timingStatus hs, ?timing⟩,
    fun k => ⟨_, s.trunkResponse k, exec_trunkStatus hs _, ?trunk⟩, fun n => ⟨_, s.detResponse n, exec_detStatus hs _, ?det⟩,
    fun n => ⟨_, s.keyResponse n, exec_keyStatus hs _, ?key⟩, ⟨_, s.lineResponse, exec_lineRead hs, ?line⟩, ?units,
    fun b hb => ⟨_, exec_trunkStatus hs b, refused (ranged_refuses (readTrunk_eq_none hb) _)⟩⟩
  case trib =>
    obtain ⟨ended, frame⟩ := ended_answer (ranged_answers (readUnit_byte n) fun t s => s.tribResponse t)
    exact ⟨ended, frame, tribResponse_length s n, tribResponse_items s n, tribResponse_counters s n⟩
  case timing =>
    obtain ⟨ended, frame⟩ := ended_answer (s := s) (f := answering State.timingResponse) rfl
    exact ⟨ended, frame, timingResponse_length s, timingResponse_items s⟩
  case trunk =>
    obtain ⟨ended, frame⟩ := ended_answer (ranged_answers (readTrunk_byte k) fun k s => s.trunkResponse k)
    exact ⟨ended, frame, rfl, rfl, rfl, rfl⟩
  case det =>
    obtain ⟨ended, frame⟩ := ended_answer (ranged_answers (readUnit_byte n) fun t s => s.detResponse t)
    refine ⟨ended, frame, ?_⟩
    unfold State.detResponse
    dsimp only
    obtain ⟨x, y, z, hb⟩ := bindingBytes_three (s.det n).binding
    obtain ⟨u, v, hp⟩ := maybeByte_two (s.det n).prev
    rw [hb, hp]
    exact ⟨rfl, rfl, rfl⟩
  case key =>
    obtain ⟨ended, frame⟩ := ended_answer (ranged_answers (readUnit_byte n) fun t s => s.keyResponse t)
    refine ⟨ended, frame, ?_⟩
    unfold State.keyResponse
    dsimp only
    obtain ⟨x, y, z, hb⟩ := bindingBytes_three (s.keyer n).binding
    obtain ⟨u, v, hl⟩ := maybeByte_two (s.keyer n).last.byte
    rw [hb, hl]
    exact ⟨rfl, rfl, rfl⟩
  case line =>
    obtain ⟨ended, frame⟩ := ended_answer (s := s) (f := answering State.lineResponse) rfl
    exact ⟨ended, frame, lineResponse_length s, lineResponse_masks s, lineResponse_tail s⟩
  case units =>
    intro b hb c hc
    have none := readUnit_of_gt hb
    simp only [List.mem_cons, List.not_mem_nil, or_false] at hc
    obtain rfl | rfl | rfl := hc
    · exact ⟨_, exec_tribStatus hs b, refused (ranged_refuses none _)⟩
    · exact ⟨_, exec_detStatus hs b, refused (ranged_refuses none _)⟩
    · exact ⟨_, exec_keyStatus hs b, refused (ranged_refuses none _)⟩

end Sys2Proof.Machine
end

section
/-! SUPPORT. The work of the path selector on its stores: what an anchoring, a jump, a departure and a read leave alone (R103 to
R109). -/

namespace Sys2Proof.Machine

variable {s t u : State} {k : Trunk}

/-- Work on the deskew stores: of a record it touches the slips and the tag checks, of a port the jumps and the window losses. -/
structure PathWork (s t : State) : Prop where
  tribs : t.tribs = s.tribs
  stu : t.stu = s.stu
  keyers : t.keyers = s.keyers
  clu : t.clu = s.clu
  cp : t.cp = s.cp
  inReset : t.inReset = s.inReset
  pending : t.pending = s.pending
  au : t.au = { s.au with flags := t.au.flags }
  table : t.ct = { s.ct with records := t.ct.records }
  record : ∀ id, t.record id = { s.record id with slips := (t.record id).slips, tag := (t.record id).tag }
  path : t.ps = { s.ps with deskew := t.ps.deskew, anchored := t.ps.anchored }
  trunks : t.trunks = { s.trunks with port := t.trunks.port }
  port : ∀ k, t.port k = { s.port k with jumps := (t.port k).jumps, windowLosses := (t.port k).windowLosses }

theorem PathWork.refl : PathWork s s := by constructor <;> simp

theorem PathWork.trans (h : PathWork s t) (g : PathWork t u) : PathWork s u where
  tribs := g.tribs.trans h.tribs
  stu := g.stu.trans h.stu
  keyers := g.keyers.trans h.keyers
  clu := g.clu.trans h.clu
  cp := g.cp.trans h.cp
  inReset := g.inReset.trans h.inReset
  pending := g.pending.trans h.pending
  au := by rw [g.au, h.au]
  table := by rw [g.table, h.table]
  record id := by rw [g.record id, h.record id]
  path := by rw [g.path, h.path]
  trunks := by rw [g.trunks, h.trunks]
  port k := by rw [g.port k, h.port k]

theorem PathWork.ite {c : Prop} [Decidable c] (h : PathWork s t) (g : PathWork s u) : PathWork s (if c then t else u) := by
  split
  · exact h
  · exact g

theorem PathWork.lineOut (h : PathWork s t) (k : Trunk) : (t.port k).lineOut = (s.port k).lineOut := by rw [h.port k]
theorem PathWork.align (h : PathWork s t) (k : Trunk) : (t.port k).align = (s.port k).align := by rw [h.port k]
theorem PathWork.enable (h : PathWork s t) (k : Trunk) : (t.port k).enable = (s.port k).enable := by rw [h.port k]
theorem PathWork.absence (h : PathWork s t) (k : Trunk) : (t.port k).absence = (s.port k).absence := by rw [h.port k]

theorem trib_of_tribs (h : t.tribs = s.tribs) (n : Idx8) : t.trib n = s.trib n := congrArg (fun v => v.get n) h

theorem eq_otherTrunk {j k : Trunk} (h : j ≠ k) : j = otherTrunk k := by
  revert h
  cases j <;> cases k <;> decide

/-! ### Its pieces -/

theorem setDeskew_path (s : State) (k : Trunk) (d : Deskew) : PathWork s (s.setDeskew k d) := by constructor <;> intros <;> rfl

theorem raise_path (s : State) (n : Nat) : PathWork s (s.raise n) := by constructor <;> intros <;> rfl

theorem countSlips_path (s : State) (p : Port) : PathWork s (s.countSlips p) where
  tribs := rfl
  stu := rfl
  keyers := rfl
  clu := rfl
  cp := rfl
  inReset := rfl
  pending := rfl
  au := rfl
  table := rfl
  record id := by rw [record_countSlips]
  path := rfl
  trunks := rfl
  port _ := rfl

theorem restartDets_path (s : State) (p : Port) : PathWork s (s.restartDets p) := by constructor <;> intros <;> rfl

theorem slipNotice_path (s : State) (p : Port) : PathWork s (s.slipNotice p) :=
  (countSlips_path s p).trans (restartDets_path _ p)

/-- A write of one port's jumps and window losses alone. -/
theorem setPort_path (s : State) (k : Trunk) {p : TrunkPort}
    (h : p = { s.port k with jumps := p.jumps, windowLosses := p.windowLosses }) : PathWork s (s.setPort k p) where
  tribs := rfl
  stu := rfl
  keyers := rfl
  clu := rfl
  cp := rfl
  inReset := rfl
  pending := rfl
  au := rfl
  table := rfl
  record _ := rfl
  path := rfl
  trunks := rfl
  port j := by
    by_cases hj : j = k
    · subst hj
      rwa [port_setPort_self]
    · rw [eq_otherTrunk hj, port_setPort_other]

theorem jump_path (s : State) (k : Trunk) : PathWork s (s.jump k) := (setPort_path s k rfl).trans (slipNotice_path _ _)

theorem anchored_path (s : State) (b : Bool) : PathWork s { s with ps := { s.ps with anchored := b } } := by
  constructor <;> intros <;> rfl

theorem anchor_path (s : State) (k : Trunk) : PathWork s (s.anchor k) := by
  unfold State.anchor
  exact .ite ((setDeskew_path ..).trans (jump_path ..)) ((setDeskew_path ..).trans (anchored_path ..))

theorem reanchor_path (s : State) : PathWork s s.reanchor := by
  unfold State.reanchor
  exact .ite .refl (.ite (anchor_path ..) (.ite (anchor_path ..) .refl))

theorem deskewLeave_path (s : State) (k : Trunk) : PathWork s (s.deskewLeave k) where
  tribs := rfl
  stu := rfl
  keyers := rfl
  clu := rfl
  cp := rfl
  inReset := rfl
  pending := rfl
  au := rfl
  table := rfl
  record id := by
    unfold State.deskewLeave
    rw [record_mapRecords]
    rfl
  path := rfl
  trunks := rfl
  port _ := rfl

theorem loseWindow_path (s : State) (k : Trunk) : PathWork s (s.loseWindow k) := by
  unfold State.loseWindow
  have lost (d : Deskew) := (setPort_path s k (p := { s.port k with windowLosses := bump (s.port k).windowLosses })
    rfl).trans (setDeskew_path _ k d)
  exact .trans (.ite (lost _) ((lost _).trans (anchor_path ..))) (raise_path ..)

theorem applyRead_path (s : State) (k : Trunk) (res : ReadResult) : PathWork s (s.applyRead k res) := by
  unfold State.applyRead
  exact (setDeskew_path ..).trans (.ite (loseWindow_path ..)
    (.ite ((setDeskew_path ..).trans (raise_path ..)) (setDeskew_path ..)))

theorem applyReads_path (s : State) (res : Pair ReadResult) : PathWork s (s.applyReads res) := by
  unfold State.applyReads
  exact .ite ((applyRead_path ..).trans (applyRead_path ..)) ((applyRead_path ..).trans (applyRead_path ..))

/-! ### A trunk leaves ALIGNED (R105, R106) -/

theorem anchor_deskew_self (s : State) (k : Trunk) : (s.anchor k).deskew k = ⟨[], .inWindow, 0, 0, .awaiting⟩ := by
  unfold State.anchor
  split
  · exact deskew_setDeskew_self s k _
  · exact deskew_setDeskew_self s k _

theorem anchor_deskew_other (s : State) (k : Trunk) : (s.anchor k).deskew (otherTrunk k) = s.deskew (otherTrunk k) := by
  unfold State.anchor
  split
  · exact deskew_setDeskew_other s k _
  · exact deskew_setDeskew_other s k _

theorem anchor_port_other (s : State) (k : Trunk) : (s.anchor k).port (otherTrunk k) = s.port (otherTrunk k) := by
  unfold State.anchor
  split
  · exact port_setPort_other s k _
  · rfl

theorem anchor_port_self (s : State) (k : Trunk) :
    (s.anchor k).port k = { s.port k with jumps := ((s.anchor k).port k).jumps } := by
  unfold State.anchor
  split
  · have e : ((s.setDeskew k .anchored).jump k).port k = { s.port k with jumps := bump (s.port k).jumps } :=
      port_setPort_self ..
    rw [e]
  · rfl

theorem anchor_au (s : State) (k : Trunk) : (s.anchor k).au = s.au := by
  unfold State.anchor
  split
  · rfl
  · rfl

theorem reanchor_au (s : State) : s.reanchor.au = s.au := by
  unfold State.reanchor
  split
  · rfl
  split
  · exact anchor_au s .a
  split
  · exact anchor_au s .b
  · rfl

theorem usable_of_not_aligned (h : (s.port k).align ≠ .aligned) : s.usable k = false := by simp [State.usable, h]

/-- Beside a trunk that is not ALIGNED, the pair anchors on the other one, if it is ALIGNED and not usable (R106). -/
theorem reanchor_beside (h : (s.port k).align ≠ .aligned) : s.reanchor =
    if s.usable (otherTrunk k) = true ∨ (s.port (otherTrunk k)).align ≠ .aligned then s else s.anchor (otherTrunk k) := by
  have off := usable_of_not_aligned h
  unfold State.reanchor
  cases k with
  | a =>
    have other : otherTrunk .a = .b := rfl
    rw [other, off, if_neg h]
    by_cases hu : s.usable .b = true <;> by_cases ha : (s.port .b).align = .aligned <;> simp [hu, ha]
  | b =>
    have other : otherTrunk .b = .a := rfl
    rw [other, off, if_neg h]
    by_cases hu : s.usable .a = true <;> by_cases ha : (s.port .a).align = .aligned <;> simp [hu, ha]

theorem otherTrunk_otherTrunk (k : Trunk) : otherTrunk (otherTrunk k) = k := by cases k <;> rfl

/-- The state ahead of what follows the departure of trunk k (R105, R106). -/
def State.departed (s : State) (k : Trunk) (q : TrunkPort) : State := ((s.setPort k q).deskewLeave k).reanchor

section
variable {q : TrunkPort} (hq : q.align ≠ .aligned)
include hq

theorem departed_eq : s.departed k q =
    if s.usable (otherTrunk k) = true ∨ (s.port (otherTrunk k)).align ≠ .aligned then (s.setPort k q).deskewLeave k
    else ((s.setPort k q).deskewLeave k).anchor (otherTrunk k) := by
  have left : ((s.setPort k q).deskewLeave k).port k = q := port_setPort_self s k q
  have port : ((s.setPort k q).deskewLeave k).port (otherTrunk k) = s.port (otherTrunk k) := port_setPort_other s k q
  have deskew : ((s.setPort k q).deskewLeave k).deskew (otherTrunk k) = s.deskew (otherTrunk k) :=
    deskew_setDeskew_other s k _
  have usable : ((s.setPort k q).deskewLeave k).usable (otherTrunk k) = s.usable (otherTrunk k) := by
    unfold State.usable
    rw [port, deskew]
  unfold State.departed
  rw [reanchor_beside (k := k) (by rwa [left]), usable, port]

theorem departed_port_self : (s.departed k q).port k = q := by
  have left : ((s.setPort k q).deskewLeave k).port k = q := port_setPort_self s k q
  rw [departed_eq hq]
  split
  · exact left
  · have other := anchor_port_other ((s.setPort k q).deskewLeave k) (otherTrunk k)
    rw [otherTrunk_otherTrunk] at other
    exact other.trans left

theorem departed_deskew_self : (s.departed k q).deskew k = ⟨[], .unanchored, 0, 0, .none⟩ := by
  have left : ((s.setPort k q).deskewLeave k).deskew k = .reset := deskew_setDeskew_self _ k _
  rw [departed_eq hq]
  split
  · exact left
  · have other := anchor_deskew_other ((s.setPort k q).deskewLeave k) (otherTrunk k)
    rw [otherTrunk_otherTrunk] at other
    exact other.trans left

theorem departed_beside (h : s.usable (otherTrunk k) = true ∨ (s.port (otherTrunk k)).align ≠ .aligned) :
    (s.departed k q).deskew (otherTrunk k) = s.deskew (otherTrunk k) ∧
      (s.departed k q).port (otherTrunk k) = s.port (otherTrunk k) := by
  rw [departed_eq hq, if_pos h]
  exact ⟨deskew_setDeskew_other (s.setPort k q) k _, port_setPort_other s k q⟩

theorem departed_port_other : (s.departed k q).port (otherTrunk k) =
    { s.port (otherTrunk k) with jumps := ((s.departed k q).port (otherTrunk k)).jumps } := by
  have port : ((s.setPort k q).deskewLeave k).port (otherTrunk k) = s.port (otherTrunk k) := port_setPort_other s k q
  rw [departed_eq hq]
  split
  · rw [port]
  · rw [anchor_port_self, port]

theorem departed_anchors (hu : s.usable (otherTrunk k) = false) (ha : (s.port (otherTrunk k)).align = .aligned) :
    (s.departed k q).deskew (otherTrunk k) = ⟨[], .inWindow, 0, 0, .awaiting⟩ := by
  rw [departed_eq hq, if_neg (by simp [hu, ha])]
  exact anchor_deskew_self ..

end

/-! ### What follows an event of a trunk (R70, R99, R111) -/

/-- The flags, the copy statuses and the STU, after trunk work on a state `old`. -/
structure Settled (old s t : State) : Prop where
  eq : t = { s with ct := { s.ct with records := t.ct.records }, stu := t.stu, au := { s.au with
    flags := t.au.flags, queue := t.au.queue } }
  record : ∀ id, t.record id = { s.record id with copy := (t.record id).copy, health := (t.record id).health }
  queue : s.au.queue <+: t.au.queue
  flags : ∀ i, i ≠ 8 → i ≠ 9 → i ≠ 10 → t.au.flags.getLsbD i = s.au.flags.getLsbD i
  keeps : ∀ i, s.au.flags.getLsbD i = true → t.au.flags.getLsbD i = true
  raises : ∀ k, s.sameTrunk old k = false → t.au.flags.getLsbD (trunkFlag k) = true
  count : t.stu.count = s.stu.count
  started : t.stu.started = s.stu.started
  met : StuMet s t

theorem refresh_copies (old : Record) (copy : Pair CopyStatus) : old.refresh { old with copy := copy } = { old with
    copy := copy, health := (old.refresh { old with copy := copy }).health } := by
  unfold Record.refresh
  split <;> rfl

theorem record_syncCopies (s : State) (id : RecId) : s.syncCopies.record id = { s.record id with
    copy := (s.syncCopies.record id).copy, health := (s.syncCopies.record id).health } := by
  unfold State.syncCopies
  rw [record_updateRecords]
  split
  · rw [refresh_copies]
  · rfl

theorem trunkFlags_flag (s old : State) (i : Nat) : (s.trunkFlags old).au.flags.getLsbD i = (s.au.flags.getLsbD i ||
    (!s.sameTrunk old .a && decide (i = 8)) || (!s.sameTrunk old .b && decide (i = 9))) := by
  unfold State.trunkFlags
  rw [raiseIf_flag _ _ _ (by decide), raiseIf_flag _ _ _ (by decide)]
  rfl

theorem trunkSettle_settled (old s : State) : Settled old s (s.trunkSettle old) := by
  have flag := trunkFlags_flag s old
  have only := stuReact_only (s.trunkFlags old).syncCopies
  have same : (s.trunkFlags old).syncCopies.stu = s.stu := by
    unfold State.trunkFlags
    rw [raiseIf_eq, raiseIf_eq s]
    rfl
  have keeps (i : Nat) (h : s.au.flags.getLsbD i = true) : (s.trunkSettle old).au.flags.getLsbD i = true :=
    only.keeps i ((flag i).trans (by simp [h]))
  have record (id : RecId) : (s.trunkSettle old).record id = (s.trunkFlags old).syncCopies.record id :=
    stuReact_record _ id
  have record_flags (id : RecId) : (s.trunkFlags old).record id = s.record id := by
    unfold State.record
    rw [trunkFlags_ct]
  refine ⟨?_, fun id => ?_, ?_, fun i h8 h9 h10 => ?_, keeps, fun k hk => ?_, only.count.trans (by rw [same]),
    only.started.trans (by rw [same]), trunkSettle_met s old⟩
  · have e := only.eq
    unfold State.trunkSettle
    generalize (s.trunkFlags old).syncCopies.stuReact = v at *
    rw [e]
    unfold State.trunkFlags
    rw [raiseIf_eq, raiseIf_eq s]
    rfl
  · rw [record, record_syncCopies, record_flags]
  · have e : (s.trunkSettle old).au.queue = (s.trunkFlags old).syncCopies.au.queue :=
      (congrArg (fun v : State => v.au.queue) only.eq :)
    have q : (s.trunkFlags old).au.queue = s.au.queue := by
      unfold State.trunkFlags
      rw [raiseIf_eq, raiseIf_eq s]
    rw [e, ← q]
    exact prefix_updateRecords ..
  · exact (only.flags i h10).trans ((flag i).trans (by simp [h8, h9]))
  · refine only.keeps _ ((flag _).trans ?_)
    cases k with
    | a => simp [hk, trunkFlag]
    | b => simp [hk, trunkFlag]

/-- The state after a change of a trunk port, ahead of what follows it. -/
def State.moved (s : State) (k : Trunk) (q : TrunkPort) : State :=
  if (s.port k).align = .aligned ∧ q.align ≠ .aligned then s.departed k q else s.setPort k q

theorem changePort_eq (s : State) (k : Trunk) (q : TrunkPort) : s.changePort k q = (s.moved k q).trunkSettle s := by
  unfold State.changePort State.moved State.departed
  simp only [decide_eq_true_eq]

theorem changePort_settled (s : State) (k : Trunk) (q : TrunkPort) : Settled s (s.moved k q) (s.changePort k q) := by
  rw [changePort_eq]
  exact trunkSettle_settled s _

theorem moved_left {q : TrunkPort} (ha : (s.port k).align = .aligned) (hq : q.align ≠ .aligned) :
    s.moved k q = s.departed k q := if_pos ⟨ha, hq⟩

theorem moved_stays {q : TrunkPort} (h : (s.port k).align = .aligned → q.align = .aligned) : s.moved k q = s.setPort k q :=
  if_neg fun hm => hm.2 (h hm.1)

theorem moved_path (s : State) (k : Trunk) (q : TrunkPort) : PathWork (s.setPort k q) (s.moved k q) :=
  .ite ((deskewLeave_path _ k).trans (reanchor_path _)) .refl

theorem moved_au (s : State) (k : Trunk) (q : TrunkPort) : (s.moved k q).au = s.au := by
  unfold State.moved State.departed
  split
  · exact reanchor_au _
  · rfl

theorem moved_port_self (s : State) (k : Trunk) (q : TrunkPort) : (s.moved k q).port k = q := by
  by_cases h : (s.port k).align = .aligned ∧ q.align ≠ .aligned
  · rw [moved_left h.1 h.2, departed_port_self h.2]
  · rw [State.moved, if_neg h, port_setPort_self]

theorem moved_port_other (s : State) (k : Trunk) (q : TrunkPort) : (s.moved k q).port (otherTrunk k) =
    { s.port (otherTrunk k) with jumps := ((s.moved k q).port (otherTrunk k)).jumps } := by
  by_cases h : (s.port k).align = .aligned ∧ q.align ≠ .aligned
  · rw [moved_left h.1 h.2]
    exact departed_port_other h.2
  · rw [State.moved, if_neg h, port_setPort_other]

/-- A trunk that is not ALIGNED keeps its deskew store beside the other's departure. -/
theorem moved_deskew_other {q : TrunkPort} (h : (s.port (otherTrunk k)).align ≠ .aligned) :
    (s.moved k q).deskew (otherTrunk k) = s.deskew (otherTrunk k) := by
  by_cases hm : (s.port k).align = .aligned ∧ q.align ≠ .aligned
  · rw [moved_left hm.1 hm.2]
    exact (departed_beside hm.2 (.inr h)).1
  · rw [State.moved, if_neg hm]
    rfl

/-! ### A trunk event (R70 to R75, R99) -/

/-- What a change of a trunk port leaves alone, and the work on the other port. -/
structure PortChanged (s t : State) (k : Trunk) (q : TrunkPort) : Prop where
  tribs : t.tribs = s.tribs
  keyers : t.keyers = s.keyers
  clu : t.clu = s.clu
  cp : t.cp = s.cp
  inReset : t.inReset = s.inReset
  pending : t.pending = s.pending
  table : t.ct = { s.ct with records := t.ct.records }
  record : ∀ id, t.record id = { s.record id with
    slips := (t.record id).slips, tag := (t.record id).tag, copy := (t.record id).copy, health := (t.record id).health }
  path : t.ps = { s.ps with deskew := t.ps.deskew, anchored := t.ps.anchored }
  au : t.au = { s.au with flags := t.au.flags, queue := t.au.queue }
  queue : s.au.queue <+: t.au.queue
  flags : ∀ i, i ≠ 8 → i ≠ 9 → i ≠ 10 → t.au.flags.getLsbD i = s.au.flags.getLsbD i
  keeps : ∀ i, s.au.flags.getLsbD i = true → t.au.flags.getLsbD i = true
  raises : (s.port k).align ≠ q.align → t.au.flags.getLsbD (trunkFlag k) = true
  count : t.stu.count = s.stu.count
  started : t.stu.started = s.stu.started
  met : StuMet s t
  self : t.port k = q
  other : t.port (otherTrunk k) = { s.port (otherTrunk k) with jumps := (t.port (otherTrunk k)).jumps }
  moved : t.ps = (s.moved k q).ps
  port : ∀ j, t.port j = (s.moved k q).port j
  slips : ∀ id, (t.record id).slips = ((s.moved k q).record id).slips

theorem changePort_changed (s : State) (k : Trunk) (q : TrunkPort) : PortChanged s (s.changePort k q) k q := by
  have path := moved_path s k q
  have settled := changePort_settled s k q
  have self := moved_port_self s k q
  have other := moved_port_other s k q
  have au := moved_au s k q
  have stu : (s.moved k q).stu = s.stu := path.stu
  have eq := settled.eq
  generalize s.changePort k q = t at *
  have port (j : Trunk) : t.port j = (s.moved k q).port j := by
    unfold State.port
    rw [eq]
  refine ⟨?_, ?_, ?_, ?_, ?_, ?_, ?_, fun id => ?_, ?_, ?_, ?_, ?_, ?_, fun h => ?_, ?_, ?_, ?_, ?_, ?_, by rw [eq], port,
    fun id => by rw [settled.record id]⟩
  · rw [eq]
    exact path.tribs
  · rw [eq]
    exact path.keyers
  · rw [eq]
    exact path.clu
  · rw [eq]
    exact path.cp
  · rw [eq]
    exact path.inReset
  · rw [eq]
    exact path.pending
  · have e : t.ct = { (s.moved k q).ct with records := t.ct.records } := (congrArg State.ct eq :)
    rw [e, path.table]
    rfl
  · rw [settled.record id, path.record id]
    rfl
  · rw [eq]
    exact path.path
  · have e : t.au = { (s.moved k q).au with flags := t.au.flags, queue := t.au.queue } := (congrArg State.au eq :)
    rwa [au] at e
  · exact au ▸ settled.queue
  · exact au ▸ settled.flags
  · exact au ▸ settled.keeps
  · refine settled.raises k ?_
    unfold State.sameTrunk
    rw [self]
    simp [Ne.symm h]
  · rw [settled.count, stu]
  · rw [settled.started, stu]
  · have met := settled.met
    unfold StuMet at met ⊢
    rwa [au, stu] at met
  · rw [port, self]
  · rw [port]
    exact other

theorem PortChanged.event {s t : State} {k : Trunk} {q : TrunkPort} (h : PortChanged s t k q) : TrunkEvent s t := by
  refine ⟨h.tribs, h.keyers, h.clu, h.inReset, h.pending, h.table, fun id => ?_, ?_, ?_, ?_, .inl h.met, h.flags⟩
  · rw [h.record id]
    exact ⟨rfl, rfl, rfl, rfl⟩
  · rw [h.path]
  · rw [h.au]
  · rw [h.au]

end Sys2Proof.Machine
end

section
/-! The judgement of receive clocks (R52, R83, R94, R105, R106). -/

namespace Sys2Proof.Machine

variable {s : State} {n : Idx8} {k : Trunk}

/-! ### Tributary ports (R52, R83) -/

theorem loseClock_lost (p : Trib) : ClockLost p p.loseClock := by
  unfold Trib.loseClock Trib.countLoss
  split <;> rename_i h
  · exact ⟨rfl, rfl, rfl, rfl, rfl, rfl, rfl, rfl, rfl, by rw [if_pos h]; rfl, rfl, rfl⟩
  · exact ⟨rfl, rfl, rfl, rfl, rfl, rfl, rfl, rfl, rfl, by rw [if_neg h]; rfl, rfl, rfl⟩

/-- SEARCH, CONFIRM or ALIGNED: the states in which a receive clock is missed. -/
abbrev Align.runs (a : Align) : Prop := a = .search ∨ a = .confirm ∨ a = .aligned

theorem judgeClock_running {p : Trib} (h : p.rx.align.runs) (present : Bool) : p.judgeClock present =
    if present then { p with rx := { p.rx with absence := 0 } }
    else if 4 ≤ p.rx.absence + 1 then p.loseClock
    else { p with rx := { p.rx with absence := p.rx.absence + 1 } } := by
  unfold Trib.judgeClock
  obtain h | h | h := h <;> rw [h] <;> rfl

theorem judgeClock_tribJudged (p : Trib) (present : Bool) : TribJudged p (p.judgeClock present) present := by
  refine ⟨fun h => ?_, fun h => ⟨fun hp => ?_, fun hp => ?_⟩, fun h => ⟨fun hp => ?_, fun hp hl => ?_, fun hp hl => ?_⟩⟩
  · rw [Trib.judgeClock, h]
  · rw [Trib.judgeClock, h, hp]
    rfl
  · rw [Trib.judgeClock, h, hp]
    dsimp only
    rw [if_pos rfl]
    unfold Trib.findClock
    dsimp only
    split
    · exact ⟨rfl, rfl, rfl, rfl, rfl, rfl, rfl⟩
    · exact ⟨rfl, rfl, rfl, rfl, rfl, rfl, rfl⟩
  · rw [judgeClock_running h, if_pos hp]
  · rw [judgeClock_running h, if_neg (by simp [hp]), if_neg (by omega)]
  · rw [judgeClock_running h, if_neg (by simp [hp]), if_pos (by omega)]
    exact loseClock_lost p

theorem exec_tribClockLoss (hr : s.inReset = false) (h3 : (s.trib n).rx.absence = 3) (ha : (s.trib n).rx.align.runs) :
    exec (.tribClockLoss n) s = .next (s.changeTrib n (s.trib n).loseClock) :=
  congrArg Host.Outcome.next (if_pos (by simp [hr, h3, ha, Config.absentFrames]))

/-! ### Trunks (R94, R105, R106) -/

theorem trunkJudgeClock_running {p : TrunkPort} (he : p.enable = true) (h : p.align.runs) (present : Bool) :
    p.judgeClock present = if present then { p with clock := present, absence := 0 }
      else if 4 ≤ p.absence + 1 then { { p with clock := present }.leave .noSignal [] with absence := 0 }
      else { p with clock := present, absence := p.absence + 1 } := by
  unfold TrunkPort.judgeClock
  rw [he]
  obtain h | h | h := h <;> rw [h] <;> rfl

theorem judgeClock_disabled {p : TrunkPort} {present : Bool} (h : p.enable = false) : p.judgeClock present = p :=
  if_pos (by simp [h])

theorem judgeClock_withJumps (p : TrunkPort) (jumps : Counter) (present : Bool) :
    ({ p with jumps := jumps }).judgeClock present = { p.judgeClock present with jumps := jumps } := by
  unfold TrunkPort.judgeClock
  by_cases he : (!p.enable) = true
  · rw [if_pos he, if_pos he]
  · rw [if_neg he, if_neg he]
    dsimp only
    split
    · rfl
    · split <;> rfl
    · split
      · rfl
      · split <;> rfl

theorem judgeClock_jumps (p : TrunkPort) (present : Bool) : (p.judgeClock present).jumps = p.jumps :=
  (congrArg TrunkPort.jumps (judgeClock_withJumps p p.jumps present) :)

theorem judgeClock_trunkJudged (p : TrunkPort) (present : Bool) (jumps : Counter) :
    TrunkJudged p { p.judgeClock present with jumps := jumps } present := by
  refine ⟨fun he => ?_, fun he h => ⟨fun hp => ?_, fun hp => ?_⟩,
    fun he h => ⟨fun hp => ?_, fun hp hl => ?_, fun hp hl => ?_⟩⟩
  · rw [judgeClock_disabled he]
  · rw [TrunkPort.judgeClock, he, h, hp]
    rfl
  · rw [TrunkPort.judgeClock, he, h, hp]
    rfl
  · rw [trunkJudgeClock_running he h, if_pos hp, hp]
  · rw [trunkJudgeClock_running he h, if_neg (by simp [hp]), if_neg (by omega), hp]
  · rw [trunkJudgeClock_running he h, if_neg (by simp [hp]), if_pos (by omega), hp]
    rfl

theorem exec_trunkClockLoss (hr : s.inReset = false) (he : (s.port k).enable = true) (h3 : (s.port k).absence = 3)
    (ha : (s.port k).align.runs) :
    exec (.trunkClockLoss k) s = .next (s.changePort k ((s.port k).judgeClock false)) :=
  congrArg Host.Outcome.next (if_pos (by simp [hr, he, h3, ha, Config.absentFrames]))

/-! ### Every judgement of one station frame, one after another (log 6) -/

/-- Judgements that touch the tributary ports, the STU and the flags alone. -/
structure TribsWork (s t : State) : Prop where
  eq : t = { s with tribs := t.tribs, stu := t.stu, au := { s.au with flags := t.au.flags } }
  flags : ∀ i, 8 ≤ i → i ≠ 10 → t.au.flags.getLsbD i = s.au.flags.getLsbD i
  count : t.stu.count = s.stu.count
  started : t.stu.started = s.stu.started

theorem changeTrib_started (s : State) (n : Idx8) (p : Trib) : (s.changeTrib n p).stu.started = s.stu.started := by
  unfold State.changeTrib
  rw [(stuReact_only _).started, raiseIf_eq]
  rfl

theorem changeTrib_work (s : State) (n : Idx8) (p : Trib) : TribsWork s (s.changeTrib n p) := by
  obtain ⟨-, -, -, -, -, -, flags, -, -, -, -, count, -, -⟩ := changeTrib_event s n p
  exact ⟨changeTrib_eq s n p, fun i h8 h10 => flags i (by omega) h10, count, changeTrib_started s n p⟩

theorem TribsWork.trans {s t u : State} (h : TribsWork s t) (g : TribsWork t u) : TribsWork s u where
  eq := by
    have e1 := h.eq
    have e2 := g.eq
    rw [e1] at e2
    exact e2
  flags i h8 h10 := (g.flags i h8 h10).trans (h.flags i h8 h10)
  count := g.count.trans h.count
  started := g.started.trans h.started

theorem changeTrib_flag (s : State) (n m : Idx8) (p : Trib) : (s.changeTrib n p).au.flags.getLsbD m.val =
    (s.au.flags.getLsbD m.val || (decide (m = n) && !(s.trib n).sameShown p)) := by
  obtain ⟨-, -, -, -, -, -, flags, own, -⟩ := changeTrib_event s n p
  by_cases hm : m = n
  · subst hm
    rw [changeTrib_trib] at own
    rw [Bool.eq_iff_iff, own]
    simp
  · rw [flags m.val (fun h => hm (Fin.ext h)) (by omega)]
    simp [hm]

/-- One port of the list after another has changed, each once (log 6). -/
theorem foldl_changeTrib (f : Idx8 → Trib → Trib) (l : List Idx8) (hl : l.Nodup) (s t : State)
    (ht : t = l.foldl (fun s n => s.changeTrib n (f n (s.trib n))) s) : TribsWork s t ∧ ∀ n,
      t.trib n = (if n ∈ l then f n (s.trib n) else s.trib n) ∧
      t.au.flags.getLsbD n.val = (s.au.flags.getLsbD n.val || !(s.trib n).sameShown (t.trib n)) := by
  have self (p : Trib) : p.sameShown p = true := by simp [Trib.sameShown]
  induction l generalizing s with
  | nil =>
    subst ht
    exact ⟨⟨rfl, fun _ _ _ => rfl, rfl, rfl⟩, fun n => ⟨rfl, by rw [self]; simp⟩⟩
  | cons m ms ih =>
    obtain ⟨fresh, hms⟩ := List.nodup_cons.1 hl
    obtain ⟨work, each⟩ := ih hms (s.changeTrib m (f m (s.trib m))) ht
    refine ⟨(changeTrib_work s m _).trans work, fun n => ?_⟩
    obtain ⟨trib, flag⟩ := each n
    rw [changeTrib_flag] at flag
    by_cases hn : n = m
    · subst hn
      rw [if_neg fresh, changeTrib_trib] at trib
      rw [trib, changeTrib_trib, self] at flag
      rw [trib, if_pos List.mem_cons_self, flag]
      simp
    · rw [changeTrib_trib_ne _ _ hn] at trib flag
      rw [flag]
      simp [trib, hn]

/-- The tributary ports' judgements. -/
def State.judgeTribs (s : State) (inp : FrameIn) : State :=
  allUnits.foldl (fun s t => s.changeTrib t ((s.trib t).judgeClock (inp.tribClock.getLsbD t.val))) s

/-- The judgements of one trunk's clock, and of REF's edges. -/
def State.judgePort (s : State) (k : Trunk) (present : Bool) : State := s.changePort k ((s.port k).judgeClock present)

def State.judgeRef (s : State) (edges : Bool) : State := if edges then s.refSeen else s.refSilent

theorem judge_eq (s : State) (inp : FrameIn) : s.judge inp =
    (((s.judgeTribs inp).judgePort .a inp.trunkAClock).judgePort .b inp.trunkBClock).judgeRef inp.refEdges := rfl

/-- The judgement of REF touches the STU and the TIMING flag alone. -/
structure RefWork (s t : State) : Prop where
  eq : t = { s with stu := t.stu, au := { s.au with flags := t.au.flags } }
  flags : ∀ i, i ≠ 10 → t.au.flags.getLsbD i = s.au.flags.getLsbD i
  count : t.stu.count = s.stu.count
  started : t.stu.started = s.stu.started

theorem stuReact_refWork (s : State) (active : Bool) (idle : Nat) :
    RefWork s { s with stu := { s.stu with refActive := active, refIdle := idle } }.stuReact := by
  have only := stuReact_only { s with stu := { s.stu with refActive := active, refIdle := idle } }
  exact ⟨only.eq, only.flags, only.count, only.started⟩

theorem judgeRef_work (s : State) (edges : Bool) : RefWork s (s.judgeRef edges) := by
  unfold State.judgeRef State.refSeen State.refSilent
  split
  · exact stuReact_refWork s _ _
  split
  · split
    · exact stuReact_refWork s _ _
    · exact ⟨rfl, fun _ _ => rfl, rfl, rfl⟩
  · exact ⟨rfl, fun _ _ => rfl, rfl, rfl⟩

/-- What the judgements of both trunks' clocks make of a state. -/
structure PortsJudged (s t : State) (clock : Trunk → Bool) : Prop where
  tribs : t.tribs = s.tribs
  keyers : t.keyers = s.keyers
  clu : t.clu = s.clu
  cp : t.cp = s.cp
  table : t.ct = { s.ct with records := t.ct.records }
  record : ∀ id, t.record id = { s.record id with
    slips := (t.record id).slips, tag := (t.record id).tag, copy := (t.record id).copy, health := (t.record id).health }
  path : t.ps = { s.ps with deskew := t.ps.deskew, anchored := t.ps.anchored }
  queue : s.au.queue <+: t.au.queue
  flags : ∀ i, i < 8 → t.au.flags.getLsbD i = s.au.flags.getLsbD i
  count : t.stu.count = s.stu.count
  started : t.stu.started = s.stu.started
  port : ∀ k, t.port k = { (s.port k).judgeClock (clock k) with jumps := (t.port k).jumps }
  flagged : ∀ k, (t.port k).align ≠ (s.port k).align → t.au.flags.getLsbD (trunkFlag k) = true
  left : ∀ k, (s.port k).align = .aligned → (t.port k).align ≠ .aligned → t.deskew k = ⟨[], .unanchored, 0, 0, .none⟩
  stayed : (∀ k, (s.port k).align = .aligned → (t.port k).align = .aligned) → t.ps = s.ps ∧
    (∀ k, (t.port k).jumps = (s.port k).jumps) ∧ ∀ id, (t.record id).slips = (s.record id).slips

theorem judgePorts_judged (s : State) (clock : Trunk → Bool) :
    PortsJudged s ((s.judgePort .a (clock .a)).judgePort .b (clock .b)) clock := by
  have first : PortChanged s (s.judgePort .a (clock .a)) .a ((s.port .a).judgeClock (clock .a)) := changePort_changed s .a _
  generalize s.judgePort .a (clock .a) = m at *
  have second : PortChanged m (m.judgePort .b (clock .b)) .b ((m.port .b).judgeClock (clock .b)) := changePort_changed m .b _
  generalize m.judgePort .b (clock .b) = t at *
  have midB : m.port .b = { s.port .b with jumps := (m.port .b).jumps } := first.other
  have alignB : (m.port .b).align = (s.port .b).align := by rw [midB]
  have endA : t.port .a = { m.port .a with jumps := (t.port .a).jumps } := second.other
  have alignA : (t.port .a).align = (m.port .a).align := by rw [endA]
  refine ⟨second.tribs.trans first.tribs, second.keyers.trans first.keyers, second.clu.trans first.clu,
    second.cp.trans first.cp, by rw [second.table, first.table], fun id => by rw [second.record, first.record],
    by rw [second.path, first.path], first.queue.trans second.queue, fun i hi => ?flags, second.count.trans first.count,
    second.started.trans first.started, fun k => ?port, fun k h => ?flagged, fun k hs ht => ?left, fun h => ?stayed⟩
  case flags =>
    rw [second.flags i (by omega) (by omega) (by omega), first.flags i (by omega) (by omega) (by omega)]
  case port =>
    cases k with
    | a => rw [endA, first.self]
    | b => rw [second.self, midB, judgeClock_withJumps]
  case flagged =>
    cases k with
    | a =>
      rw [alignA, first.self] at h
      exact second.keeps _ (first.raises h.symm)
    | b =>
      rw [second.self] at h
      exact second.raises (by rwa [alignB, ne_comm])
  case left =>
    have deskewT (k : Trunk) : t.deskew k = (m.moved .b ((m.port .b).judgeClock (clock .b))).deskew k := by
      unfold State.deskew
      rw [second.moved]
    have deskewM (k : Trunk) : m.deskew k = (s.moved .a ((s.port .a).judgeClock (clock .a))).deskew k := by
      unfold State.deskew
      rw [first.moved]
    cases k with
    | a =>
      rw [alignA] at ht
      have kept : t.deskew .a = m.deskew .a := (deskewT .a).trans (moved_deskew_other ht)
      rw [first.self] at ht
      rw [kept, deskewM, moved_left hs ht]
      exact departed_deskew_self ht
    | b =>
      rw [second.self] at ht
      rw [deskewT, moved_left (alignB.trans hs) ht]
      exact departed_deskew_self ht
  case stayed =>
    have stayA := moved_stays (s := s) (k := .a) (q := (s.port .a).judgeClock (clock .a)) fun hs => by
      rw [← first.self, ← alignA]
      exact h .a hs
    have stayB := moved_stays (s := m) (k := .b) (q := (m.port .b).judgeClock (clock .b)) fun hs => by
      rw [← second.self]
      exact h .b (alignB ▸ hs)
    refine ⟨?_, fun k => ?_, fun id => ?_⟩
    · rw [second.moved, stayB]
      exact first.moved.trans (by rw [stayA]; rfl)
    · cases k with
      | a =>
        rw [second.port, stayB]
        have kept : (m.setPort .b ((m.port .b).judgeClock (clock .b))).port .a = m.port .a := rfl
        rw [kept, first.self, judgeClock_jumps]
      | b =>
        have kept : m.port .b = s.port .b := by rw [first.port, stayA]; rfl
        rw [second.self, judgeClock_jumps, kept]
    · rw [second.slips, stayB]
      exact (first.slips id).trans (by rw [stayA]; rfl)

/-- Whether the frame brings a trunk's receive clock. -/
def trunkClockOf (inp : FrameIn) : Trunk → Bool
  | .a => inp.trunkAClock
  | .b => inp.trunkBClock

/-- What the judgements of a station frame make of the state `m` that the frame's traffic leaves. -/
structure FrameJudged (m t : State) (inp : FrameIn) : Prop where
  trib : ∀ n, t.trib n = (m.trib n).judgeClock (inp.tribClock.getLsbD n.val)
  tribFlag : ∀ n : Idx8, t.au.flags.getLsbD n.val = (m.au.flags.getLsbD n.val || !(m.trib n).sameShown (t.trib n))
  keyers : t.keyers = m.keyers
  clu : t.clu = m.clu
  cp : t.cp = m.cp
  table : t.ct = { m.ct with records := t.ct.records }
  record : ∀ id, t.record id = { m.record id with
    slips := (t.record id).slips, tag := (t.record id).tag, copy := (t.record id).copy, health := (t.record id).health }
  path : t.ps = { m.ps with deskew := t.ps.deskew, anchored := t.ps.anchored }
  queue : m.au.queue <+: t.au.queue
  count : t.stu.count = m.stu.count
  started : t.stu.started = m.stu.started
  port : ∀ k, t.port k = { (m.port k).judgeClock (trunkClockOf inp k) with jumps := (t.port k).jumps }
  flagged : ∀ k, (t.port k).align ≠ (m.port k).align → t.au.flags.getLsbD (trunkFlag k) = true
  left : ∀ k, (m.port k).align = .aligned → (t.port k).align ≠ .aligned → t.deskew k = ⟨[], .unanchored, 0, 0, .none⟩
  stayed : (∀ k, (m.port k).align = .aligned → (t.port k).align = .aligned) → t.ps = m.ps ∧
    (∀ k, (t.port k).jumps = (m.port k).jumps) ∧ ∀ id, (t.record id).slips = (m.record id).slips

theorem judge_judged (m : State) (inp : FrameIn) : FrameJudged m (m.judge inp) inp := by
  rw [judge_eq]
  obtain ⟨work, tribs⟩ := foldl_changeTrib (fun n p => p.judgeClock (inp.tribClock.getLsbD n.val)) allUnits
    (List.nodup_finRange 8) m (m.judgeTribs inp) rfl
  generalize m.judgeTribs inp = a at *
  have ports : PortsJudged a ((a.judgePort .a inp.trunkAClock).judgePort .b inp.trunkBClock) (trunkClockOf inp) :=
    judgePorts_judged a (trunkClockOf inp)
  generalize (a.judgePort .a inp.trunkAClock).judgePort .b inp.trunkBClock = c at *
  have ref := judgeRef_work c inp.refEdges
  generalize c.judgeRef inp.refEdges = t at *
  have eqA := work.eq
  have eqT := ref.eq
  have portA (k : Trunk) : a.port k = m.port k := by rw [State.port, eqA]; rfl
  have recordA (id : RecId) : a.record id = m.record id := by rw [State.record, eqA]; rfl
  have ctA : a.ct = m.ct := by rw [eqA]
  have psA : a.ps = m.ps := by rw [eqA]
  have portT (k : Trunk) : t.port k = c.port k := by rw [State.port, eqT]; rfl
  have deskewT (k : Trunk) : t.deskew k = c.deskew k := by rw [State.deskew, eqT]; rfl
  have recordT (id : RecId) : t.record id = c.record id := by rw [State.record, eqT]; rfl
  have ctT : t.ct = c.ct := by rw [eqT]
  have psT : t.ps = c.ps := by rw [eqT]
  have tribT (n : Idx8) : t.trib n = a.trib n := by
    rw [← trib_of_tribs ports.tribs, State.trib, eqT]
    rfl
  refine ⟨fun n => ?_, fun n => ?_, ?_, ?_, ?_, ?_, fun id => ?_, ?_, ?_, ?_, ?_, fun k => ?_, fun k h => ?_,
    fun k hm ht => ?_, fun h => ?_⟩
  · rw [tribT, (tribs n).1]
    exact if_pos (List.mem_finRange n)
  · rw [ref.flags _ (by omega), ports.flags _ (by omega), tribT, (tribs n).2]
  · rw [eqT]
    exact ports.keyers.trans (by rw [eqA])
  · rw [eqT]
    exact ports.clu.trans (by rw [eqA])
  · rw [eqT]
    exact ports.cp.trans (by rw [eqA])
  · rw [ctT, ports.table, ctA]
  · rw [recordT, ports.record, recordA]
  · rw [psT, ports.path, psA]
  · rw [eqT]
    have queue := ports.queue
    rwa [eqA] at queue
  · rw [ref.count, ports.count, work.count]
  · rw [ref.started, ports.started, work.started]
  · rw [portT, ports.port, portA]
  · rw [portT, ← portA] at h
    rw [ref.flags _ (by cases k <;> decide)]
    exact ports.flagged k h
  · rw [portT] at ht
    rw [deskewT]
    exact ports.left k (by rwa [portA]) ht
  · obtain ⟨ps, jumps, slips⟩ := ports.stayed fun k hk => by
      rw [← portT]
      exact h k (by rwa [← portA])
    exact ⟨psT.trans (ps.trans psA), fun k => by rw [portT, jumps, portA], fun id => by rw [recordT, slips, recordA]⟩

end Sys2Proof.Machine
end

section
/-! SUPPORT. What the chains of the cross-connect engine read of the state (R121 to R131). -/

namespace Sys2Proof.Machine

variable {s t u : State}

/-- The items of a tributary port that the chains read. -/
structure SameReceived (p q : Trib) : Prop where
  cfg : q.cfg = p.cfg
  rx : q.rx = p.rx
  sig : q.sig = p.sig
  store : q.store = p.store

/-- Two states between which nothing that the chains and the tag channel read has changed; slips are not read. -/
structure SameSources (s t : State) : Prop where
  activeMap : t.ct.activeMap = s.ct.activeMap
  epoch : t.ct.epoch = s.ct.epoch
  stu : t.stu = s.stu
  record : ∀ id, t.record id = { s.record id with slips := (t.record id).slips }
  trib : ∀ n, SameReceived (s.trib n) (t.trib n)
  sig : t.ps.sig = s.ps.sig
  keyer : ∀ k, (t.keyer k).binding = (s.keyer k).binding ∧ (t.keyer k).last.byte = (s.keyer k).last.byte

theorem SameReceived.refl (p : Trib) : SameReceived p p := ⟨rfl, rfl, rfl, rfl⟩

theorem SameReceived.good {p q : Trib} (h : SameReceived p q) : q.good = p.good := by rw [Trib.good, h.rx]; rfl

theorem SameReceived.sigAvailable {p q : Trib} (h : SameReceived p q) : q.sigAvailable = p.sigAvailable := by
  rw [Trib.sigAvailable, h.cfg, h.good, h.rx]
  rfl

theorem SameSources.trans (h : SameSources s t) (g : SameSources t u) : SameSources s u where
  activeMap := g.activeMap.trans h.activeMap
  epoch := g.epoch.trans h.epoch
  stu := g.stu.trans h.stu
  record id := by rw [g.record id, h.record id]
  trib n := ⟨(g.trib n).cfg.trans (h.trib n).cfg, (g.trib n).rx.trans (h.trib n).rx, (g.trib n).sig.trans (h.trib n).sig,
    (g.trib n).store.trans (h.trib n).store⟩
  sig := g.sig.trans h.sig
  keyer k := ⟨(g.keyer k).1.trans (h.keyer k).1, (g.keyer k).2.trans (h.keyer k).2⟩

section
variable (h : SameSources s t)
include h

theorem SameSources.receivedByte (res : Pair ReadResult) (r : Record) (e : Side) (k : Nat) :
    t.receivedByte res r e k = s.receivedByte res r e k := by
  have good (n : Idx8) : (t.trib n).good = (s.trib n).good := (h.trib n).good
  have store (n : Idx8) : (t.trib n).store = (s.trib n).store := (h.trib n).store
  unfold State.receivedByte
  simp only [good, store]

theorem SameSources.keyerByte (id : RecId) (dir : Side) : t.keyerByte id dir = s.keyerByte id dir := by
  have bound : t.boundKeyer id = s.boundKeyer id := by
    unfold State.boundKeyer
    simp only [(h.keyer _).1]
  unfold State.keyerByte
  simp only [bound, (h.keyer _).1, (h.keyer _).2]

theorem SameSources.deliveredByte (res : Pair ReadResult) (id : RecId) (dir : Side) (k : Nat) :
    t.deliveredByte res id dir k = s.deliveredByte res id dir k := by
  unfold State.deliveredByte
  simp only [h.keyerByte, h.receivedByte]
  rw [h.record id]
  rfl

theorem SameSources.receivedNibble (p : Port) (n : Nat) : t.receivedNibble p n = s.receivedNibble p n := by
  unfold State.receivedNibble
  simp only [(h.trib _).sigAvailable, (h.trib _).sig, h.sig]

theorem SameSources.deliveredNibble (id : RecId) (dir : Side) (k : Nat) :
    t.deliveredNibble (t.record id) dir k = s.deliveredNibble (s.record id) dir k := by
  unfold State.deliveredNibble
  simp only [h.receivedNibble]
  rw [h.record id]

theorem SameSources.byteFor (res : Pair ReadResult) (p : Port) (n : Nat) : t.byteFor res p n = s.byteFor res p n := by
  unfold State.byteFor
  simp only [h.activeMap, h.deliveredByte]

theorem SameSources.nibbleFor (p : Port) (n : Nat) : t.nibbleFor p n = s.nibbleFor p n := by
  have cls (id : RecId) : (t.record id).cls = (s.record id).cls := by rw [h.record id]
  unfold State.nibbleFor
  simp only [h.activeMap, h.deliveredNibble, cls]

theorem SameSources.tagChannel (cell : Nat) : t.tagChannel cell = s.tagChannel cell := by
  have remote (n : Idx8) : (t.trib n).rx = (s.trib n).rx := (h.trib n).rx
  unfold State.tagChannel State.endStatus State.remoteAt
  simp only [h.activeMap, remote]
  split
  · rfl
  · rw [h.record _]
    rfl

theorem SameSources.overhead (n : Nat) (nib : Nat → Nibble) (rdi : Bool) : t.overhead n nib rdi = s.overhead n nib rdi := by
  unfold State.overhead State.epochLow State.statusOctet
  simp only [h.tagChannel, h.epoch, h.stu]

end

theorem byteFor_filled (s : State) (res : Pair ReadResult) (p : Port) (n : Nat) : ByteFilled s res p n (s.byteFor res p n) := by
  unfold State.byteFor
  exact ⟨fun h => by rw [h]; rfl, fun e h => by rw [h]; rfl⟩

theorem nibbleFor_filled (s : State) (p : Port) (n : Nat) : NibbleFilled s p n (s.nibbleFor p n) := by
  unfold State.nibbleFor
  refine ⟨fun h => by rw [h], fun e h => ⟨fun hc => ?_, fun hc => ?_⟩⟩
  · rw [h]
    exact if_pos hc
  · rw [h]
    exact if_neg hc

end Sys2Proof.Machine
end

section
/-! SUPPORT. The works of one station frame, one after another (log 6): what each leaves alone. -/

namespace Sys2Proof.Machine

variable {s t u : State} {n : Idx8} {k : Trunk} {id : RecId}

/-! ### Slips counted in the records (R81) -/

theorem bump_toNat (c : Counter) : (bump c).toNat = min 65535 (c.toNat + 1) := by
  unfold bump
  split
  · rename_i h
    subst h
    rfl
  · rename_i h
    have ne : c.toNat ≠ 65535 := fun e => h (BitVec.eq_of_toNat_eq e)
    have lt := c.isLt
    have one : (1 : Counter).toNat = 1 := rfl
    rw [BitVec.toNat_add, one]
    omega

/-- Slips counted in records and notices given to detectors touch nothing else. -/
structure SlipsOnly (s t : State) : Prop where
  eq : t = { s with ct := { s.ct with records := t.ct.records }, dets := t.dets }
  record : ∀ id, t.record id = { s.record id with slips := (t.record id).slips }

theorem SlipsOnly.refl : SlipsOnly s s := ⟨rfl, fun _ => rfl⟩

theorem SlipsOnly.trans (h : SlipsOnly s t) (g : SlipsOnly t u) : SlipsOnly s u where
  eq := by
    have e1 := h.eq
    have e2 := g.eq
    rw [e1] at e2
    exact e2
  record id := by rw [g.record id, h.record id]

theorem countSlips_only (s : State) (p : Port) : SlipsOnly s (s.countSlips p) := ⟨rfl, fun id => by rw [record_countSlips]⟩

theorem slipNotice_only (s : State) (p : Port) : SlipsOnly s (s.slipNotice p) :=
  (countSlips_only s p).trans ⟨rfl, fun _ => rfl⟩

/-- The record counts a slip of the port. -/
def State.countsOn (s : State) (id : RecId) (n : Idx8) : Bool := decide
  (((s.record id).state = .active ∨ (s.record id).state = .suspended) ∧ id ∈ s.ownersOn (.trib n))

theorem SlipsOnly.countsOn (h : SlipsOnly s t) (id : RecId) (n : Idx8) : t.countsOn id n = s.countsOn id n := by
  have owners : t.ownersOn (.trib n) = s.ownersOn (.trib n) := by rw [h.eq]; rfl
  unfold State.countsOn
  rw [h.record id, owners]

/-- A work that counts one port's slip in each of its records. -/
def CountsSlip (f : State → Idx8 → State) : Prop := ∀ s n, SlipsOnly s (f s n) ∧
  ∀ id, ((f s n).record id).slips = if s.countsOn id n then bump (s.record id).slips else (s.record id).slips

theorem countSlips_counts : CountsSlip fun s n => s.countSlips (.trib n) := fun s n =>
  ⟨countSlips_only s _, fun id => by simp [record_countSlips, State.countsOn]⟩

theorem slipNotice_counts : CountsSlip fun s n => s.slipNotice (.trib n) := fun s n =>
  ⟨slipNotice_only s _, (countSlips_counts s n).2⟩

/-- One port after another: a record counts one slip for each of those on which it owns an entry. -/
theorem foldl_countsSlip {f : State → Idx8 → State} (hf : CountsSlip f) (l : List Idx8) (s : State) :
    SlipsOnly s (l.foldl f s) ∧
      ∀ id, ((l.foldl f s).record id).slips.toNat = min 65535 ((s.record id).slips.toNat + l.countP (s.countsOn id)) := by
  induction l generalizing s with
  | nil =>
    refine ⟨.refl, fun id => ?_⟩
    have lt := (s.record id).slips.isLt
    simp only [List.foldl_nil, List.countP_nil]
    omega
  | cons m ms ih =>
    obtain ⟨first, slips⟩ := hf s m
    obtain ⟨rest, total⟩ := ih (f s m)
    refine ⟨first.trans rest, fun id => ?_⟩
    have same : (f s m).countsOn id = s.countsOn id := funext (first.countsOn id)
    rw [List.foldl_cons, total, slips, same, List.countP_cons]
    split
    · rw [bump_toNat]
      omega
    · omega

theorem repeating_count (s : State) (id : RecId) : s.repeating.countP (s.countsOn id) = repeatsCounted s id := by
  unfold State.repeating repeatsCounted
  rw [List.countP_filter]
  refine List.countP_congr fun n _ => ?_
  simp only [State.countsOn, Trib.repeats, Bool.and_eq_true, decide_eq_true_eq, List.isEmpty_iff]
  exact ⟨fun ⟨⟨a, b⟩, c, d⟩ => ⟨c, d, a, b⟩, fun ⟨c, d, a, b⟩ => ⟨⟨a, b⟩, c, d⟩⟩

/-! ### Detectors (R139 to R146) -/

/-- The work on detectors touches them and the queue alone, and takes nothing off the queue. -/
structure DetsOnly (s t : State) : Prop where
  eq : t = { s with dets := t.dets, au := { s.au with queue := t.au.queue } }
  queue : s.au.queue <+: t.au.queue

theorem DetsOnly.refl : DetsOnly s s := ⟨rfl, List.prefix_refl _⟩

theorem DetsOnly.trans (h : DetsOnly s t) (g : DetsOnly t u) : DetsOnly s u where
  eq := by
    have e1 := h.eq
    have e2 := g.eq
    rw [e1] at e2
    exact e2
  queue := h.queue.trans g.queue

theorem updateDets_only (s : State) (f : Idx8 → Detector → Detector) : DetsOnly s (s.updateDets f) :=
  ⟨rfl, prefix_updateDets s f⟩

theorem setDets_only (s : State) (d : Vector Detector 8) : DetsOnly s { s with dets := d } := ⟨rfl, List.prefix_refl _⟩

theorem foldl_restartDets_only {α : Type} (p : α → Port) (l : List α) (s : State) :
    DetsOnly s (l.foldl (fun s a => s.restartDets (p a)) s) := by
  induction l generalizing s with
  | nil => exact .refl
  | cons a as ih => exact (setDets_only s _).trans (ih (s.restartDets (p a)))

theorem unitWork_only (s before : State) (res : Pair ReadResult) (repeats : List Idx8) (inp : FrameIn) :
    DetsOnly s (s.unitWork before res repeats inp) := by
  unfold State.unitWork
  split
  · exact ((setDets_only s _).trans (updateDets_only _ _)).trans ((foldl_restartDets_only id _ _).trans (updateDets_only _ _))
  · exact ((foldl_restartDets_only Port.trib repeats s).trans (updateDets_only _ _)).trans (updateDets_only _ _)

/-! ### Ahead of the traffic (R36 to R44, R68) -/

theorem trib_flush (s : State) (n : Idx8) :
    s.flush.trib n = if (s.trib n).txDue then (s.trib n).transmit else s.trib n := mapVec_get ..

/-- The start of a frame leaves the ports, the lines and the command port alone, and of the path selector all but the received
signalling. -/
structure FrameBegun (s t : State) : Prop where
  tribs : t.tribs = s.tribs
  trunks : t.trunks = s.trunks
  clu : t.clu = s.clu
  cp : t.cp = s.cp
  path : t.ps = { s.ps with sig := t.ps.sig }

theorem FrameBegun.trans (h : FrameBegun s t) (g : FrameBegun t u) : FrameBegun s u where
  tribs := g.tribs.trans h.tribs
  trunks := g.trunks.trans h.trunks
  clu := g.clu.trans h.clu
  cp := g.cp.trans h.cp
  path := by rw [g.path, h.path]

theorem multiframeStart_begun (s : State) : FrameBegun s s.multiframeStart := by
  have eq := (stuStart_started s).eq
  have begun : FrameBegun s.stuStart s.multiframeStart := ⟨rfl, rfl, rfl, rfl, rfl⟩
  exact FrameBegun.trans ⟨by rw [eq], by rw [eq], by rw [eq], by rw [eq], by rw [eq]⟩ begun

theorem newFrame_begun (s : State) : FrameBegun s s.newFrame := by
  have self (v : State) : FrameBegun v v := ⟨rfl, rfl, rfl, rfl, rfl⟩
  have flip (v : State) : FrameBegun v v.flip := ⟨rfl, rfl, rfl, rfl, rfl⟩
  have stu (v : State) (x : Stu) : FrameBegun v { v with stu := x } := ⟨rfl, rfl, rfl, rfl, rfl⟩
  have ite {c : Prop} [Decidable c] {v a b : State} (h : FrameBegun v a) (g : FrameBegun v b) :
      FrameBegun v (if c then a else b) := by
    split
    · exact h
    · exact g
  unfold State.newFrame
  refine ite (.trans ?_ (stu _ _)) (stu _ _)
  exact .trans (ite (self s) (multiframeStart_begun s)) (ite (flip _) (self _))

/-- The count of station frames at the start of one (R68). -/
theorem newFrame_count (s : State) (h : s.stu.begun = true → s.stu.count = 0 ∧ s.stu.started = true) :
    (s.atBoundary = true → s.newFrame.stu.count = 0) ∧ (s.atBoundary = false → s.newFrame.stu.count = s.stu.count + 1) ∧
      s.newFrame.stu.started = (s.stu.started || s.atBoundary) := by
  have flip (v : State) : (if v.flipDue then v.flip else v).stu.count = v.stu.count ∧
      (if v.flipDue then v.flip else v).stu.started = v.stu.started := by
    split
    · exact ⟨rfl, rfl⟩
    · exact ⟨rfl, rfl⟩
  cases ha : s.atBoundary with
  | false =>
    have e : s.newFrame = { s with stu := { s.stu with count := s.stu.count + 1 } } := if_neg (by simp [ha])
    rw [e]
    exact ⟨fun h => (nomatch h), fun _ => rfl, (Bool.or_false _).symm⟩
  | true =>
    have e : s.newFrame.stu = ((fun v : State => if v.flipDue then v.flip else v)
        (if s.stu.begun then s else s.multiframeStart)).stu.unmark := by
      unfold State.newFrame
      rw [if_pos ha]
    have start : (if s.stu.begun then s else s.multiframeStart).stu.count = 0 ∧
        (if s.stu.begun then s else s.multiframeStart).stu.started = true := by
      split
      · exact h ‹_›
      · exact ⟨rfl, rfl⟩
    obtain ⟨count, started⟩ := flip (if s.stu.begun then s else s.multiframeStart)
    rw [e, Bool.or_true]
    exact ⟨fun _ => count.trans start.1, fun h => (nomatch h), started.trans start.2⟩

/-- The state in which a frame begins: the work left over done, and repeat slips taken if they go ahead (log 4, log 6). -/
def State.settledFor (s : State) (inp : FrameIn) : State :=
  if inp.slipsFirst then s.flush.repeating.foldl (fun s t => s.slipNotice (.trib t)) s.flush else s.flush

theorem opening_eq (s : State) (inp : FrameIn) : s.opening inp = (s.settledFor inp).newFrame := rfl

theorem settledFor_only (s : State) (inp : FrameIn) : SlipsOnly s.flush (s.settledFor inp) := by
  unfold State.settledFor
  split
  · exact (foldl_countsSlip slipNotice_counts _ _).1
  · exact .refl

/-- What goes ahead of the traffic leaves of the ports, the lines and the path selector. -/
structure Opened (s u : State) : Prop where
  trib : ∀ n, u.trib n = if (s.trib n).txDue then (s.trib n).transmit else s.trib n
  trunks : u.trunks = s.trunks
  clu : u.clu = s.clu
  cp : u.cp = s.cp
  path : u.ps = { s.ps with sig := u.ps.sig }

theorem opening_opened (s : State) (inp : FrameIn) : Opened s (s.opening inp) := by
  have begun := newFrame_begun (s.settledFor inp)
  have slips := (settledFor_only s inp).eq
  rw [← opening_eq] at begun
  generalize s.settledFor inp = v at *
  refine ⟨fun n => ?_, begun.trunks.trans (by rw [slips]; rfl), begun.clu.trans (by rw [slips]; rfl),
    begun.cp.trans (by rw [slips]; rfl), begun.path.trans (by rw [slips]; rfl)⟩
  rw [trib_of_tribs begun.tribs, ← trib_flush, State.trib, slips]
  rfl

theorem transmit_keeps (p : Trib) : p.transmit.rx = p.rx ∧ p.transmit.cfg = p.cfg ∧ p.transmit.store = p.store ∧
    p.transmit.sig = p.sig := by
  unfold Trib.transmit
  split
  · unfold Trib.readTx
    split
    · split
      · exact ⟨rfl, rfl, rfl, rfl⟩
      · exact ⟨rfl, rfl, rfl, rfl⟩
    · exact ⟨rfl, rfl, rfl, rfl⟩
  · exact ⟨rfl, rfl, rfl, rfl⟩

theorem Opened.rx {s u : State} (h : Opened s u) (n : Idx8) : (u.trib n).rx = (s.trib n).rx ∧ (u.trib n).cfg = (s.trib n).cfg := by
  rw [h.trib]
  split
  · exact ⟨(transmit_keeps _).1, (transmit_keeps _).2.1⟩
  · exact ⟨rfl, rfl⟩

/-- The count at the start of a frame, of a state that the count law holds in (R68). -/
theorem opening_count (s : State) (inp : FrameIn) (h : CountLaw s) :
    (s.atBoundary = true → (s.opening inp).stu.count = 0) ∧
      (s.atBoundary = false → (s.opening inp).stu.count = s.stu.count + 1) ∧
      (s.opening inp).stu.started = (s.stu.started || s.atBoundary) := by
  have stu : (s.settledFor inp).stu = s.stu := by
    rw [(settledFor_only s inp).eq]
    rfl
  have boundary : (s.settledFor inp).atBoundary = s.atBoundary := by
    unfold State.atBoundary
    rw [stu]
  have count := newFrame_count (s.settledFor inp) (by rw [stu]; exact h.2.2)
  rwa [boundary, stu] at count

/-! ### The read (R104) -/

/-- The read of a station frame leaves of the part. -/
structure PsReadWork (s t : State) : Prop where
  tribs : t.tribs = s.tribs
  stu : t.stu = s.stu
  keyers : t.keyers = s.keyers
  clu : t.clu = s.clu
  cp : t.cp = s.cp
  table : t.ct = { s.ct with records := t.ct.records }
  items : ∀ id, (t.record id).mapItems = (s.record id).mapItems
  trunks : t.trunks = { s.trunks with port := t.trunks.port }
  port : ∀ k, t.port k = { s.port k with jumps := (t.port k).jumps, windowLosses := (t.port k).windowLosses }
  readPos : t.ps.readPos = (s.ps.readPos + 1) % 248

theorem psRead_work (s : State) (res : Pair ReadResult) : PsReadWork s (s.psRead res) := by
  have path := applyReads_path s res
  refine ⟨path.tribs, path.stu, path.keyers, path.clu, path.cp, ?_, fun id => ?_, path.trunks, path.port, rfl⟩
  · exact (congrArg (fun c : CircuitTable => { c with records := (s.psRead res).ct.records }) path.table :)
  · have record : (s.psRead res).record id = ((s.applyReads res).record id).readWork s.ps.readPos
        ⟨(s.applyReads res).usable .a, (s.applyReads res).usable .b⟩ res :=
      record_updateRecords (s.applyReads res) (fun _ r => r.readWork s.ps.readPos _ res) id
    rw [record, readWork_mapItems, path.record id]
    rfl

end Sys2Proof.Machine
end

section
/-! SUPPORT. The work of a station frame up to the detectors (R80 to R90, R104, R120, R123): the bytes, the nibbles and the slips
that it leaves. -/

namespace Sys2Proof.Machine

variable {s t u : State} {n : Idx8} {k : Trunk} {id : RecId}

/-! ### One port's stores (R79, R80, R82) -/

theorem readStore_keeps (p : Trib) : p.readStore = { p with store := p.readStore.store, counters := { p.counters with
    repeatSlips := p.readStore.counters.repeatSlips } } := by
  unfold Trib.readStore
  split
  · rfl
  · split
    · rfl
    · rfl

theorem readStore_oldest {p : Trib} (ha : p.rx.align = .aligned) {f : List Byte} {rest : List (List Byte)}
    (hu : p.store.unread = f :: rest) : p.readStore = { p with store := ⟨rest, some f⟩ } := by
  unfold Trib.readStore
  rw [if_neg (not_not.2 ha), hu]

theorem readStore_repeat {p : Trib} (ha : p.rx.align = .aligned) (hu : p.store.unread = []) : p.readStore = { p with
    counters := { p.counters with repeatSlips := bump p.counters.repeatSlips } } := by
  unfold Trib.readStore
  rw [if_neg (not_not.2 ha), hu]

theorem usesTxStore_readStore (p : Trib) : p.readStore.usesTxStore = p.usesTxStore := by
  rw [readStore_keeps]
  rfl

/-- A write of the transmit store touches it and its slips alone. -/
theorem writeTx_keeps (p : Trib) : p.writeTx = { p with txStore := p.writeTx.txStore, counters := { p.counters with
    txSlips := p.writeTx.counters.txSlips } } := by
  unfold Trib.writeTx
  split
  · split
    · rfl
    · rfl
  · rfl

theorem writeTx_station {p : Trib} (h : p.usesTxStore = false) : p.writeTx = p := if_neg (by simp [h])

theorem writeTx_joins {p : Trib} (h : p.usesTxStore = true) (hl : p.txStore.unread.length < 2) : p.writeTx = { p with
    txStore := { p.txStore with unread := p.txStore.unread ++ [p.delivered] } } := by
  unfold Trib.writeTx
  rw [if_pos h, if_neg (by simp only [Config.elasticFrames]; omega)]

theorem writeTx_drops {p : Trib} (h : p.usesTxStore = true) (hl : 2 ≤ p.txStore.unread.length) : p.writeTx = { p with
    txStore := { p.txStore with unread := p.txStore.unread.drop 1 ++ [p.delivered] }
    counters := { p.counters with txSlips := bump p.counters.txSlips } } := by
  unfold Trib.writeTx
  rw [if_pos h]
  exact if_pos hl

/-- The port with the bytes and nibbles that the engine delivers toward it, ahead of the write of its transmit store. -/
def State.deliverTo (s : State) (res : Pair ReadResult) (n : Idx8) (p : Trib) : Trib := { p with
  delivered := (List.range 32).map (s.byteFor res (.trib n))
  txSig := mapVec (fun i _ => s.nibbleFor (.trib n) (sigSlot i)) p.txSig }

theorem fillTrib_eq (s : State) (res : Pair ReadResult) (n : Idx8) (p : Trib) :
    s.fillTrib res n p = (s.deliverTo res n p).writeTx := rfl

/-- What the fill of a port leaves alone of it. -/
theorem fillTrib_keeps (s : State) (res : Pair ReadResult) (n : Idx8) (p : Trib) : s.fillTrib res n p =
    { s.deliverTo res n p with txStore := (s.fillTrib res n p).txStore, counters := { p.counters with
      txSlips := (s.fillTrib res n p).counters.txSlips } } := writeTx_keeps _

theorem fillTrib_received (s : State) (res : Pair ReadResult) (n : Idx8) (p : Trib) : SameReceived p (s.fillTrib res n p) := by
  rw [fillTrib_keeps]
  exact ⟨rfl, rfl, rfl, rfl⟩

/-- One port read and filled (R79 to R82). -/
theorem fillTrib_storesWorked (s : State) (res : Pair ReadResult) (n : Idx8) (p : Trib) :
    StoresWorked p (s.fillTrib res n p.readStore) := by
  have keeps := fillTrib_keeps s res n p.readStore
  have read := readStore_keeps p
  have uses : (s.deliverTo res n p.readStore).usesTxStore = p.usesTxStore := usesTxStore_readStore p
  have store : (s.fillTrib res n p.readStore).store = p.readStore.store := by rw [keeps]; rfl
  have repeats : (s.fillTrib res n p.readStore).counters.repeatSlips = p.readStore.counters.repeatSlips := by rw [keeps]
  have txStore : (s.deliverTo res n p.readStore).txStore = p.txStore := (congrArg Trib.txStore read :)
  have txSlips : (s.deliverTo res n p.readStore).counters.txSlips = p.counters.txSlips :=
    (congrArg (fun p : Trib => p.counters.txSlips) read :)
  have delivered : (s.fillTrib res n p.readStore).delivered = (s.deliverTo res n p.readStore).delivered := by rw [keeps]
  refine ⟨fun ha => ?_, fun ha => ⟨fun f rest hu => ?_, fun hu => ?_⟩, fun he hl ha => ⟨fun hs => ?_, fun hs => ?_⟩, fun h => ?_,
    ?_, ?_, ?_, ?_, ?_, ?_⟩
  · rw [store, repeats, Trib.readStore, if_pos ha]
    exact ⟨rfl, rfl⟩
  · rw [store, repeats, readStore_oldest ha hu]
    exact ⟨rfl, rfl⟩
  · rw [store, repeats, readStore_repeat ha hu]
    exact ⟨rfl, rfl⟩
  · rw [delivered, fillTrib_eq, writeTx_joins (uses.trans (usesTxStore_of_loop he hl ha)) (by rwa [txStore]), ← txStore]
    exact ⟨rfl, txSlips⟩
  · rw [delivered, fillTrib_eq, writeTx_drops (uses.trans (usesTxStore_of_loop he hl ha)) (by rwa [txStore]), ← txStore, ← txSlips]
    exact ⟨rfl, rfl⟩
  · rw [fillTrib_eq, writeTx_station (uses.trans (usesTxStore_of_station h))]
    exact ⟨txStore, txSlips⟩
  all_goals rw [keeps, State.deliverTo, read]

/-! ### The engine's work, one part after another (R85, R120, R123) -/

/-- The state with its stores read and its keyers' bytes supplied. -/
def State.supplied (s : State) : State := (s.psRead s.reads).keyerFrames.readStores

/-- The bytes and nibbles delivered toward the tributary ports, and the keyers' bytes marked. -/
def State.portsFilled (s : State) (res : Pair ReadResult) : State := { s with
  tribs := mapVec (fun n p => s.fillTrib res (unitAt n) p) s.tribs
  keyers := mapVec (fun _ k => s.markDelivered k) s.keyers }

/-- The engine's work with the trunk frames sent. -/
def State.engineDone (s : State) : State := ((s.supplied.writeSources s.reads).portsFilled s.reads).sendTrunks s.reads

theorem filled_eq (s : State) (inp : FrameIn) : s.filled inp =
    (s.repeatsNow inp).foldl (fun s t => s.countSlips (.trib t)) s.engineDone := rfl

/-- The nibbles and the cells' bytes of the trunk frame that the engine sends (R86, R89). -/
def State.trunkNibble (s : State) (n : Nat) : Nibble := (s.nibbleFor .trunk n).getD Config.trunkVacantNibble

def State.trunkBytes (s : State) (res : Pair ReadResult) : List (Option Byte) := (List.range 248).map (s.byteFor res .trunk)

theorem supplied_trib (s : State) (n : Idx8) : s.supplied.trib n = (s.trib n).readStore := by
  have tribs : (s.psRead s.reads).keyerFrames.tribs = s.tribs := (psRead_work s s.reads).tribs
  have read : s.supplied.trib n = ((s.psRead s.reads).keyerFrames.trib n).readStore := mapVec_get ..
  rw [read, trib_of_tribs tribs]

theorem good_readStore (p : Trib) : p.readStore.good = p.good := by
  rw [readStore_keeps]
  rfl

/-- The source states are judged of the ports as the frame finds them, and of the copies as its read leaves them. -/
theorem supplied_sourceFailed (s : State) (r : Record) (dir : Side) :
    s.supplied.sourceFailed s.reads r dir = s.sourceFailed s.reads r dir := by
  unfold State.sourceFailed
  simp only [supplied_trib, good_readStore]

/-- A record with its source states written (R123). -/
def Record.sourced (r : Record) (failed : Both Bool) : Record := if r.inMap then r.refresh { r with failed := failed } else r

theorem sourced_keeps (r : Record) (failed : Both Bool) : r.sourced failed = { r with
    failed := if r.inMap then failed else r.failed, health := (r.sourced failed).health } := by
  unfold Record.sourced Record.refresh Record.judged
  split
  · split
    · rfl
    · rfl
  · rfl

theorem writeSources_record (s : State) (res : Pair ReadResult) (id : RecId) : (s.writeSources res).record id =
    (s.record id).sourced ⟨s.sourceFailed res (s.record id) .x, s.sourceFailed res (s.record id) .y⟩ :=
  record_updateRecords ..

theorem writeSources_posts (h : (s.record id).fields.attention = true) (res : Pair ReadResult)
    (hf : ((s.writeSources res).record id).failed ≠ (s.record id).failed) : id ∈ (s.writeSources res).au.queue := by
  refine (mem_updateRecords_queue s _ id).2 (.inr ⟨h, ?_⟩)
  rw [writeSources_record, Record.sourced] at hf
  simp only [Record.sameShown, Ne.symm hf, false_and, decide_false, Bool.and_false, Bool.false_and]

theorem markDelivered_keeps (s : State) (k : Keyer) :
    (s.markDelivered k).binding = k.binding ∧ (s.markDelivered k).last.byte = k.last.byte := by
  unfold State.markDelivered
  split
  · exact ⟨rfl, rfl⟩
  · exact ⟨rfl, rfl⟩

theorem portsFilled_trib (s : State) (res : Pair ReadResult) (n : Idx8) :
    (s.portsFilled res).trib n = s.fillTrib res n (s.trib n) := by
  have read : (s.portsFilled res).trib n = s.fillTrib res (unitAt n.val) (s.trib n) := mapVec_get ..
  rw [read, unitAt_val]

theorem portsFilled_sources (s : State) (res : Pair ReadResult) : SameSources s (s.portsFilled res) where
  activeMap := rfl
  epoch := rfl
  stu := rfl
  record _ := rfl
  trib n := by
    rw [portsFilled_trib]
    exact fillTrib_received ..
  sig := rfl
  keyer k := by
    have read : (s.portsFilled res).keyer k = s.markDelivered (s.keyer k) := mapVec_get ..
    rw [read]
    exact markDelivered_keeps ..

theorem sendTrunks_sources (s : State) (res : Pair ReadResult) : SameSources s (s.sendTrunks res) :=
  ⟨rfl, rfl, rfl, fun _ => rfl, fun _ => .refl _, rfl, fun _ => ⟨rfl, rfl⟩⟩

theorem SlipsOnly.sources (h : SlipsOnly s t) : SameSources s t where
  activeMap := by rw [h.eq]
  epoch := by rw [h.eq]
  stu := by rw [h.eq]
  record := h.record
  trib n := by
    rw [State.trib, h.eq]
    exact .refl _
  sig := by rw [h.eq]
  keyer k := by
    rw [State.keyer, h.eq]
    exact ⟨rfl, rfl⟩

theorem filled_slips (s : State) (inp : FrameIn) : SlipsOnly s.engineDone (s.filled inp) :=
  (foldl_countsSlip countSlips_counts _ _).1

/-- The chains read the same at the end of the engine's work as while it delivers. -/
theorem filled_sources (s : State) (inp : FrameIn) : SameSources (s.supplied.writeSources s.reads) (s.filled inp) :=
  ((portsFilled_sources ..).trans (sendTrunks_sources ..)).trans (filled_slips s inp).sources

section
variable (h : SameSources s t)
include h

theorem SameSources.fillTrib (res : Pair ReadResult) (n : Idx8) (p : Trib) : t.fillTrib res n p = s.fillTrib res n p := by
  have byte : t.byteFor res (.trib n) = s.byteFor res (.trib n) := funext (h.byteFor res _)
  rw [fillTrib_eq, fillTrib_eq, State.deliverTo, State.deliverTo, byte]
  simp only [h.nibbleFor]

theorem SameSources.trunkNibble : t.trunkNibble = s.trunkNibble := funext fun n => by
  rw [State.trunkNibble, h.nibbleFor, State.trunkNibble]

theorem SameSources.trunkBytes (res : Pair ReadResult) : t.trunkBytes res = s.trunkBytes res := by
  rw [State.trunkBytes, funext (h.byteFor res .trunk), State.trunkBytes]

end

/-! ### What the work up to the detectors leaves (log 6) -/

/-- What the work up to the detectors makes of the state `u` in which a frame's traffic begins. -/
structure FrameFilled (u w : State) (inp : FrameIn) : Prop where
  trib : ∀ n, w.trib n = w.fillTrib u.reads n (u.trib n).readStore
  stu : w.stu = u.stu
  clu : w.clu = u.clu
  cp : w.cp = u.cp
  path : w.ps = (u.psRead u.reads).ps
  table : w.ct = { u.ct with records := w.ct.records }
  vacantCode : w.trunks.vacantCode = u.trunks.vacantCode
  port : ∀ k, w.port k = { u.port k with
    jumps := (w.port k).jumps, windowLosses := (w.port k).windowLosses
    lineOut := w.trunkFrameSent k w.trunkNibble (w.trunkBytes u.reads) }
  record : ∀ id, w.record id = { (u.psRead u.reads).record id with
    failed := (w.record id).failed, health := (w.record id).health, slips := (w.record id).slips }
  failed : ∀ id r, r = (u.psRead u.reads).record id → (w.record id).failed =
    if r.inMap then ⟨u.sourceFailed u.reads r .x, u.sourceFailed u.reads r .y⟩ else r.failed
  posts : ∀ id r, r = (u.psRead u.reads).record id → r.fields.attention = true → (w.record id).failed ≠ r.failed →
    id ∈ w.au.queue
  slips : ∀ id, (inp.slipsFirst = false → (w.record id).slips.toNat =
      min 65535 (((u.psRead u.reads).record id).slips.toNat + repeatsCounted u id)) ∧
    (inp.slipsFirst = true → (w.record id).slips = ((u.psRead u.reads).record id).slips)

theorem trunkFrameSent_congr (hp : (t.port k).enable = (s.port k).enable) (ha : (t.port k).align = (s.port k).align)
    (h : SameSources s t) (hc : t.trunks.vacantCode = s.trunks.vacantCode) (nib : Nat → Nibble) (cells : List (Option Byte)) :
    t.trunkFrameSent k nib cells = s.trunkFrameSent k nib cells := by
  unfold State.trunkFrameSent TrunkPort.rdiSent
  rw [hp, ha, h.overhead, h.stu, hc]

theorem sendTrunks_port (s : State) (res : Pair ReadResult) (k : Trunk) : (s.sendTrunks res).port k = { s.port k with
    lineOut := s.trunkFrameSent k s.trunkNibble (s.trunkBytes res) } := by
  cases k
  · rfl
  · rfl

theorem engineDone_record (s : State) (id : RecId) :
    s.engineDone.record id = (s.supplied.writeSources s.reads).record id := rfl

/-- The counts of repeat slips within the frame's work (R81, log 6). -/
theorem repeatsNow_count (s : State) (inp : FrameIn) (id : RecId) (items : (t.record id).mapItems = (s.record id).mapItems)
    (table : t.ct.activeMap = s.ct.activeMap) : (s.repeatsNow inp).countP (t.countsOn id) =
      if inp.slipsFirst then 0 else repeatsCounted s id := by
  have same : t.countsOn id = s.countsOn id := funext fun n => by
    have state : (t.record id).state = (s.record id).state := (congrArg MapItems.state items :)
    have owners : t.ownersOn (.trib n) = s.ownersOn (.trib n) := by
      unfold State.ownersOn
      rw [table]
    rw [State.countsOn, state, owners, State.countsOn]
  unfold State.repeatsNow
  split
  · rfl
  · rw [same, repeating_count]

theorem engineDone_trib (s : State) (n : Idx8) :
    s.engineDone.trib n = (s.supplied.writeSources s.reads).fillTrib s.reads n (s.trib n).readStore := by
  have sent : s.engineDone.tribs = ((s.supplied.writeSources s.reads).portsFilled s.reads).tribs := rfl
  have sourced : (s.supplied.writeSources s.reads).tribs = s.supplied.tribs := rfl
  rw [trib_of_tribs sent, portsFilled_trib, trib_of_tribs sourced, supplied_trib]

theorem engineDone_sourced (s : State) (id : RecId) (r : Record) (hr : r = (s.psRead s.reads).record id) :
    s.engineDone.record id = r.sourced ⟨s.sourceFailed s.reads r .x, s.sourceFailed s.reads r .y⟩ := by
  have supplied : s.supplied.record id = (s.psRead s.reads).record id := rfl
  rw [engineDone_record, writeSources_record, supplied, ← hr, supplied_sourceFailed, supplied_sourceFailed]

theorem engineDone_port (s : State) (k : Trunk) : s.engineDone.port k = { (s.psRead s.reads).port k with
    lineOut := s.engineDone.trunkFrameSent k s.engineDone.trunkNibble (s.engineDone.trunkBytes s.reads) } := by
  have sent := sendTrunks_sources ((s.supplied.writeSources s.reads).portsFilled s.reads) s.reads
  have step := sendTrunks_port ((s.supplied.writeSources s.reads).portsFilled s.reads) s.reads k
  have before : ((s.supplied.writeSources s.reads).portsFilled s.reads).port k = (s.psRead s.reads).port k := rfl
  rw [← sent.trunkNibble, ← sent.trunkBytes, ← trunkFrameSent_congr (by rw [step]) (by rw [step]) sent rfl, before] at step
  exact step

/-- What the engine's work leaves of the parts that the counts of slips do not touch. -/
theorem engineDone_rest (s : State) : s.engineDone.clu = s.clu ∧ s.engineDone.cp = s.cp ∧
    s.engineDone.ps = (s.psRead s.reads).ps ∧ s.engineDone.ct = { s.ct with records := s.engineDone.ct.records } ∧
    s.engineDone.trunks.vacantCode = s.trunks.vacantCode ∧
    s.engineDone.au = (s.supplied.writeSources s.reads).au := by
  have read := psRead_work s s.reads
  refine ⟨read.clu, read.cp, rfl, ?_, (congrArg TrunkPorts.vacantCode read.trunks :), rfl⟩
  exact (congrArg (fun c : CircuitTable => { c with records := s.engineDone.ct.records }) read.table :)

theorem filled_filled (u : State) (inp : FrameIn) : FrameFilled u (u.filled inp) inp := by
  have read := psRead_work u u.reads
  have slips := filled_slips u inp
  have sources := filled_sources u inp
  have sameW : SameSources u.engineDone (u.filled inp) := slips.sources
  have count := (foldl_countsSlip countSlips_counts (u.repeatsNow inp) u.engineDone).2
  rw [← filled_eq] at count
  obtain ⟨clu, cp, ps, table, vacant, au⟩ := engineDone_rest u
  have portsDone := engineDone_port u
  have recordDone := engineDone_sourced u
  have tribsDone := engineDone_trib u
  have posts (id : RecId) := writeSources_posts (s := u.supplied) (id := id) (res := u.reads)
  have recordSourced := engineDone_record u
  have stu := sources.stu
  generalize u.filled inp = w at *
  have eq := slips.eq
  have portW (k : Trunk) : w.port k = u.engineDone.port k := by
    rw [State.port, eq]
    rfl
  have failedW (id : RecId) : (w.record id).failed = (u.engineDone.record id).failed := by rw [slips.record]
  refine ⟨fun n => ?_, stu.trans read.stu, by rw [eq, clu], by rw [eq, cp], by rw [eq, ps], ?_, by rw [eq, vacant],
    fun k => ?_, fun id => ?_, fun id r hr => ?_, fun id r hr ha hf => ?_, fun id => ?_⟩
  · rw [sources.fillTrib, ← tribsDone, State.trib, eq]
    rfl
  · have tableW : w.ct = { u.engineDone.ct with records := w.ct.records } := (congrArg State.ct eq :)
    rw [tableW, table]
  · have frame : w.trunkFrameSent k w.trunkNibble (w.trunkBytes u.reads) =
        u.engineDone.trunkFrameSent k u.engineDone.trunkNibble (u.engineDone.trunkBytes u.reads) := by
      rw [sameW.trunkNibble, sameW.trunkBytes, trunkFrameSent_congr (by rw [portW]) (by rw [portW]) sameW (by rw [eq])]
    rw [frame, portW, portsDone, read.port k]
  · rw [slips.record, recordDone id _ rfl, sourced_keeps]
  · rw [failedW, recordDone id r hr, sourced_keeps]
  · have sourced : (u.engineDone.record id).failed = ((u.supplied.writeSources u.reads).record id).failed := by
      rw [recordSourced]
    have supplied : u.supplied.record id = (u.psRead u.reads).record id := rfl
    rw [eq, au]
    refine posts id ?_ ?_
    · rwa [supplied, ← hr]
    · rwa [← sourced, ← failedW, supplied, ← hr]
  · have before : (u.engineDone.record id).slips = ((u.psRead u.reads).record id).slips := by
      rw [recordDone id _ rfl, sourced_keeps]
    have items : (u.engineDone.record id).mapItems = (u.record id).mapItems := by
      rw [recordDone id _ rfl, sourced_keeps]
      exact read.items id
    have total := count id
    rw [before, repeatsNow_count u inp id items (by rw [table])] at total
    refine ⟨fun h => ?_, fun h => ?_⟩
    · rw [total, if_neg (by simp [h])]
    · refine BitVec.eq_of_toNat_eq ?_
      rw [total, if_pos h]
      have lt := ((u.psRead u.reads).record id).slips.isLt
      omega

end Sys2Proof.Machine
end

section
/-! SUPPORT. The traffic of a station frame, and the frame as a whole (log 6). -/

namespace Sys2Proof.Machine

variable {s t u m w : State} {n : Idx8} {k : Trunk} {inp : FrameIn}

/-! ### The station-paced transmit frames (R62, R83) -/

/-- What a station frame does for a port's line: nothing in LOOP timing, else it sends a frame or leaves it due (log 4). -/
def Trib.paced (p : Trib) (defer : Bool) : Trib :=
  if p.usesTxStore then p else if defer then { p with txDue := true } else p.transmit

theorem paced_loop {p : Trib} (h : p.usesTxStore = true) (defer : Bool) : p.paced defer = p := if_pos h

theorem paced_due {p : Trib} (h : p.usesTxStore = false) : p.paced true = { p with txDue := true } := if_neg (by simp [h])

theorem paced_sent {p : Trib} (h : p.usesTxStore = false) : p.paced false = p.transmit := if_neg (by simp [h])

/-- The station-paced frame touches the line, its count and the mark of a frame due alone. -/
theorem paced_keeps (p : Trib) (defer : Bool) : p.paced defer = { p with
    lineOut := (p.paced defer).lineOut, lineRemote := (p.paced defer).lineRemote, txCount := (p.paced defer).txCount
    txDue := (p.paced defer).txDue } := by
  cases hu : p.usesTxStore with
  | true => rw [paced_loop hu]
  | false =>
    cases defer with
    | true => rw [paced_due hu]
    | false =>
      rw [paced_sent hu]
      cases he : p.cfg.enable with
      | true => rw [transmit_station he hu]
      | false => rw [transmit_disabled he]

theorem transmitAll_trib (s : State) (defer : BitVec 8) (n : Idx8) :
    (s.transmitAll defer).trib n = (s.trib n).paced (defer.getLsbD n.val) := mapVec_get ..

/-! ### The traffic as a whole -/

/-- The traffic adds the detectors' part and the station-paced frames to the work up to the detectors. -/
structure FrameSent (w m : State) (inp : FrameIn) : Prop where
  trib : ∀ n, m.trib n = (w.trib n).paced (inp.deferTx.getLsbD n.val)
  stu : m.stu = w.stu
  clu : m.clu = w.clu
  cp : m.cp = w.cp
  path : m.ps = w.ps
  ct : m.ct = w.ct
  trunks : m.trunks = w.trunks
  queue : w.au.queue <+: m.au.queue

theorem traffic_sent (u : State) (inp : FrameIn) : FrameSent (u.filled inp) (u.traffic inp) inp := by
  have units := unitWork_only (u.filled inp) u u.reads (u.repeatsNow inp) inp
  have traffic : u.traffic inp = ((u.filled inp).unitWork u u.reads (u.repeatsNow inp) inp).transmitAll inp.deferTx := rfl
  rw [traffic]
  generalize (u.filled inp).unitWork u u.reads (u.repeatsNow inp) inp = d at *
  have eq := units.eq
  have tribs : d.tribs = (u.filled inp).tribs := by rw [eq]
  refine ⟨fun n => ?_, ?_, ?_, ?_, ?_, ?_, ?_, units.queue⟩
  · rw [transmitAll_trib, trib_of_tribs tribs]
  all_goals rw [eq]; rfl

theorem runs_of_ne {a : Align} (ho : a ≠ .off) (hn : a ≠ .noSignal) : a.runs := by
  revert ho hn
  cases a <;> decide

/-- A judgement that loses a running clock, that finds one after NO_SIGNAL, or that touches what is received alone (R52). -/
theorem judgeClock_cases (p : Trib) (present : Bool) : (p.judgeClock present = p.loseClock ∧ p.rx.align ≠ .noSignal) ∨
    (p.judgeClock present = p.findClock ∧ p.rx.align = .noSignal) ∨ ∃ rx, p.judgeClock present = { p with rx := rx } := by
  by_cases ho : p.rx.align = .off
  · exact .inr (.inr ⟨p.rx, by rw [Trib.judgeClock, ho]⟩)
  by_cases hn : p.rx.align = .noSignal
  · cases present with
    | false => exact .inr (.inr ⟨p.rx, by rw [Trib.judgeClock, hn]; rfl⟩)
    | true => exact .inr (.inl ⟨by rw [Trib.judgeClock, hn]; rfl, hn⟩)
  rw [judgeClock_running (runs_of_ne ho hn)]
  split
  · exact .inr (.inr ⟨_, rfl⟩)
  split
  · exact .inl ⟨rfl, hn⟩
  · exact .inr (.inr ⟨_, rfl⟩)

/-- The judgement of its clock leaves of a port all but what it receives, its stores and their counters. -/
theorem judgeClock_keeps (p : Trib) (present : Bool) : p.judgeClock present = { p with
    rx := (p.judgeClock present).rx, store := (p.judgeClock present).store, txStore := (p.judgeClock present).txStore
    counters := (p.judgeClock present).counters } := by
  obtain ⟨e, -⟩ | ⟨e, -⟩ | ⟨rx, e⟩ := judgeClock_cases p present
  · rw [e, Trib.loseClock, Trib.countLoss]
    split
    · rfl
    · rfl
  · rw [e, Trib.findClock]
    dsimp only
    split
    · rfl
    · rfl
  · rw [e]

/-- A judgement that leaves the alignment as it is leaves the stores and their counters too. -/
theorem judgeClock_stores {p : Trib} {present : Bool} (h : (p.judgeClock present).rx.align = p.rx.align) :
    (p.judgeClock present).store = p.store ∧ (p.judgeClock present).txStore = p.txStore ∧
      (p.judgeClock present).counters = p.counters := by
  obtain ⟨e, ha⟩ | ⟨e, ha⟩ | ⟨rx, e⟩ := judgeClock_cases p present
  · rw [e, (loseClock_lost p).1] at h
    exact absurd h.symm ha
  · have found : p.findClock.rx.align = .search := by
      unfold Trib.findClock
      dsimp only
      split
      · rfl
      · rfl
    rw [e, found, ha] at h
    cases h
  · rw [e]
    exact ⟨rfl, rfl, rfl⟩

/-- What a station frame leaves of a receive part and of a trunk port ahead of the judgements. -/
structure Trafficked (s m : State) : Prop where
  trib : ∀ n, (m.trib n).rx = (s.trib n).rx ∧ (m.trib n).cfg = (s.trib n).cfg
  port : ∀ k, (m.port k).align = (s.port k).align ∧ (m.port k).absence = (s.port k).absence ∧
    (m.port k).enable = (s.port k).enable

theorem port_of_trunks (h : t.trunks = s.trunks) (k : Trunk) : t.port k = s.port k := by
  unfold State.port
  rw [h]

theorem traffic_trafficked (s : State) (inp : FrameIn) : Trafficked s ((s.opening inp).traffic inp) := by
  have opened := opening_opened s inp
  have filled := filled_filled (s.opening inp) inp
  have sent := traffic_sent (s.opening inp) inp
  generalize (s.opening inp).traffic inp = m at *
  generalize (s.opening inp).filled inp = w at *
  generalize s.opening inp = u at *
  refine ⟨fun n => ?_, fun k => ?_⟩
  · obtain ⟨rx, cfg⟩ := opened.rx n
    rw [← rx, ← cfg, sent.trib, paced_keeps, filled.trib, fillTrib_keeps, State.deliverTo, readStore_keeps]
    exact ⟨rfl, rfl⟩
  · rw [port_of_trunks sent.trunks, filled.port, port_of_trunks opened.trunks]
    exact ⟨rfl, rfl, rfl⟩

end Sys2Proof.Machine
end

section
/-! The judgement of receive clocks: the fourth frame without one, and every judgement of a station frame (R52, R83, R94, R105,
R106, log 6). -/

namespace Sys2Proof.Machine

variable {s : State} {n : Idx8} {k : Trunk}

/-- The fourth frame without a receive clock at a trunk (R94). -/
theorem judgeClock_fourth {p : TrunkPort} (he : p.enable = true) (h3 : p.absence = 3) (ha : p.align.runs) :
    p.judgeClock false = { p with
      align := .noSignal, absence := 0, clock := false, kept := [], cand := 0, expected := 0, errorRun := 0, seqRun := 0
      inRx := none } := by
  rw [trunkJudgeClock_running he ha, if_neg (by decide), if_pos (by omega)]
  rfl

theorem deskew_of_path {s t : State} (h : t.ps = s.ps) (k : Trunk) : t.deskew k = s.deskew k := by
  unfold State.deskew
  rw [h]

/-- Settles O33: the fourth frame without a clock at a port and at a trunk, and the ten judgements of a station frame. -/
theorem clockLossEntersNoSignal : Obligations.ClockLossEntersNoSignal := by
  refine ⟨fun s n hr h3 ha => ⟨_, exec_tribClockLoss hr h3 ha, changeTrib_event s n _, changeTrib_aside s n _, ?_⟩,
    fun s k hr he h3 ha => ⟨_, exec_trunkClockLoss hr he h3 ha, ?_⟩, fun s m inp hr hm => ⟨_, exec_stationFrame s inp hr, ?_⟩⟩
  · rw [changeTrib_trib]
    exact loseClock_lost _
  · have changed := changePort_changed s k ((s.port k).judgeClock false)
    have lost := judgeClock_fourth he h3 ha
    have silent : ((s.port k).judgeClock false).align ≠ .aligned := by
      rw [lost]
      nofun
    have deskew (j : Trunk) := deskew_of_path changed.moved j
    refine ⟨changed.event, changed.cp, changed.self.trans lost, fun hal => ?_, fun hal => ?_, fun ho => ?_, fun hal hu ho => ?_⟩
    · rw [deskew, moved_left hal silent]
      exact departed_deskew_self silent
    · have stays := moved_stays (s := s) (q := (s.port k).judgeClock false) fun h => absurd h hal
      rw [changed.moved, changed.port, stays]
      exact ⟨rfl, port_setPort_other s k _⟩
    · rw [deskew, changed.port]
      by_cases hal : (s.port k).align = .aligned
      · rw [moved_left hal silent]
        exact departed_beside silent ho
      · rw [moved_stays fun h => absurd h hal]
        exact ⟨rfl, port_setPort_other s k _⟩
    · rw [deskew, moved_left hal silent]
      exact departed_anchors silent hu ho
  · have traffic := traffic_trafficked s inp
    rw [← hm] at traffic ⊢
    have judged := judge_judged m inp
    have trunk (k : Trunk) : TrunkJudged (m.port k) ((m.judge inp).port k) (trunkClockOf inp k) := by
      rw [judged.port]
      exact judgeClock_trunkJudged _ _ _
    refine ⟨fun n => ?_, trunk .a, trunk .b, fun k => ?_, fun h => ?_⟩
    · obtain ⟨rx, cfg⟩ := traffic.trib n
      refine ⟨rx, cfg, ?_, ?_⟩
      · rw [judged.trib]
        exact judgeClock_tribJudged _ _
      · simp [judged.tribFlag n]
    · obtain ⟨align, absence, enable⟩ := traffic.port k
      exact ⟨align, absence, enable, judged.flagged k, judged.left k⟩
    · obtain ⟨ps, jumps, -⟩ := judged.stayed h
      exact ⟨ps, jumps⟩

end Sys2Proof.Machine
end

section
/-! The treatment chains and the source states (R112, R121 to R131). -/

namespace Sys2Proof.Machine

variable {s t u m : State} {res : Pair ReadResult} {r : Record} {dir : Side} {id : RecId} {k n : Nat}

/-! ### What the chains choose from (R61, R118, R121, R127) -/

theorem validFrame_eq_some {c : CopyStatus} {x : ReadResult} {f : DFrame} :
    validFrame c x = some f ↔ c = .good ∧ x = .present f := by
  unfold validFrame
  split
  · simp
  · rename_i h
    refine ⟨fun e => (nomatch e), fun ⟨hc, hx⟩ => absurd hx (h f hc)⟩

theorem trunk_eq_some {p : PathSel} {k : Trunk} : p.trunk = some k ↔ p = pathSel k := by
  cases p <;> cases k <;> decide

/-- The frame of the selected copy, while it is valid (R112). -/
theorem trunkFrame_eq_some {f : DFrame} : r.trunkFrame res = some f ↔
    ∃ k, r.selected = pathSel k ∧ r.copy.get k = .good ∧ res.get k = .present f := by
  simp only [Record.trunkFrame, Option.bind_eq_some_iff, trunk_eq_some, validFrame_eq_some]

theorem trunkFrame_isNone_eq_false : (r.trunkFrame res).isNone = false ↔
    ∃ k f, r.selected = pathSel k ∧ r.copy.get k = .good ∧ res.get k = .present f := by
  rw [← Option.not_isSome, Bool.not_eq_false', Option.isSome_iff_exists]
  simp only [trunkFrame_eq_some]
  exact exists_comm

theorem trunkFrame_eq_none (h : ¬ ∃ k f, r.selected = pathSel k ∧ r.copy.get k = .good ∧ res.get k = .present f) :
    r.trunkFrame res = none :=
  Option.isNone_iff_eq_none.1 (Bool.not_eq_false _ ▸ mt trunkFrame_isNone_eq_false.1 h)

section
variable {e : Side} {d : End} (he : r.ends.get e = some d) (hn : d.list[k]? = some n)
include he hn

theorem receivedByte_trib {p : Idx8} (hp : d.port = .trib p) : s.receivedByte res r e k =
    if (s.trib p).good then (s.trib p).store.last.bind (·[n]?) else none := by
  simp [State.receivedByte, he, hn, hp]

theorem receivedByte_trunk (hp : d.port = .trunk) : s.receivedByte res r e k = (r.trunkFrame res).bind (·.cells[n]?) := by
  simp [State.receivedByte, he, hn, hp]

end

theorem sigAvailable_iff (p : Trib) : p.sigAvailable = true ↔ p.cfg.signalling = true ∧ p.good = true ∧ p.rx.mfAligned = true := by
  simp [Trib.sigAvailable, and_assoc]

theorem sigPos_of_slot {i : Fin 30} (h : n = i.val + 1 ∧ i.val < 15 ∨ n = i.val + 2 ∧ 15 ≤ i.val) : sigPos n = i.val := by
  unfold sigPos
  obtain ⟨rfl, hi⟩ | ⟨rfl, hi⟩ := h
  · exact if_pos (by omega)
  · exact if_neg (by omega)

theorem receivedNibble_trib {p : Idx8} (ha : (s.trib p).sigAvailable = true) {i : Fin 30} (hn : sigPos n = i.val) :
    s.receivedNibble (.trib p) n = some ((s.trib p).sig.get i).nib := by
  unfold State.receivedNibble
  dsimp only
  rw [if_pos ha, hn, Vector.getElem?_eq_getElem i.isLt]
  rfl

theorem receivedNibble_trunk (i : Fin 248) : s.receivedNibble .trunk i.val = some (s.ps.sig.get i).nib := by
  unfold State.receivedNibble
  dsimp only
  rw [Vector.getElem?_eq_getElem i.isLt]
  rfl

theorem boundTo_iff {b : Option (RecId × Side)} : boundTo b id = true ↔ ∃ dir, b = some (id, dir) := by
  unfold boundTo
  split
  · simp
  · simp

theorem keyerByte_of_bound (h : BindingLaw s) {k : Idx8} (hk : (s.keyer k).binding = some (id, dir)) :
    s.keyerByte id dir = (s.keyer k).last.byte := by
  have own : boundTo (s.keyer k).binding id = true := boundTo_iff.2 ⟨dir, hk⟩
  cases hf : s.boundKeyer id with
  | none => exact absurd own (List.find?_eq_none.1 hf k (List.mem_finRange k))
  | some j =>
    have found : boundTo (s.keyer j).binding id = true := List.find?_some (p := fun k => boundTo (s.keyer k).binding id) hf
    obtain ⟨side, hj⟩ := boundTo_iff.1 found
    have same : j = k := h.2 j k _ hj _ hk rfl
    subst same
    simp [State.keyerByte, hf, hk]

theorem keyerByte_of_unbound (h : ∀ k, (s.keyer k).binding ≠ some (id, dir)) : s.keyerByte id dir = none := by
  unfold State.keyerByte
  cases s.boundKeyer id with
  | none => rfl
  | some k => exact if_neg (h k)

/-! ### The byte chain, one choice after another (R124 to R129) -/

section
variable {key own source : Option Byte}

theorem chainByte_hung (h : r.state = .suspended ∨ r.state = .retiring) :
    chainByte r dir key own source = r.fields.cond.get dir := if_pos h

variable (ha : r.state = .active)
include ha

theorem chainByte_active : chainByte r dir key own source = match loopEffect r.fields.loopback dir with
    | .returns => own.getD (r.fields.cond.get dir)
    | .conditions => r.fields.cond.get dir
    | .through =>
      if r.failed.get dir then r.fields.cond.get dir
      else match key with
        | some b => b
        | none =>
          if r.fields.inject.names dir then r.fields.testCode
          else (source.map (densityOf r.fields.density)).getD (r.fields.cond.get dir) := by
  unfold chainByte
  exact if_neg (by simp [ha])

theorem chainByte_returns (h : r.fields.loopback = .loopX ∧ dir = .x ∨ r.fields.loopback = .loopY ∧ dir = .y) :
    chainByte r dir key own source = own.getD (r.fields.cond.get dir) := by
  rw [chainByte_active ha]
  obtain ⟨hl, rfl⟩ | ⟨hl, rfl⟩ := h
  · rw [hl]
    rfl
  · rw [hl]
    rfl

theorem chainByte_conditions (h : r.fields.loopback = .loopX ∧ dir = .y ∨ r.fields.loopback = .loopY ∧ dir = .x) :
    chainByte r dir key own source = r.fields.cond.get dir := by
  rw [chainByte_active ha]
  obtain ⟨hl, rfl⟩ | ⟨hl, rfl⟩ := h
  · rw [hl]
    rfl
  · rw [hl]
    rfl

variable (hl : r.fields.loopback = .none)
include hl

theorem chainByte_failed (hf : r.failed.get dir = true) : chainByte r dir key own source = r.fields.cond.get dir := by
  rw [chainByte_active ha, hl]
  exact if_pos hf

variable (hf : r.failed.get dir = false)
include hf

theorem chainByte_keyed {v : Byte} : chainByte r dir (some v) own source = v := by
  rw [chainByte_active ha, hl]
  exact if_neg (by simp [hf])

theorem chainByte_unkeyed : chainByte r dir none own source = if r.fields.inject.names dir then r.fields.testCode
    else (source.map (densityOf r.fields.density)).getD (r.fields.cond.get dir) := by
  rw [chainByte_active ha, hl]
  exact if_neg (by simp [hf])

end

theorem names_iff {i : Inject} : i.names dir = true ↔ i = .towardX ∧ dir = .x ∨ i = .towardY ∧ dir = .y := by
  cases i <;> cases dir <;> decide

theorem densityOf_nonzero {b : Byte} (h : b ≠ 0) (d : Density) : densityOf d b = b := if_pos h

/-! ### The signalling chain (R130) -/

theorem deliveredNibble_fault (h : r.state = .suspended ∨ r.state = .retiring ∨ r.failed.get dir = true) :
    s.deliveredNibble r dir k = r.fields.faultNib := by
  unfold State.deliveredNibble
  exact if_pos h

section
variable {d : End} (he : r.ends.get (otherSide dir) = some d) (hn : d.list[k]? = some n)
include he hn

theorem deliveredNibble_unreceived (h : s.receivedNibble d.port n = none) : s.deliveredNibble r dir k = r.fields.faultNib := by
  simp [State.deliveredNibble, he, hn, h]

theorem deliveredNibble_received (ha : r.state = .active) (hf : r.failed.get dir = false) {v : Nibble}
    (h : s.receivedNibble d.port n = some v) :
    s.deliveredNibble r dir k = if r.fields.fixed.get dir = true then r.fields.nib.get dir else v := by
  simp [State.deliveredNibble, ha, hf, he, hn, h]

end

/-! ### The source states that a station frame writes (R112, R122, R123) -/

theorem sourceFailed_trib {n : Idx8} (h : r.portOf (otherSide dir) = some (.trib n)) :
    s.sourceFailed res r dir = !(s.trib n).good := by
  rw [State.sourceFailed, h]

theorem sourceFailed_trunk (h : r.portOf (otherSide dir) = some .trunk) :
    s.sourceFailed res r dir = (r.trunkFrame res).isNone := by
  rw [State.sourceFailed, h]

/-- The source states that a whole station frame leaves are those that its engine writes. -/
theorem stationFrame_failed (s : State) (inp : FrameIn) (id : RecId) :
    ((((s.opening inp).traffic inp).judge inp).record id).failed = (((s.opening inp).filled inp).record id).failed := by
  have judged := (judge_judged ((s.opening inp).traffic inp) inp).record id
  have sent : ((s.opening inp).traffic inp).record id = ((s.opening inp).filled inp).record id := by
    unfold State.record
    rw [(traffic_sent (s.opening inp) inp).ct]
  rw [judged, sent]

/-- Settles O48: the source states of a station frame, the two chains, and what they choose from. -/
theorem treatmentChainsInOrder : Obligations.TreatmentChainsInOrder := by
  refine ⟨fun s u inp hr hu => ⟨_, exec_stationFrame s inp hr, fun id r hv => ?sources⟩,
    fun s res id dir k r b cond hrec hb hcond => ?bytes, fun s r dir k => ⟨deliveredNibble_fault, fun ha hf d n he hn =>
      ⟨deliveredNibble_unreceived he hn, fun _ => deliveredNibble_received he hn ha hf⟩⟩,
    fun s res r e d k n he hn => ⟨fun p hp => ?trib, fun hp => ?trunk⟩, fun s n => ⟨fun p => ?tribNibble, ?trunkNibble⟩,
    fun s id dir => ⟨fun h k hk => keyerByte_of_bound h hk, keyerByte_of_unbound⟩⟩
  case sources =>
    have failed := stationFrame_failed s inp id
    have opened := opening_opened s inp
    have queue := (traffic_sent (s.opening inp) inp).queue.trans (judge_judged ((s.opening inp).traffic inp) inp).queue
    rw [← hu] at failed opened queue ⊢
    have filled := filled_filled u inp
    have written := filled.failed id r hv
    rw [failed]
    refine ⟨fun hi => ?_, fun hi dir => ?_, fun ha hf => queue.subset (filled.posts id r hv ha hf)⟩
    · rw [written, if_neg (by simp [hi])]
    · have each : ((u.filled inp).record id).failed.get dir = u.sourceFailed u.reads r dir := by
        rw [written, if_pos hi]
        cases dir
        · rfl
        · rfl
      have good (n : Idx8) : (u.trib n).good = (s.trib n).good := by
        rw [Trib.good, (opened.rx n).1]
        rfl
      refine ⟨fun n hp => ?_, fun hp => ?_⟩
      · rw [each, sourceFailed_trib hp, good]
      · rw [each, sourceFailed_trunk hp]
        exact trunkFrame_isNone_eq_false
  case bytes =>
    subst hrec hb hcond
    refine ⟨chainByte_hung, fun ha => ⟨chainByte_returns ha, chainByte_conditions ha, chainByte_failed ha, fun hl hf =>
      ⟨fun v hv => ?_, fun hv => ?_⟩⟩⟩
    · rw [State.deliveredByte, hv]
      exact chainByte_keyed ha hl hf
    · have unkeyed := chainByte_unkeyed (own := s.receivedByte res (s.record id) dir k)
        (source := s.receivedByte res (s.record id) (otherSide dir) k) ha hl hf
      rw [State.deliveredByte, hv, unkeyed]
      refine ⟨fun hi => if_pos (names_iff.2 hi), fun hi v hsrc => ?_⟩
      rw [if_neg (mt names_iff.1 hi), hsrc]
      refine ⟨fun hne => densityOf_nonzero hne _, fun h0 hd => ?_, fun h0 hd => ?_, fun h0 hd => ?_⟩
      all_goals
        rw [h0, hd]
        rfl
  case trib =>
    rw [receivedByte_trib he hn hp]
    refine ⟨fun hg f hf => ?_, fun h => ?_⟩
    · rw [if_pos hg, hf]
      rfl
    · obtain hg | hl := h
      · rw [if_neg (by simp [hg])]
      · rw [hl]
        exact ite_self _
  case trunk =>
    rw [receivedByte_trunk he hn hp]
    refine ⟨fun j f hs hc hf => ?_, fun h => ?_⟩
    · rw [trunkFrame_eq_some.2 ⟨j, hs, hc, hf⟩]
      rfl
    · rw [trunkFrame_eq_none h]
      rfl
  case tribNibble =>
    rw [← sigAvailable_iff]
    exact ⟨fun ha i hi => receivedNibble_trib ha (sigPos_of_slot hi), fun ha => if_neg ha⟩
  case trunkNibble =>
    rintro i rfl
    exact receivedNibble_trunk i

end Sys2Proof.Machine
end

section
/-! SUPPORT. A whole station frame: what its judgements keep of the traffic, and the lines' frames (R62, R84 to R90). -/

namespace Sys2Proof.Machine

variable {s t u w : State} {inp : FrameIn} {n : Idx8} {k : Trunk} {id : RecId}

/-! ### What the judgements keep of the traffic -/

theorem trunkJudgeClock_lineOut (p : TrunkPort) (present : Bool) : (p.judgeClock present).lineOut = p.lineOut := by
  unfold TrunkPort.judgeClock
  split
  · rfl
  dsimp only
  split
  · rfl
  · split
    · rfl
    · rfl
  · split
    · rfl
    · split
      · rfl
      · rfl

/-- What a station frame leaves in the end, from the state `u` in which its traffic begins and the state `w` of the work up to the
detectors. -/
structure FrameDone (u w t : State) (inp : FrameIn) : Prop where
  trib : ∀ n, t.trib n = ((w.trib n).paced (inp.deferTx.getLsbD n.val)).judgeClock (inp.tribClock.getLsbD n.val)
  count : t.stu.count = u.stu.count
  started : t.stu.started = u.stu.started
  clu : t.clu = u.clu
  cp : t.cp = u.cp
  readPos : t.ps.readPos = (u.ps.readPos + 1) % 248
  epoch : t.ct.epoch = w.ct.epoch
  lineOut : ∀ k, (t.port k).lineOut = w.trunkFrameSent k w.trunkNibble (w.trunkBytes u.reads)
  slips : (∀ k, (t.port k).align = (u.port k).align) → ∀ id, (t.record id).slips = (w.record id).slips

theorem stationFrame_done (u : State) (inp : FrameIn) : FrameDone u (u.filled inp) ((u.traffic inp).judge inp) inp := by
  have filled := filled_filled u inp
  have sent := traffic_sent u inp
  have read := (psRead_work u u.reads).readPos
  generalize u.filled inp = w at *
  generalize u.traffic inp = m at *
  have judged := judge_judged m inp
  generalize m.judge inp = t at *
  have port (k : Trunk) : m.port k = w.port k := port_of_trunks sent.trunks k
  refine ⟨fun n => ?_, ?_, ?_, ?_, ?_, ?_, ?_, fun k => ?_, fun h id => ?_⟩
  · rw [judged.trib, sent.trib]
  · rw [judged.count, sent.stu, filled.stu]
  · rw [judged.started, sent.stu, filled.stu]
  · rw [judged.clu, sent.clu, filled.clu]
  · rw [judged.cp, sent.cp, filled.cp]
  · rw [judged.path, sent.path, filled.path]
    exact read
  · rw [judged.table, sent.ct]
  · rw [judged.port, port]
    dsimp only
    rw [trunkJudgeClock_lineOut, filled.port]
  · have stays (k : Trunk) : (t.port k).align = (m.port k).align := by rw [h, port, filled.port]
    have slips := (judged.stayed fun k hk => (stays k).trans hk).2.2 id
    have record : m.record id = w.record id := by
      unfold State.record
      rw [sent.ct]
    rw [slips, record]

/-! ### The trunk frame sent (R84 to R90) -/

section
variable (s : State) (c : Nat) (nib : Nat → Nibble) (rdi : Bool)

theorem overhead_length : (s.overhead c nib rdi).length = 8 := rfl

/-- The far-end defect bit of the overhead status byte (R90). -/
theorem statusOctet_rdi : (s.statusOctet rdi).getLsbD 7 = rdi := by
  unfold State.statusOctet
  generalize s.stu.state = x
  cases rdi <;> cases x <;> rfl

/-- Frames that differ in the RDI alone differ in the overhead status byte alone (R85). -/
theorem overhead_rdi (rdi' : Bool) {i : Nat} (h : i ≠ 7) :
    (s.overhead c nib rdi).getD i 0 = (s.overhead c nib rdi').getD i 0 := by
  match i, h with
  | 0, _ => rfl
  | 1, _ => rfl
  | 2, _ => rfl
  | 3, _ => rfl
  | 4, _ => rfl
  | 5, _ => rfl
  | 6, _ => rfl
  | _ + 8, _ => rfl

end

/-- The frame sent on an enabled trunk: eight overhead bytes ahead of 248 cells. -/
theorem trunkFrameSent_enabled (he : (s.port k).enable = true) (nib : Nat → Nibble) (cells : List (Option Byte)) :
    s.trunkFrameSent k nib cells = s.overhead s.stu.count nib (decide ((s.port k).align ≠ .aligned)) ++
      cells.map fun b => b.getD s.trunks.vacantCode := if_pos he

theorem trunkFrameSent_disabled (he : (s.port k).enable = false) (nib : Nat → Nibble) (cells : List (Option Byte)) :
    s.trunkFrameSent k nib cells = List.replicate 256 0xFF := if_neg (by simp [he])

theorem trunkFrameSent_overhead (he : (s.port k).enable = true) (nib : Nat → Nibble) (cells : List (Option Byte)) {i : Nat}
    (hi : i < 8) : (s.trunkFrameSent k nib cells).getD i 0 =
      (s.overhead s.stu.count nib (decide ((s.port k).align ≠ .aligned))).getD i 0 := by
  rw [trunkFrameSent_enabled he]
  exact List.getD_append _ _ _ _ hi

theorem trunkFrameSent_cell (he : (s.port k).enable = true) (res : Pair ReadResult) {c : Nat} (hc : c < 248) :
    (s.trunkFrameSent k s.trunkNibble (s.trunkBytes res)).getD (8 + c) 0 =
      (s.byteFor res .trunk c).getD s.trunks.vacantCode := by
  rw [trunkFrameSent_enabled he, List.getD_append_right _ _ _ _ (by rw [overhead_length]; omega), overhead_length,
    Nat.add_sub_cancel_left]
  simp [State.trunkBytes, hc]

theorem trunkFrameSent_length (he : (s.port k).enable = true) (res : Pair ReadResult) :
    (s.trunkFrameSent k s.trunkNibble (s.trunkBytes res)).length = 256 := by
  rw [trunkFrameSent_enabled he]
  simp [overhead_length, State.trunkBytes]

/-! ### A tributary port at a station frame (R62, R64, R120) -/

/-- A port as one station frame leaves it, from the port `p` in which its traffic begins and the port `q` of the work up to the
detectors. -/
structure PortDone (p q r : Trib) (defer : Bool) : Prop where
  kept : r.rx.align = p.rx.align → r.store = q.store ∧ r.txStore = q.txStore ∧ r.counters = q.counters
  delivered : r.delivered = q.delivered
  txSig : r.txSig = q.txSig
  station : p.cfg.enable = true → p.cfg.loopTiming = false ∨ p.rx.align = .noSignal → defer = false →
    LineSent { p with txSig := r.txSig } r.delivered r.lineOut ∧ r.txCount = p.txCount + 1 ∧ r.txDue = false ∧
      r.lineRemote = if p.txCount.getLsbD 0 = true then p.remoteSent else p.lineRemote
  off : p.cfg.enable = false → defer = false →
    r.lineOut = List.replicate 32 0xFF ∧ r.lineRemote = true ∧ r.txCount = p.txCount
  due : p.cfg.enable = false ∨ p.cfg.loopTiming = false ∨ p.rx.align = .noSignal → defer = true →
    r.txDue = true ∧ r.lineOut = p.lineOut ∧ r.txCount = p.txCount
  loop : p.cfg.enable = true → p.cfg.loopTiming = true → p.rx.align ≠ .noSignal →
    r.lineOut = p.lineOut ∧ r.txCount = p.txCount

/-- The items of a port that its stores' work leaves as they are. -/
theorem filled_items (w : State) (res : Pair ReadResult) (n : Idx8) (p : Trib) : w.fillTrib res n p.readStore = { p with
    store := (w.fillTrib res n p.readStore).store, txStore := (w.fillTrib res n p.readStore).txStore
    counters := (w.fillTrib res n p.readStore).counters, txSig := (w.fillTrib res n p.readStore).txSig
    delivered := (w.fillTrib res n p.readStore).delivered } := by
  rw [fillTrib_keeps, State.deliverTo, readStore_keeps]

theorem portDone (w : State) (res : Pair ReadResult) (n : Idx8) (p : Trib) (defer present : Bool) :
    PortDone p (w.fillTrib res n p.readStore) (((w.fillTrib res n p.readStore).paced defer).judgeClock present) defer := by
  have items := filled_items w res n p
  have length : (w.fillTrib res n p.readStore).delivered.length = 32 := by
    rw [fillTrib_keeps]
    simp [State.deliverTo]
  generalize w.fillTrib res n p.readStore = q at *
  have uses : q.usesTxStore = p.usesTxStore := by
    rw [items]
    rfl
  have paced := paced_keeps q defer
  have judged := judgeClock_keeps (q.paced defer) present
  have lineOut : ((q.paced defer).judgeClock present).lineOut = (q.paced defer).lineOut := by rw [judged]
  have lineRemote : ((q.paced defer).judgeClock present).lineRemote = (q.paced defer).lineRemote := by rw [judged]
  have txCount : ((q.paced defer).judgeClock present).txCount = (q.paced defer).txCount := by rw [judged]
  have txDue : ((q.paced defer).judgeClock present).txDue = (q.paced defer).txDue := by rw [judged]
  have txSig : ((q.paced defer).judgeClock present).txSig = q.txSig := by rw [judged, paced]
  have delivered : ((q.paced defer).judgeClock present).delivered = q.delivered := by rw [judged, paced]
  have enable : q.cfg.enable = p.cfg.enable := by rw [items]
  have count : q.txCount = p.txCount := by rw [items]
  have line : q.lineOut = p.lineOut := by rw [items]
  refine ⟨fun h => ?_, delivered, txSig, fun he hs hd => ?_, fun he hd => ?_, fun hs hd => ?_, fun he hl ha => ?_⟩
  · have align : (q.paced defer).rx.align = p.rx.align := by rw [paced, items]
    obtain ⟨store, txStore, counters⟩ := judgeClock_stores (h.trans align.symm)
    rw [store, txStore, counters, paced]
    exact ⟨rfl, rfl, rfl⟩
  · have own : q.usesTxStore = false := uses.trans (usesTxStore_of_station (.inr hs))
    rw [lineOut, lineRemote, txCount, txDue, txSig, delivered, hd, paced_sent own, transmit_station (enable.trans he) own]
    have line : LineSent q q.delivered (q.lineFrame q.delivered) := lineFrame_sent length
    refine ⟨?_, congrArg (· + 1) count, rfl, ?_⟩
    · rw [items] at line ⊢
      exact line
    · rw [items]
      rfl
  · have own : q.usesTxStore = false := uses.trans (usesTxStore_of_station (.inl he))
    rw [lineOut, lineRemote, txCount, hd, paced_sent own, transmit_disabled (enable.trans he)]
    exact ⟨rfl, rfl, count⟩
  · have own : q.usesTxStore = false := uses.trans (usesTxStore_of_station hs)
    rw [lineOut, txCount, txDue, hd, paced_due own]
    exact ⟨rfl, line, count⟩
  · rw [lineOut, txCount, paced_loop (uses.trans (usesTxStore_of_loop he hl ha))]
    exact ⟨line, count⟩

theorem fillTrib_delivered (w : State) (res : Pair ReadResult) (n : Idx8) (p : Trib) :
    (w.fillTrib res n p).delivered = (List.range 32).map (w.byteFor res (.trib n)) := by
  rw [fillTrib_keeps]
  rfl

theorem fillTrib_txSig (w : State) (res : Pair ReadResult) (n : Idx8) (p : Trib) (i : Fin 30) :
    (w.fillTrib res n p).txSig.get i = w.nibbleFor (.trib n) (sigSlot i.val) := by
  rw [fillTrib_keeps]
  exact mapVec_get ..

/-! ### Repeat slips taken ahead of the frame (R80, R81, log 6) -/

theorem flush_repeatsCounted (s : State) (id : RecId) : repeatsCounted s.flush id = repeatsCounted s id := by
  have align (n : Idx8) : (s.flush.trib n).rx.align = (s.trib n).rx.align ∧
      (s.flush.trib n).store = (s.trib n).store := by
    rw [trib_flush]
    split
    · obtain ⟨rx, -, store, -⟩ := transmit_keeps (s.trib n)
      exact ⟨by rw [rx], store⟩
    · exact ⟨rfl, rfl⟩
  have record : s.flush.record id = s.record id := rfl
  have owners (n : Idx8) : s.flush.ownersOn (.trib n) = s.ownersOn (.trib n) := rfl
  unfold repeatsCounted
  simp only [align, record, owners]

theorem settledFor_slips (h : inp.slipsFirst = true) (s : State) (id : RecId) :
    ((s.settledFor inp).record id).slips.toNat = min 65535 ((s.record id).slips.toNat + repeatsCounted s id) := by
  have count := (foldl_countsSlip slipNotice_counts s.flush.repeating s.flush).2 id
  rw [repeating_count, flush_repeatsCounted] at count
  unfold State.settledFor
  rw [if_pos h]
  exact count

end Sys2Proof.Machine
end

section
/-! The station frame: the counts, the stores and the lines' frames (R62, R64, R68, R79 to R90, R104, R120). -/

namespace Sys2Proof.Machine

variable {s u w t : State} {inp : FrameIn} {n : Idx8} {k : Trunk}

theorem FrameFilled.enable (h : FrameFilled u w inp) (k : Trunk) : (w.port k).enable = (u.port k).enable := by rw [h.port]

theorem FrameFilled.align (h : FrameFilled u w inp) (k : Trunk) : (w.port k).align = (u.port k).align := by rw [h.port]

theorem FrameDone.portDone (done : FrameDone u w t inp) (filled : FrameFilled u w inp) (n : Idx8) :
    PortDone (u.trib n) (w.trib n) (t.trib n) (inp.deferTx.getLsbD n.val) := by
  rw [done.trib, filled.trib]
  exact Machine.portDone ..

/-- The slots and the signalling table of a port at the end of a frame (R64, R120). -/
theorem FrameDone.deliveries (done : FrameDone u w t inp) (filled : FrameFilled u w inp) (n : Idx8) :
    (t.trib n).delivered = (List.range 32).map (w.byteFor u.reads (.trib n)) ∧
      ∀ i : Fin 30, (t.trib n).txSig.get i = w.nibbleFor (.trib n) (sigSlot i.val) := by
  have port := done.portDone filled n
  rw [port.delivered, port.txSig, filled.trib]
  exact ⟨fillTrib_delivered .., fun i => fillTrib_txSig ..⟩

theorem getD_map_range {α : Type} (f : Nat → Option α) {j m : Nat} (h : j < m) : ((List.range m).map f).getD j none = f j := by
  simp [h]

/-- One tributary port at a station frame. -/
theorem FrameDone.tribFrame (done : FrameDone u w t inp) (filled : FrameFilled u w inp) (n : Idx8) :
    StoresWorked (u.trib n) (w.trib n) ∧ (t.trib n).delivered.length = 32 ∧
      (∀ j, j < 32 → ByteFilled w u.reads (.trib n) j ((t.trib n).delivered.getD j none)) ∧
      ∀ i : Fin 30, NibbleFilled w (.trib n) (if i.val < 15 then i.val + 1 else i.val + 2) ((t.trib n).txSig.get i) := by
  obtain ⟨delivered, txSig⟩ := done.deliveries filled n
  refine ⟨?_, ?_, fun j hj => ?_, fun i => ?_⟩
  · rw [filled.trib]
    exact fillTrib_storesWorked ..
  · rw [delivered, List.length_map, List.length_range]
  · rw [delivered, getD_map_range _ hj]
    exact byteFor_filled ..
  · rw [txSig]
    exact nibbleFor_filled ..

/-- The eight overhead bytes and the cells of the frame sent on an enabled trunk (R84 to R90). -/
structure TrunkSent (w : State) (res : Pair ReadResult) (code : Byte) (c : Nat) (rdi : Bool) (line : List Byte) : Prop where
  length : line.length = 256
  overhead : line.take 8 = w.overhead c w.trunkNibble rdi
  byte : ∀ i, i < 8 → line.getD i 0 = (w.overhead c w.trunkNibble rdi).getD i 0
  cell : ∀ i, i < 248 → line.getD (8 + i) 0 = (w.byteFor res .trunk i).getD code

/-- Frames that differ in the RDI alone are alike but for the overhead status byte (R85). -/
theorem TrunkSent.alike {res : Pair ReadResult} {code : Byte} {c : Nat} {x y : Bool} {a b : List Byte}
    (h : TrunkSent w res code c x a) (g : TrunkSent w res code c y b) {i : Nat} (hi : i ≠ 7) : a.getD i 0 = b.getD i 0 := by
  by_cases low : i < 8
  · rw [h.byte i low, g.byte i low]
    exact overhead_rdi _ _ _ _ _ hi
  by_cases high : i < 256
  · obtain ⟨j, rfl⟩ := Nat.exists_eq_add_of_le (Nat.not_lt.1 low)
    rw [h.cell j (by omega), g.cell j (by omega)]
  · rw [List.getD_eq_default _ _ (by rw [h.length]; omega), List.getD_eq_default _ _ (by rw [g.length]; omega)]

theorem FrameDone.trunkSent (done : FrameDone u w t inp) (filled : FrameFilled u w inp) (he : (u.port k).enable = true) :
    TrunkSent w u.reads u.trunks.vacantCode t.stu.count (decide ((u.port k).align ≠ .aligned)) (t.port k).lineOut := by
  have enable : (w.port k).enable = true := (filled.enable k).trans he
  have count : t.stu.count = w.stu.count := by rw [done.count, filled.stu]
  rw [done.lineOut, count, ← filled.align, ← filled.vacantCode]
  refine ⟨trunkFrameSent_length enable _, ?_, fun i hi => trunkFrameSent_overhead enable _ _ hi,
    fun i hi => trunkFrameSent_cell enable _ hi⟩
  rw [trunkFrameSent_enabled enable]
  exact List.take_left' (overhead_length ..)

/-- Settles O47: what a station frame counts and sends, and what its stores, its deliveries and its slips are. -/
theorem stationFrameAdvancesAndSends : Obligations.StationFrameAdvancesAndSends := by
  refine ⟨fun s inp hr law => ⟨_, exec_stationFrame s inp hr, ?_⟩, fun s u v w inp hr hu hv hw =>
    ⟨_, exec_stationFrame s inp hr, ?_⟩⟩
  · have opened := opening_opened s inp
    obtain ⟨first, next, started⟩ := opening_count s inp law
    have filled := filled_filled (s.opening inp) inp
    have done := stationFrame_done (s.opening inp) inp
    generalize ((s.opening inp).traffic inp).judge inp = t at *
    generalize (s.opening inp).filled inp = w at *
    generalize s.opening inp = u at *
    have port (k : Trunk) : u.port k = s.port k := port_of_trunks opened.trunks k
    have sent (k : Trunk) (he : (s.port k).enable = true) :
        TrunkSent w u.reads u.trunks.vacantCode t.stu.count (decide ((s.port k).align ≠ .aligned)) (t.port k).lineOut :=
      port k ▸ done.trunkSent filled (port k ▸ he)
    refine ⟨fun h => done.count.trans (first h), fun h => done.count.trans (next h), done.started.trans started, ?_,
      done.clu.trans opened.clu, done.cp.trans opened.cp, fun k he => ?_, fun ha hb i hi => ?_, fun k he => ?_,
      fun n he hd hdefer hs => ?_⟩
    · rw [done.readPos, opened.path]
    · have frame := sent k he
      refine ⟨frame.length, frame.byte 0 (by decide), frame.byte 1 (by decide), ?_, ?_⟩
      · rw [done.epoch]
        exact frame.byte 6 (by decide)
      · rw [frame.byte 7 (by decide)]
        exact statusOctet_rdi ..
    · exact (sent .a ha).alike (sent .b hb) hi
    · rw [done.lineOut, trunkFrameSent_disabled (by rw [filled.enable, port, he])]
    · have own : u.trib n = s.trib n := by rw [opened.trib, if_neg (by simp [hd])]
      obtain ⟨line, count, -, -⟩ := (done.portDone filled n).station (own ▸ he) (own ▸ hs) hdefer
      rw [own] at line count
      obtain ⟨length, even, -⟩ := line
      exact ⟨count, length, even⟩
  · have filled := filled_filled u inp
    have done := stationFrame_done u inp
    rw [← hu]
    rw [← hw] at filled done
    generalize (u.traffic inp).judge inp = t at *
    refine ⟨fun n => ?_, ⟨w.trunkNibble, fun c hc => ?_, fun k he => ?_⟩, fun id => ?_, fun h => ?_⟩
    · have port := done.portDone filled n
      obtain ⟨stores, length, bytes, nibbles⟩ := done.tribFrame filled n
      exact ⟨stores, port.kept, port.delivered, length, bytes, nibbles, port.station, port.off, port.due, port.loop⟩
    · exact ⟨_, nibbleFor_filled w .trunk c, rfl⟩
    · have frame := done.trunkSent filled he
      refine ⟨frame.overhead, frame.byte 4 (by decide), frame.byte 5 (by decide), frame.byte 7 (by decide), fun c hc => ?_⟩
      exact ⟨_, byteFor_filled w u.reads .trunk c, frame.cell c hc⟩
    · obtain ⟨within, ahead⟩ := filled.slips id
      rw [← hv] at within ahead
      exact ⟨within, ahead, fun h => done.slips h id⟩
    · exact ⟨s.settledFor inp, hu.trans (opening_eq s inp), settledFor_slips h s⟩

end Sys2Proof.Machine
end

section
/-! SUPPORT. What the laws on the queue, the deskew stores, the KEY_IN lines, the counts and the bindings speak of, and the
operations of the state that keep them (R68, R103, R104, R135, R148, R157, R170). -/

namespace Sys2Proof.Machine

/-- The items that these laws speak of. -/
structure BufferItems where
  queue : List RecId
  frames : Trunk → List DFrame
  assigned : Idx8 → LineFunction × Idx8
  count : Nat
  begun : Bool
  started : Bool
  readPos : Nat
  detBinding : Idx8 → Option (RecId × Side)
  keyerBinding : Idx8 → Option (RecId × Side)

def State.bufferItems (s : State) : BufferItems where
  queue := s.au.queue
  frames k := (s.deskew k).frames
  assigned n := ((s.line n).function, (s.line n).unit)
  count := s.stu.count
  begun := s.stu.begun
  started := s.stu.started
  readPos := s.ps.readPos
  detBinding d := (s.det d).binding
  keyerBinding k := (s.keyer k).binding

/-- A change that keeps each of these laws by itself. -/
structure BuffersKept (s t : State) : Prop where
  queue : QueueLaw s → QueueLaw t
  deskew : DeskewLaw s → DeskewLaw t
  lines : KeyLineLaw s → KeyLineLaw t
  count : CountLaw s → CountLaw t
  binding : BindingLaw s → BindingLaw t

variable {s t u : State}

theorem BuffersKept.refl : BuffersKept s s := ⟨id, id, id, id, id⟩

theorem BuffersKept.trans (h : BuffersKept s t) (k : BuffersKept t u) : BuffersKept s u :=
  ⟨k.queue ∘ h.queue, k.deskew ∘ h.deskew, k.lines ∘ h.lines, k.count ∘ h.count, k.binding ∘ h.binding⟩

/-- The laws depend on these items alone. -/
theorem BuffersKept.of_items (h : t.bufferItems = s.bufferItems) : BuffersKept s t where
  queue law := by
    have queue : t.au.queue = s.au.queue := congrArg BufferItems.queue h
    rwa [QueueLaw, queue]
  deskew law k := by
    have frames : (t.deskew k).frames = (s.deskew k).frames := congrArg (BufferItems.frames · k) h
    rw [frames]
    exact law k
  lines law m n := by
    have function (n : Idx8) : (t.line n).function = (s.line n).function := congrArg (fun i => (i.assigned n).1) h
    have unit (n : Idx8) : (t.line n).unit = (s.line n).unit := congrArg (fun i => (i.assigned n).2) h
    rw [function, function, unit, unit]
    exact law m n
  count law := by
    have count : t.stu.count = s.stu.count := congrArg BufferItems.count h
    have begun : t.stu.begun = s.stu.begun := congrArg BufferItems.begun h
    have started : t.stu.started = s.stu.started := congrArg BufferItems.started h
    have readPos : t.ps.readPos = s.ps.readPos := congrArg BufferItems.readPos h
    rwa [CountLaw, count, begun, started, readPos]
  binding law := by
    have det (d : Idx8) : (t.det d).binding = (s.det d).binding := congrArg (BufferItems.detBinding · d) h
    have keyer (k : Idx8) : (t.keyer k).binding = (s.keyer k).binding := congrArg (BufferItems.keyerBinding · k) h
    simp only [BindingLaw, det, keyer]
    exact law

/-- What follows, or goes before, an update that leaves the items alone. -/
theorem BuffersKept.after (k : BuffersKept t u) (h : t.bufferItems = s.bufferItems) : BuffersKept s u := (of_items h).trans k

theorem BuffersKept.then (k : BuffersKept s t) (h : u.bufferItems = t.bufferItems) : BuffersKept s u := k.trans (of_items h)

theorem BuffersKept.ite {c : Prop} [Decidable c] (h : BuffersKept s t) (k : BuffersKept s u) :
    BuffersKept s (if c then t else u) := by
  split
  · exact h
  · exact k

/-- An event that is due or changes nothing. -/
theorem BuffersKept.due {c : Prop} [Decidable c] (h : BuffersKept s t) : BuffersKept s (if c then t else s) := h.ite .refl

theorem BuffersKept.foldl {α : Type} {g : State → α → State} (h : ∀ s a, BuffersKept s (g s a)) (l : List α) (s : State) :
    BuffersKept s (l.foldl g s) := by
  induction l generalizing s with
  | nil => exact .refl
  | cons a as ih => exact (h s a).trans (ih _)

theorem StuOnly.bufferItems (h : StuOnly s t) : t.bufferItems = s.bufferItems := by
  have queue : t.au.queue = s.au.queue := by rw [h.eq]
  have ps : t.ps = s.ps := by rw [h.eq]
  have clu : t.clu = s.clu := by rw [h.eq]
  have dets : t.dets = s.dets := by rw [h.eq]
  have keyers : t.keyers = s.keyers := by rw [h.eq]
  unfold State.bufferItems State.deskew State.line State.det State.keyer
  rw [queue, ps, clu, dets, keyers, h.count, h.begun, h.started]

/-! ### Posting (R170) -/

theorem post_buffers (s : State) (ids : List RecId) : BuffersKept s (s.post ids) where
  queue law := by
    have nodup : (s.post ids).au.queue.Nodup := foldl_postTo_nodup ids law.1
    exact ⟨nodup, queue_length_le nodup⟩
  deskew := id
  lines := id
  count := id
  binding := id

theorem raiseIf_buffers (s : State) (c : Bool) (n : Nat) : BuffersKept s (s.raiseIf c n) := .of_items (by cases c <;> rfl)

/-- A change of records touches none of the items but the queue. -/
theorem updateRecords_buffers (s : State) (f : RecId → Record → Record) : BuffersKept s (s.updateRecords f) :=
  (post_buffers _ _).after rfl

/-! ### Bindings (R135, R148) -/

/-- No two units are bound to one record. -/
def BoundOnce (b : Idx8 → Option (RecId × Side)) : Prop := ∀ i j : Idx8, ∀ x ∈ b i, ∀ y ∈ b j, x.1 = y.1 → i = j

theorem bindingLaw_iff :
    BindingLaw s ↔ BoundOnce (fun d => (s.det d).binding) ∧ BoundOnce fun k => (s.keyer k).binding := Iff.rfl

/-- Units that lose a binding or keep it. -/
theorem BoundOnce.sub {b c : Idx8 → Option (RecId × Side)} (h : BoundOnce b) (hc : ∀ i, ∀ x ∈ c i, x ∈ b i) : BoundOnce c :=
  fun i j x hx y hy => h i j x (hc i x hx) y (hc j y hy)

/-- One unit is bound to a record to which none was. -/
theorem BoundOnce.bind {b c : Idx8 → Option (RecId × Side)} {d : Idx8} {id : RecId} {dir : Side} (h : BoundOnce b)
    (fresh : ∀ i, boundTo (b i) id = false) (hd : c d = some (id, dir)) (hc : ∀ i, i ≠ d → c i = b i) : BoundOnce c := by
  have apart (i : Idx8) (hi : i ≠ d) (x : RecId × Side) (hx : x ∈ c i) : x.1 ≠ id := fun e => by
    have bound := fresh i
    rw [← hc i hi, Option.mem_def.1 hx] at bound
    simp [boundTo, e] at bound
  have own (x : RecId × Side) (hx : x ∈ c d) : x.1 = id := by
    rw [hd] at hx
    cases hx
    rfl
  intro i j x hx y hy hxy
  by_cases hi : i = d <;> by_cases hj : j = d
  · rw [hi, hj]
  · subst hi
    exact absurd (hxy.symm.trans (own x hx)) (apart j hj y hy)
  · subst hj
    exact absurd (hxy.trans (own y hy)) (apart i hi x hx)
  · rw [hc i hi] at hx
    rw [hc j hj] at hy
    exact h i j x hx y hy hxy

/-- A change of detectors that binds none. -/
theorem setDets_buffers (s : State) (v : Vector Detector 8) (h : ∀ d, ∀ x ∈ (v.get d).binding, x ∈ (s.det d).binding) :
    BuffersKept s { s with dets := v } where
  queue := id
  deskew := id
  lines := id
  count := id
  binding law := ⟨BoundOnce.sub law.1 h, law.2⟩

theorem mapDets_buffers (s : State) (f : Nat → Detector → Detector) (h : ∀ n d, (f n d).binding = d.binding) :
    BuffersKept s { s with dets := mapVec f s.dets } := setDets_buffers s _ fun d x hx => by
  rw [mapVec_get, h] at hx
  exact hx

theorem updateDets_buffers (s : State) (f : Idx8 → Detector → Detector)
    (h : ∀ d, ∀ x ∈ (f d (s.det d)).binding, x ∈ (s.det d).binding) : BuffersKept s (s.updateDets f) := by
  refine (setDets_buffers s (s.updateDets f).dets fun d x hx => ?_).trans (post_buffers _ _)
  have read : (s.updateDets f).dets.get d = f d (s.det d) := det_updateDets s f d
  rw [read] at hx
  exact h d x hx

/-- A change of keyers that binds none. -/
theorem setKeyers_buffers (s : State) (v : Vector Keyer 8) (h : ∀ k, ∀ x ∈ (v.get k).binding, x ∈ (s.keyer k).binding) :
    BuffersKept s { s with keyers := v } where
  queue := id
  deskew := id
  lines := id
  count := id
  binding law := ⟨law.1, BoundOnce.sub law.2 h⟩

theorem mapKeyers_buffers (s : State) (f : Nat → Keyer → Keyer) (h : ∀ n, (f n.val (s.keyer n)).binding = (s.keyer n).binding) :
    BuffersKept s { s with keyers := mapVec f s.keyers } := setKeyers_buffers s _ fun k x hx => by
  rw [mapVec_get] at hx
  exact (h k) ▸ hx

theorem setKeyer_buffers (s : State) (k : Idx8) {u : Keyer} (h : ∀ x ∈ u.binding, x ∈ (s.keyer k).binding) :
    BuffersKept s (s.setKeyer k u) := by
  refine setKeyers_buffers s (setAt s.keyers k u) fun j x hx => ?_
  rw [setAt_get] at hx
  split at hx
  · rename_i e
    exact e ▸ h x hx
  · exact hx

/-- The units of records that return to FREE are unbound (R44). -/
theorem freeRecords_buffers (s : State) (gone : RecId → Bool) : BuffersKept s (s.freeRecords gone) := by
  have records : BuffersKept s (s.updateRecords fun id r => if gone id then .freeRecord else r) := updateRecords_buffers s _
  refine ⟨records.queue, records.deskew, records.lines, records.count, fun law => ⟨BoundOnce.sub law.1 fun d x hx => ?_,
    BoundOnce.sub law.2 fun k x hx => ?_⟩⟩
  · rw [det_freeRecords] at hx
    split at hx
    · cases hx
    · exact hx
  · rw [keyer_freeRecords] at hx
    split at hx
    · cases hx
    · exact hx

/-! ### Detectors and keyers -/

theorem restartDets_buffers (s : State) (p : Port) : BuffersKept s (s.restartDets p) := by
  unfold State.restartDets
  refine mapDets_buffers s _ fun _ d => ?_
  split
  · split
    · exact restart_binding d
    · rfl
  · rfl

theorem slipNotice_buffers (s : State) (p : Port) : BuffersKept s (s.slipNotice p) := (restartDets_buffers _ p).after rfl

theorem sweptDet_binding (s : State) (d : Detector) : (s.sweptDet d).binding = d.binding := by
  unfold State.sweptDet
  split
  · rfl
  split
  · split
    · rfl
    · rfl
  · rfl

theorem sweep_buffers (s : State) : BuffersKept s s.sweep := by
  rw [sweep_eq]
  exact updateDets_buffers s _ fun d x hx => sweptDet_binding s (s.det d) ▸ hx

theorem afterHanded_binding (s : State) (n : Idx8) : (s.afterHanded n).binding = (s.det n).binding := by
  unfold State.afterHanded
  dsimp only
  split
  · rfl
  · exact frame_binding _ _ _

theorem takeHanded_buffers (s : State) (n : Idx8) : BuffersKept s (s.takeHanded n) := by
  unfold State.takeHanded
  refine updateDets_buffers s _ fun d x hx => ?_
  split at hx
  · rename_i e
    subst e
    rwa [afterHanded_binding] at hx
  · exact hx

theorem detFrame_binding (s : State) (res : Pair ReadResult) (defer : BitVec 8) (far : RecId → FarStatus) (n : Idx8)
    (d : Detector) : (s.detFrame res defer far n d).binding = d.binding := by
  unfold State.detFrame
  split
  · rfl
  dsimp only
  split
  · rfl
  split
  · rfl
  · exact frame_binding _ _ _

theorem detFrames_buffers (s : State) (res : Pair ReadResult) (defer : BitVec 8) (far : RecId → FarStatus) :
    BuffersKept s (s.detFrames res defer far) := by
  unfold State.detFrames
  refine updateDets_buffers s _ fun d x hx => ?_
  rwa [detFrame_binding] at hx

theorem keyerInGuard_binding (k : Keyer) (req : Bool) : (k.inGuard req).binding = k.binding := by
  unfold Keyer.inGuard
  split
  · rfl
  · rfl

theorem keyerInCommand_binding (k : Keyer) (req : Bool) : (k.inCommand req).binding = k.binding := by
  unfold Keyer.inCommand
  split
  · split
    · rfl
    · rfl
  · rfl

theorem keyerInLockout_binding (k : Keyer) (req : Bool) : (k.inLockout req).binding = k.binding := by
  unfold Keyer.inLockout
  split
  · rfl
  · exact keyerInGuard_binding k req

/-- No frame event binds a keyer, or leaves one without its binding. -/
theorem keyerFrame_binding (k : Keyer) (level : Option Bool) : (k.frame level).binding = k.binding := by
  unfold Keyer.frame
  dsimp only
  split
  · rfl
  · exact keyerInGuard_binding _ _
  · exact keyerInCommand_binding _ _
  · exact keyerInLockout_binding _ _

theorem takeKeyer_buffers (s : State) (n : Idx8) : BuffersKept s (s.takeKeyer n) := by
  unfold State.takeKeyer
  refine setKeyer_buffers s n fun x hx => ?_
  have same : (s.keyerAfter n).binding = (s.keyer n).binding := keyerFrame_binding _ _
  exact same ▸ hx

theorem keyerFrames_buffers (s : State) : BuffersKept s s.keyerFrames := by
  unfold State.keyerFrames
  refine mapKeyers_buffers s _ fun n => ?_
  split
  · rfl
  · rw [unitAt_val]
    exact keyerFrame_binding _ _

/-! ### The station timing unit (R68) -/

theorem stuReact_items (s : State) : s.stuReact.bufferItems = s.bufferItems := (stuReact_only s).bufferItems

theorem stuStart_items (s : State) : s.stuStart.bufferItems = s.bufferItems := by
  unfold State.stuStart
  split
  · rfl
  · exact ((stuCount_only s).trans (stuReact_only _)).bufferItems

theorem refSeen_items (s : State) : s.refSeen.bufferItems = s.bufferItems := stuReact_items _

theorem refSilent_items (s : State) : s.refSilent.bufferItems = s.bufferItems := by
  unfold State.refSilent
  split
  · split
    · exact stuReact_items _
    · rfl
  · rfl

theorem changeTrib_items (s : State) (n : Idx8) (p : Trib) : (s.changeTrib n p).bufferItems = s.bufferItems := by
  unfold State.changeTrib
  refine (stuReact_items _).trans ?_
  cases (s.trib n).sameShown p <;> rfl

/-! ### The deskew stores (R103, R104) -/

theorem setDeskew_buffers (s : State) (k : Trunk) {d : Deskew} (h : (s.deskew k).frames.length ≤ 64 → d.frames.length ≤ 64) :
    BuffersKept s (s.setDeskew k d) where
  queue := id
  deskew law j := by
    by_cases hj : j = k
    · subst hj
      rw [deskew_setDeskew_self]
      exact h (law j)
    · rw [eq_otherTrunk hj, deskew_setDeskew_other]
      exact law _
  lines := id
  count := id
  binding := id

theorem jump_buffers (s : State) (k : Trunk) : BuffersKept s (s.jump k) := (slipNotice_buffers _ _).after rfl

theorem anchored_buffers (s : State) (k : Trunk) : BuffersKept s (s.setDeskew k .anchored) :=
  setDeskew_buffers s k fun _ => Nat.zero_le _

theorem anchor_buffers (s : State) (k : Trunk) : BuffersKept s (s.anchor k) := by
  unfold State.anchor
  exact .ite ((anchored_buffers s k).trans (jump_buffers _ k)) ((anchored_buffers s k).then rfl)

theorem reanchor_buffers (s : State) : BuffersKept s s.reanchor := by
  unfold State.reanchor
  exact .ite .refl (.ite (anchor_buffers s _) (.due (anchor_buffers s _)))

theorem deskewLeave_buffers (s : State) (k : Trunk) : BuffersKept s (s.deskewLeave k) :=
  (setDeskew_buffers s k (d := .reset) fun _ => Nat.zero_le _).then rfl

theorem deskewEnter_buffers (s : State) (k : Trunk) : BuffersKept s (s.deskewEnter k) := by
  unfold State.deskewEnter
  exact .ite (setDeskew_buffers s k fun _ => Nat.zero_le _) (anchor_buffers s k)

theorem trunkSettle_buffers (s old : State) : BuffersKept s (s.trunkSettle old) := by
  unfold State.trunkSettle State.trunkFlags State.syncCopies
  exact ((raiseIf_buffers s _ _).trans (raiseIf_buffers _ _ _)).trans ((updateRecords_buffers _ _).then (stuReact_items _))

theorem syncCopies_buffers (s : State) : BuffersKept s s.syncCopies := updateRecords_buffers s _

/-- A full store loses its oldest frame before a frame joins it (R103). -/
theorem push_frames {d : Deskew} (f : DFrame) (h : d.frames.length ≤ 64) : (d.push f).frames.length ≤ 64 := by
  unfold Deskew.push Config.deskewFrames
  simp only [List.length_append, List.length_cons, List.length_nil]
  split
  · rw [List.length_drop]
    omega
  · omega

theorem anchorPosition_lt (q skew : Nat) (beforeRead : Bool) : anchorPosition q skew beforeRead < 248 :=
  Nat.mod_lt _ (by decide)

theorem setReadPos_buffers (s : State) {n : Nat} (h : n < 248) : BuffersKept s { s with ps := { s.ps with readPos := n } } where
  queue := id
  deskew := id
  lines := id
  count law := ⟨law.1, h, law.2.2⟩
  binding := id

theorem arrive_buffers (s : State) (k : Trunk) (f : DFrame) (b : Bool) : BuffersKept s (s.arrive k f b) := by
  unfold State.arrive
  dsimp only
  split
  · have joined : BuffersKept s (s.setDeskew k { (s.deskew k).push f with hold := .until f.seq }) :=
      setDeskew_buffers s k (push_frames f)
    exact joined.trans (setReadPos_buffers _ (anchorPosition_lt _ _ _))
  · exact setDeskew_buffers s k (push_frames f)

theorem handOn_buffers (s : State) (k : Trunk) (seq : Nat) (header payload : List Byte) (b : Bool) :
    BuffersKept s (s.handOn k seq header payload b) := (arrive_buffers _ k _ b).after rfl

theorem loseWindow_buffers (s : State) (k : Trunk) : BuffersKept s (s.loseWindow k) := by
  unfold State.loseWindow
  extract_lets _ s1 d s2
  have ported : BuffersKept s s1 := .of_items rfl
  have left : BuffersKept s s2 :=
    ported.trans (setDeskew_buffers s1 k (d := { d with state := .outOfWindow, missing := 0, present := 0 }) fun h => h)
  exact (BuffersKept.ite left (left.trans (anchor_buffers s2 k))).then rfl

theorem regainWindow_buffers (s : State) (k : Trunk) : BuffersKept s (s.regainWindow k) :=
  (setDeskew_buffers s k (d := { s.deskew k with state := .inWindow, missing := 0, present := 0 }) fun h => h).then rfl

/-- A read takes frames off a store, and adds none (R104). -/
theorem afterRead_frames (d : Deskew) (r : Nat) (res : ReadResult) : (d.afterRead r res).frames.length ≤ d.frames.length := by
  unfold Deskew.afterRead
  split
  · exact Nat.le_refl _
  · exact Nat.le_refl _
  · exact List.length_filter_le _ _
  · have drop := List.length_dropWhile_le (fun f : DFrame => f.seq != r) d.frames
    rw [List.length_drop]
    omega

theorem count_frames (d : Deskew) (res : ReadResult) : (d.count res).frames = d.frames := by
  unfold Deskew.count
  split <;> rfl

theorem applyRead_buffers (s : State) (k : Trunk) (res : ReadResult) : BuffersKept s (s.applyRead k res) := by
  unfold State.applyRead
  extract_lets s1
  have read : BuffersKept s s1 := setDeskew_buffers s k (Nat.le_trans (afterRead_frames _ _ _))
  have counted : BuffersKept s1 (s1.setDeskew k ((s1.deskew k).count res)) :=
    setDeskew_buffers s1 k fun h => by rwa [count_frames]
  exact read.trans (.ite (loseWindow_buffers s1 k) (.ite (regainWindow_buffers s1 k) counted))

theorem applyReads_buffers (s : State) (res : Pair ReadResult) : BuffersKept s (s.applyReads res) := by
  unfold State.applyReads
  exact .ite ((applyRead_buffers s _ _).trans (applyRead_buffers _ _ _))
    ((applyRead_buffers s _ _).trans (applyRead_buffers _ _ _))

theorem psRead_buffers (s : State) (res : Pair ReadResult) : BuffersKept s (s.psRead res) := by
  unfold State.psRead
  extract_lets pos s1 usable s2
  have read : BuffersKept s s1 := applyReads_buffers s res
  have received : BuffersKept s1 s2 := (updateRecords_buffers s1 fun _ r => r.readWork pos usable res).then rfl
  exact (read.trans received).trans (setReadPos_buffers s2 (Nat.mod_lt _ (by decide)))

/-! ### Ports -/

theorem changePort_buffers (s : State) (k : Trunk) (p : TrunkPort) : BuffersKept s (s.changePort k p) := by
  unfold State.changePort
  extract_lets left s1
  have gone : BuffersKept s1 (if left then (s1.deskewLeave k).reanchor else s1) :=
    .due ((deskewLeave_buffers s1 k).trans (reanchor_buffers _))
  have ported : BuffersKept s s1 := .of_items rfl
  exact (ported.trans gone).trans (trunkSettle_buffers _ s)

theorem configureTrunks_buffers (s : State) (ea eb : Bool) (skew : Nat) (code : Byte) :
    BuffersKept s (s.configureTrunks ea eb skew code) := by
  unfold State.configureTrunks
  extract_lets pa pb leaves s1 s2 s3
  have leftA : BuffersKept s s2 := (BuffersKept.due (deskewLeave_buffers s1 .a)).after rfl
  have leftB : BuffersKept s2 s3 := .due (deskewLeave_buffers s2 .b)
  exact ((leftA.trans leftB).trans (.due (reanchor_buffers s3))).trans (trunkSettle_buffers _ s)

theorem frameReceived_buffers (s : State) (t : Idx8) (bits : List Bool) : BuffersKept s (s.frameReceived t bits) := by
  unfold State.frameReceived
  extract_lets p frame s1
  have port : BuffersKept s s1 := .of_items (changeTrib_items s t _)
  exact .ite (port.trans (slipNotice_buffers s1 _)) port

/-! ### The multiframe start and the station frame (R68) -/

theorem countdown_buffers (s : State) : BuffersKept s s.countdown := (freeRecords_buffers _ _).after rfl

theorem expire_buffers (s : State) (id : RecId) : BuffersKept s (s.expire id) := (freeRecords_buffers s _).then rfl

theorem flip_buffers (s : State) : BuffersKept s s.flip := by
  unfold State.flip
  extract_lets gone s1 cells _ s2 s3
  have records : BuffersKept s (s.updateRecords fun _ r => s.flipRecord r).installNext := (updateRecords_buffers s _).then rfl
  have freed : BuffersKept s s1 := records.trans (freeRecords_buffers _ gone)
  have cleared : BuffersKept s s2 := freed.then rfl
  exact (cleared.trans (sweep_buffers s2)).then rfl

/-- A start returns the count to 0, in a station that has started. -/
theorem multiframeStart_buffers (s : State) : BuffersKept s s.multiframeStart := by
  have counted : BuffersKept s s.stuStart.countdown := (countdown_buffers _).after (stuStart_items s)
  exact ⟨counted.queue, counted.deskew, counted.lines,
    fun law => ⟨Nat.zero_lt_succ _, (counted.count law).2.1, fun _ => ⟨rfl, rfl⟩⟩, counted.binding⟩

/-- The count advances only short of a boundary, so that it stays below 248. -/
theorem newFrame_buffers (s : State) : BuffersKept s s.newFrame := by
  unfold State.newFrame
  split
  · extract_lets s1 s2
    have start : BuffersKept s s1 := .ite .refl (multiframeStart_buffers s)
    have flipped : BuffersKept s s2 := start.trans (.due (flip_buffers s1))
    refine ⟨flipped.queue, flipped.deskew, flipped.lines, fun law => ?_, flipped.binding⟩
    obtain ⟨count, readPos, -⟩ := flipped.count law
    exact ⟨count, readPos, nofun⟩
  · rename_i inside
    refine ⟨id, id, id, fun law => ?_, id⟩
    obtain ⟨count, readPos, -⟩ := law
    simp only [State.atBoundary, Bool.not_eq_true, Bool.or_eq_false_iff, decide_eq_false_iff_not] at inside
    obtain ⟨⟨-, last⟩, begun⟩ := inside
    refine ⟨?_, readPos, fun h => ?_⟩
    · have last : s.stu.count + 1 ≠ 248 := last
      have next : s.stu.count + 1 < 248 := by omega
      exact next
    · exact absurd (begun.symm.trans h) Bool.false_ne_true

theorem flush_buffers (s : State) : BuffersKept s s.flush := by
  have taken : BuffersKept s (s.updateDets fun n d => if d.handed.isSome then s.afterHanded n else d) := by
    refine updateDets_buffers s _ fun d x hx => ?_
    split at hx
    · rwa [afterHanded_binding] at hx
    · exact hx
  exact taken.then rfl

theorem opening_buffers (s : State) (inp : FrameIn) : BuffersKept s (s.opening inp) := by
  unfold State.opening
  extract_lets s1
  have slips : BuffersKept s1 (if inp.slipsFirst then s1.repeating.foldl (fun s t => s.slipNotice (.trib t)) s1 else s1) :=
    .due (.foldl (fun s t => slipNotice_buffers s (.trib t)) _ _)
  exact ((flush_buffers s).trans slips).trans (newFrame_buffers _)

theorem xceWork_buffers (s : State) (res : Pair ReadResult) : BuffersKept s (s.xceWork res) := by
  have sourced : BuffersKept s (s.writeSources res) := updateRecords_buffers s _
  have marked := mapKeyers_buffers (s.writeSources res) (fun _ k => (s.writeSources res).markDelivered k) fun n =>
    (markDelivered_keeps _ _).1
  exact (sourced.trans marked).then rfl

theorem filled_buffers (s : State) (inp : FrameIn) : BuffersKept s (s.filled inp) := by
  unfold State.filled
  have supplied : BuffersKept s (s.psRead s.reads).keyerFrames.readStores :=
    ((psRead_buffers s s.reads).trans (keyerFrames_buffers _)).then rfl
  exact (supplied.trans (xceWork_buffers _ _)).trans (.foldl (g := fun s t => s.countSlips (.trib t))
    (fun _ _ => .of_items rfl) _ _)

/-- The detectors' part of a frame, from the state `s` in which its traffic begins to the state `w` of the work up to them. -/
theorem unitWork_buffers {w : State} (h : BuffersKept s w) (res : Pair ReadResult) (repeats : List Idx8) (inp : FrameIn) :
    BuffersKept s (w.unitWork s res repeats inp) := by
  unfold State.unitWork
  split
  · have before : BuffersKept s { w with dets := s.dets } :=
      ⟨h.queue, h.deskew, h.lines, h.count, fun law => ⟨law.1, (h.binding law).2⟩⟩
    exact ((before.trans (detFrames_buffers _ _ _ _)).trans (.foldl restartDets_buffers _ _)).trans (sweep_buffers _)
  · exact ((h.trans (.foldl (fun s t => restartDets_buffers s (.trib t)) _ _)).trans (sweep_buffers _)).trans
      (detFrames_buffers _ _ _ _)

theorem traffic_buffers (s : State) (inp : FrameIn) : BuffersKept s (s.traffic inp) :=
  (unitWork_buffers (filled_buffers s inp) _ _ _).then rfl

theorem judge_buffers (s : State) (inp : FrameIn) : BuffersKept s (s.judge inp) := by
  unfold State.judge
  extract_lets trib s1 s2 s3
  have tribs : BuffersKept s s1 := .foldl (fun s t => .of_items (changeTrib_items s t _)) _ _
  have trunks : BuffersKept s1 s3 := (changePort_buffers s1 _ _).trans (changePort_buffers s2 _ _)
  exact (tribs.trans trunks).trans (.ite (.of_items (refSeen_items s3)) (.of_items (refSilent_items s3)))

end Sys2Proof.Machine
end

section
/-! SUPPORT. The commands keep the laws on the queue, the deskew stores, the KEY_IN lines, the counts and the bindings: one lemma
for each command's own work that touches their items, one arm for each command. -/

namespace Sys2Proof.Machine

variable {s : State}

/-! ### Transactions -/

/-- A command's own work keeps these laws in every state. -/
def BodyBuffers (f : State → Code × State) : Prop := ∀ s, BuffersKept s (f s).2

theorem transact_buffers {ps : List Byte} {exempt responds : Bool} {own : Option (State → Code × State)}
    (h : ∀ f, own = some f → BodyBuffers f) : BuffersKept s (transact ps exempt responds own s) := by
  obtain e | ⟨c, e⟩ | ⟨f, hf, e⟩ := transact_cases ps exempt responds own s
  · rw [e]
    exact .of_items rfl
  · rw [e]
    exact .of_items rfl
  · rw [e]
    exact (h f hf s).then rfl

theorem ranged_buffers {α : Type} (a : Option α) {f : α → State → Code × State} (h : ∀ v, BodyBuffers (f v)) :
    BodyBuffers (ranged a f) := by
  intro s
  unfold ranged
  split
  · exact .refl
  · exact h _ s

theorem answering_buffers (r : State → List Byte) : BodyBuffers (answering r) := fun _ => .of_items rfl

/-! ### The command port and the lines -/

theorem nextAttentionBody_buffers : BodyBuffers nextAttentionBody := by
  intro s
  unfold nextAttentionBody
  split
  · exact .refl
  · rename_i rest hq
    refine ⟨fun law => ?_, id, id, id, id⟩
    have nodup : rest.Nodup := by
      have queue := law.1
      rw [hq] at queue
      exact (List.nodup_cons.1 queue).2
    exact ⟨nodup, queue_length_le nodup⟩

theorem setMaskBody_buffers (a b c : Byte) : BodyBuffers (setMaskBody a b c) := by
  intro s
  unfold setMaskBody
  split
  · exact .of_items rfl
  · exact .refl

theorem setDet_buffers (s : State) (d : Idx8) {u : Detector} (h : u.binding = (s.det d).binding) :
    BuffersKept s { s with dets := setAt s.dets d u } := setDets_buffers s _ fun e x hx => by
  rw [setAt_get] at hx
  split at hx
  · rename_i e
    subst e
    rwa [h] at hx
  · exact hx

theorem clearAll_buffers (s : State) : BuffersKept s s.clearAll := by
  have dets : BuffersKept s { s with dets := mapVec (fun _ d => d.clearCounters) s.dets } := mapDets_buffers s _ fun _ _ => rfl
  exact (dets.trans (mapKeyers_buffers _ (fun _ k => k.clearCounters) fun _ => rfl)).then rfl

/-- The six kinds of CLEAR COUNTERS (R174). -/
theorem clearCountersBody_buffers (kind index : Byte) : BodyBuffers (clearCountersBody kind index) := by
  intro s
  unfold clearCountersBody
  split
  · exact ranged_buffers _ (fun _ _ => .of_items rfl) s
  · exact ranged_buffers _ (fun _ _ => .of_items rfl) s
  · exact .of_items rfl
  · exact ranged_buffers _ (fun d s => setDet_buffers s d (u := (s.det d).clearCounters) rfl) s
  · exact ranged_buffers _ (fun k s => setKeyer_buffers s k (u := (s.keyer k).clearCounters) fun _ hx => hx) s
  · split
    · exact clearAll_buffers s
    · exact .refl
  · exact .refl

theorem keyInTaken_eq_false {n u : Idx8} : s.keyInTaken n u = false ↔
    ∀ i, i ≠ n → (s.line i).function = .keyIn → (s.line i).unit ≠ u := by
  simp [State.keyInTaken, allUnits]

/-- A line is written, and is KEY_IN for a keyer only if no other line is (R157). -/
theorem setLine_buffers (s : State) (n : Idx8) {l : Line} (h : l.function = .keyIn → s.keyInTaken n l.unit = false) :
    BuffersKept s (s.setLine n l) := by
  have other (i : Idx8) (hi : i ≠ n) : (s.setLine n l).line i = s.line i := by rw [line_setLine, if_neg (Ne.symm hi)]
  refine ⟨id, id, fun law i j hi hj hu => ?_, id, id⟩
  by_cases hin : i = n <;> by_cases hjn : j = n
  · rw [hin, hjn]
  · rw [hin, line_setLine_self] at hi hu
    rw [other j hjn] at hj hu
    exact absurd hu.symm (keyInTaken_eq_false.1 (h hi) j hjn hj)
  · rw [hjn, line_setLine_self] at hj hu
    rw [other i hin] at hi hu
    exact absurd hu (keyInTaken_eq_false.1 (h hj) i hin hi)
  · rw [other i hin] at hi hu
    rw [other j hjn] at hj hu
    exact law i j hi hj hu

theorem gainLine_buffers (s : State) (k : Idx8) : BuffersKept s (s.gainLine k) := setKeyer_buffers s k fun _ hx => hx

theorem lineConfigBody_buffers (a b c d : Byte) : BodyBuffers (lineConfigBody a b c d) := by
  intro s
  unfold lineConfigBody
  split
  · rename_i n f low u _ _ _ _
    split
    · exact .refl
    · rename_i free
      have written : BuffersKept s (s.setLine n { s.line n with function := f, activeLow := low, unit := u }) :=
        setLine_buffers s n fun hf => by simpa [show f = .keyIn from hf] using free
      exact .ite (written.trans (gainLine_buffers _ u)) written
  · exact .refl

theorem lineWriteBody_buffers (b : Byte) : BodyBuffers (lineWriteBody b) := by
  intro s
  have line (n : Idx8) : (lineWriteBody b s).2.line n = { s.line n with latch := b.getLsbD n.val } := mapVec_get ..
  refine ⟨id, id, fun law m n hm hn hu => ?_, id, id⟩
  rw [line] at hm hn hu
  rw [line] at hu
  exact law m n hm hn hu

theorem alarmMaskBody_buffers (b : Byte) : BodyBuffers (alarmMaskBody b) := ranged_buffers _ fun _ _ => .of_items rfl

theorem wireLevel_buffers (s : State) (n : Idx8) (w : Wiring) : BuffersKept s (s.wireLevel n w) := by
  have function (m : Idx8) : ((s.wireLevel n w).line m).function = (s.line m).function := by
    rw [line_wireLevel]
    split
    · rename_i e
      rw [e]
    · rfl
  have unit (m : Idx8) : ((s.wireLevel n w).line m).unit = (s.line m).unit := by
    rw [line_wireLevel]
    split
    · rename_i e
      rw [e]
    · rfl
  refine ⟨id, id, fun law i j hi hj hu => ?_, id, id⟩
  rw [function] at hi hj
  rw [unit, unit] at hu
  exact law i j hi hj hu

/-! ### The circuit table -/

theorem writeRecord_buffers (s : State) (id : RecId) (r : Record) (attention : Bool) :
    BuffersKept s (s.writeRecord id r attention) := (post_buffers _ _).after rfl

theorem openBody_buffers (a b : Byte) : BodyBuffers (openBody a b) := by
  intro s
  unfold openBody
  dsimp only
  split
  · exact .refl
  · exact ranged_buffers _ (fun _ s => writeRecord_buffers s _ _ _) s

theorem discardBody_buffers (a : Byte) : BodyBuffers (discardBody a) := by
  intro s
  unfold discardBody
  dsimp only
  split
  · exact .refl
  · exact freeRecords_buffers s _

theorem setEndBody_buffers (a b c : Byte) (l : List Byte) : BodyBuffers (setEndBody a b c l) := by
  intro s
  unfold setEndBody
  dsimp only
  split
  · exact .refl
  split
  · split
    · exact .refl
    split
    · exact writeRecord_buffers s _ _ _
    split
    · exact .refl
    · exact .of_items rfl
  · exact .refl

theorem setFieldBody_buffers (a b c d : Byte) : BodyBuffers (setFieldBody a b c d) := by
  intro s
  unfold setFieldBody
  dsimp only
  split
  · exact .refl
  split
  · exact .refl
  split
  · split
    · exact .refl
    split
    · exact .refl
    split
    · exact .refl
    · exact .of_items rfl
  · split
    · exact .refl
    · exact .of_items rfl

theorem activateBody_buffers (a : Byte) : BodyBuffers (activateBody a) := by
  intro s
  unfold activateBody
  dsimp only
  split
  · exact .refl
  split
  · exact .refl
  split
  · exact .refl
  split
  · exact .refl
  · exact .of_items rfl

theorem stageBody_buffers (op : StagedOp) (allowed : RecState → Bool) (a : Byte) : BodyBuffers (stageBody op allowed a) := by
  intro s
  unfold stageBody
  dsimp only
  split
  · exact .refl
  split
  · exact .refl
  · exact .of_items rfl

theorem revokeBody_buffers (a : Byte) : BodyBuffers (revokeBody a) := by
  intro s
  unfold revokeBody
  dsimp only
  split
  · exact .refl
  split
  · exact .refl
  · exact .of_items rfl

theorem nextRecordBody_buffers : BodyBuffers nextRecordBody := by
  intro s
  unfold nextRecordBody
  dsimp only
  split
  · exact .of_items rfl
  split
  · exact .of_items rfl
  · exact .of_items rfl
  · exact .of_items rfl

theorem commitBody_buffers : BodyBuffers commitBody := by
  intro s
  unfold commitBody
  split
  · exact .refl
  split
  · exact .of_items rfl
  · exact .of_items rfl

theorem abortBody_buffers : BodyBuffers abortBody := by
  intro s
  unfold abortBody
  split
  · exact .of_items rfl
  · exact .refl

theorem mapQueryBody_buffers (a b : Byte) : BodyBuffers (mapQueryBody a b) := by
  intro s
  unfold mapQueryBody
  split
  · exact .refl
  split
  · exact answering_buffers _ s
  · exact .refl

/-! ### Ports and station timing -/

theorem tribConfigBody_buffers (t : Byte) (c : Option TribConfig) : BodyBuffers (tribConfigBody t c) := by
  intro s
  unfold tribConfigBody
  split
  · split
    · exact .refl
    split
    · exact .refl
    · exact .of_items (changeTrib_items s _ _)
  · exact .refl

theorem tribConfigShape_buffers (ps : List Byte) : ∀ f, tribConfigShape ps = some f → BodyBuffers f := by
  unfold tribConfigShape
  split
  · rintro _ ⟨⟩
    exact tribConfigBody_buffers _ _
  · nofun

theorem timingConfigure_buffers (a b : Byte) (l : List Byte) : BodyBuffers (timingConfigure a b l) := by
  intro s
  unfold timingConfigure
  split
  · split
    · exact .refl
    · exact .of_items (stuReact_items _)
  · exact .refl

theorem trunkConfigBody_buffers (a b c d : Byte) : BodyBuffers (trunkConfigBody a b c d) := by
  intro s
  unfold trunkConfigBody
  split
  · split
    · exact .refl
    · exact configureTrunks_buffers s _ _ _ _
  · exact .refl

theorem recentreBody_buffers (b : Byte) : BodyBuffers (recentreBody b) := ranged_buffers _ fun k s => by
  split
  · exact .refl
  · exact ((anchored_buffers s k).trans (jump_buffers _ k)).trans (trunkSettle_buffers _ s)

/-! ### Units (R136, R137, R149) -/

theorem bindRefusal_none {r : Record} {bound : Bool} (h : bindRefusal r bound = none) : bound = false := by
  cases bound with
  | false => rfl
  | true =>
    unfold bindRefusal at h
    split at h
    · cases h
    split at h
    · cases h
    · cases h

theorem fresh_of_find?_isSome {b : Idx8 → Option (RecId × Side)} {id : RecId}
    (h : (allUnits.find? fun i => boundTo (b i) id).isSome = false) (i : Idx8) : boundTo (b i) id = false := by
  rw [Option.isSome_eq_false_iff, Option.isNone_iff_eq_none, List.find?_eq_none] at h
  exact Bool.eq_false_iff.2 (h i (List.mem_finRange i))

/-- DET BIND binds the one detector, to a record without one (R136). -/
theorem detBindBody_buffers (a b c : Byte) : BodyBuffers (detBindBody a b c) := by
  intro s
  unfold detBindBody
  split
  · rename_i d dir _ _
    dsimp only
    split
    · exact .refl
    · rename_i free
      obtain ⟨fresh, -⟩ := Bool.or_eq_false_iff.1 (bindRefusal_none free)
      let f := fun (i : Idx8) (u : Detector) => if i = d then { u.freed.block with binding := some (readId b, dir) } else u
      have posted : QueueLaw s → QueueLaw (s.updateDets f) := (post_buffers { s with dets := (s.updateDets f).dets } _).queue
      refine ⟨posted, id, id, id, fun law => ⟨BoundOnce.bind law.1 (fresh_of_find?_isSome fresh) (d := d) (dir := dir) ?_ fun i hi => ?_, law.2⟩⟩
      · rw [det_updateDets, if_pos rfl]
      · rw [det_updateDets, if_neg hi]
  · exact .refl

theorem detUnbindBody_buffers (b : Byte) : BodyBuffers (detUnbindBody b) := ranged_buffers _ fun d s => by
  split
  · exact .refl
  · exact .refl
  · exact .refl
  · refine updateDets_buffers s (fun i u => if i = d then u.freed else u) fun e x hx => ?_
    split at hx
    · cases hx
    · exact hx

theorem detConfigBody_buffers (b : Byte) (c : Option DetConfig) : BodyBuffers (detConfigBody b c) := by
  intro s
  unfold detConfigBody
  split
  · split
    · exact .refl
    · exact .refl
    · exact .refl
    · exact setDet_buffers s _ rfl
  · exact .refl

theorem detConfigShape_buffers (ps : List Byte) : ∀ f, detConfigShape ps = some f → BodyBuffers f := by
  unfold detConfigShape
  split
  · rintro _ ⟨⟩
    exact detConfigBody_buffers _ _
  · nofun

/-- KEY BIND binds the one keyer, to a record without one (R149). -/
theorem keyBindBody_buffers (a b c : Byte) : BodyBuffers (keyBindBody a b c) := by
  intro s
  unfold keyBindBody
  split
  · rename_i k dir _ _
    dsimp only
    split
    · exact .refl
    · rename_i free
      obtain ⟨fresh, -⟩ := Bool.or_eq_false_iff.1 (bindRefusal_none free)
      refine ⟨id, id, id, id, fun law => ⟨law.1, BoundOnce.bind law.2 (fresh_of_find?_isSome fresh) (d := k) (dir := dir) ?_ fun i hi => ?_⟩⟩
      · rw [keyer_setKeyer_self]
      · rw [keyer_setKeyer, if_neg (Ne.symm hi)]
  · exact .refl

theorem keyUnbindBody_buffers (b : Byte) : BodyBuffers (keyUnbindBody b) := ranged_buffers _ fun k s => by
  split
  · exact .refl
  · exact .refl
  · exact .refl
  · exact setKeyer_buffers s k nofun

theorem keyConfigBody_buffers (b : Byte) (c : Option KeyConfig) : BodyBuffers (keyConfigBody b c) := by
  intro s
  unfold keyConfigBody
  split
  · split
    · exact .refl
    · exact .refl
    · exact setKeyer_buffers s _ fun _ hx => hx
  · exact .refl

theorem keyConfigShape_buffers (ps : List Byte) : ∀ f, keyConfigShape ps = some f → BodyBuffers f := by
  unfold keyConfigShape
  split
  · rintro _ ⟨⟩
    exact keyConfigBody_buffers _ _
  · nofun

theorem keyTestBody_buffers (a b c : Byte) : BodyBuffers (keyTestBody a b c) := ranged_buffers _ fun k s => by
  dsimp only
  split
  · exact .refl
  split
  · exact .refl
  split
  · exact .refl
  · exact setKeyer_buffers s k fun _ hx => hx

/-! ### Resets (R168, R169) -/

theorem resetBlocks_buffers (s : State) : BuffersKept s s.resetBlocks :=
  ⟨fun _ => ⟨.nil, Nat.zero_le _⟩, fun _ => deskewLaw_reset, id, fun law => ⟨law.1, Nat.zero_lt_succ _, law.2.2⟩,
    fun _ => bindingLaw_reset⟩

theorem softResetBody_buffers : BodyBuffers softResetBody := fun s =>
  ((resetBlocks_buffers s).then rfl).then (stuReact_items _)

theorem execHardwareReset_buffers (s : State) : ∃ t, execHardwareReset s = .next t ∧ BuffersKept s t := by
  refine ⟨_, rfl, ⟨fun _ => ⟨.nil, Nat.zero_le _⟩, fun _ => deskewLaw_reset, fun _ m n hm _ _ => ?_,
    fun _ => ⟨Nat.zero_lt_succ _, Nat.zero_lt_succ _, nofun⟩, fun _ => bindingLaw_reset⟩⟩
  simp only [State.line, mapVec_get] at hm
  cases hm

/-! ### Every command -/

theorem exec_buffers (c : Instr) : ∃ t, exec c s = .next t ∧ BuffersKept s t := by
  have changed (t : Idx8) (p : Trib) : BuffersKept s (s.changeTrib t p) := .of_items (changeTrib_items s t p)
  have started : BuffersKept s s.stuStart := .of_items (stuStart_items s)
  cases c with
  | transactionStart =>
    refine ⟨_, rfl, ?_⟩
    split
    · exact .ite (.of_items rfl) (.of_items rfl)
    · exact .refl
  | emptyTransaction => exact ⟨_, rfl, .of_items rfl⟩
  | unknownCommand code ps => exact ⟨_, rfl, .ite .refl (.ite (.of_items rfl) (.of_items rfl))⟩
  | nop ps => exact ⟨_, rfl, transact_buffers (noParam_all fun _ => .refl)⟩
  | fetch ps => exact ⟨_, rfl, .ite (.of_items rfl) (.of_items rfl)⟩
  | softReset ps =>
    refine ⟨_, rfl, transact_buffers fun f hf => ?_⟩
    split at hf
    · cases hf
      exact softResetBody_buffers
    · cases hf
  | readFlags ps => exact ⟨_, rfl, transact_buffers (noParam_all fun _ => .of_items rfl)⟩
  | nextAttention ps => exact ⟨_, rfl, transact_buffers (noParam_all nextAttentionBody_buffers)⟩
  | setMask ps => exact ⟨_, rfl, transact_buffers (threeParams_all setMaskBody_buffers)⟩
  | clearCounters ps => exact ⟨_, rfl, transact_buffers (twoParams_all clearCountersBody_buffers)⟩
  | openRecord ps => exact ⟨_, rfl, transact_buffers (twoParams_all openBody_buffers)⟩
  | discard ps => exact ⟨_, rfl, transact_buffers (oneParam_all discardBody_buffers)⟩
  | setEnd ps =>
    refine ⟨_, rfl, transact_buffers fun f hf => ?_⟩
    obtain ⟨x, -, rfl⟩ := Option.map_eq_some_iff.1 hf
    exact setEndBody_buffers _ _ _ _
  | setField ps => exact ⟨_, rfl, transact_buffers (fourParams_all setFieldBody_buffers)⟩
  | activate ps => exact ⟨_, rfl, transact_buffers (oneParam_all activateBody_buffers)⟩
  | suspend ps => exact ⟨_, rfl, transact_buffers (oneParam_all (stageBody_buffers _ _))⟩
  | resume ps => exact ⟨_, rfl, transact_buffers (oneParam_all (stageBody_buffers _ _))⟩
  | retire ps => exact ⟨_, rfl, transact_buffers (oneParam_all (stageBody_buffers _ _))⟩
  | revoke ps => exact ⟨_, rfl, transact_buffers (oneParam_all revokeBody_buffers)⟩
  | query ps => exact ⟨_, rfl, transact_buffers (oneParam_all fun _ => answering_buffers _)⟩
  | queryStaged ps => exact ⟨_, rfl, transact_buffers (oneParam_all fun _ => answering_buffers _)⟩
  | cursor ps => exact ⟨_, rfl, transact_buffers (oneParam_all fun _ _ => .of_items rfl)⟩
  | nextRecord ps => exact ⟨_, rfl, transact_buffers (noParam_all nextRecordBody_buffers)⟩
  | commit ps => exact ⟨_, rfl, transact_buffers (noParam_all commitBody_buffers)⟩
  | abortCommit ps => exact ⟨_, rfl, transact_buffers (noParam_all abortBody_buffers)⟩
  | mapQuery ps => exact ⟨_, rfl, transact_buffers (twoParams_all mapQueryBody_buffers)⟩
  | tribConfig ps => exact ⟨_, rfl, transact_buffers (tribConfigShape_buffers ps)⟩
  | tribStatus ps => exact ⟨_, rfl, transact_buffers (oneParam_all fun _ => ranged_buffers _ fun _ => answering_buffers _)⟩
  | timingConfig ps =>
    refine ⟨_, rfl, transact_buffers fun f hf => ?_⟩
    obtain ⟨x, -, rfl⟩ := Option.map_eq_some_iff.1 hf
    exact timingConfigure_buffers _ _ _
  | timingStatus ps => exact ⟨_, rfl, transact_buffers (noParam_all (answering_buffers _))⟩
  | trunkConfig ps => exact ⟨_, rfl, transact_buffers (fourParams_all trunkConfigBody_buffers)⟩
  | trunkStatus ps => exact ⟨_, rfl, transact_buffers (oneParam_all fun _ => ranged_buffers _ fun _ => answering_buffers _)⟩
  | recentre ps => exact ⟨_, rfl, transact_buffers (oneParam_all recentreBody_buffers)⟩
  | detBind ps => exact ⟨_, rfl, transact_buffers (threeParams_all detBindBody_buffers)⟩
  | detUnbind ps => exact ⟨_, rfl, transact_buffers (oneParam_all detUnbindBody_buffers)⟩
  | detConfig ps => exact ⟨_, rfl, transact_buffers (detConfigShape_buffers ps)⟩
  | detStatus ps => exact ⟨_, rfl, transact_buffers (oneParam_all fun _ => ranged_buffers _ fun _ => answering_buffers _)⟩
  | keyBind ps => exact ⟨_, rfl, transact_buffers (threeParams_all keyBindBody_buffers)⟩
  | keyUnbind ps => exact ⟨_, rfl, transact_buffers (oneParam_all keyUnbindBody_buffers)⟩
  | keyConfig ps => exact ⟨_, rfl, transact_buffers (keyConfigShape_buffers ps)⟩
  | keyTest ps => exact ⟨_, rfl, transact_buffers (threeParams_all keyTestBody_buffers)⟩
  | keyStatus ps => exact ⟨_, rfl, transact_buffers (oneParam_all fun _ => ranged_buffers _ fun _ => answering_buffers _)⟩
  | lineConfig ps => exact ⟨_, rfl, transact_buffers (fourParams_all lineConfigBody_buffers)⟩
  | lineWrite ps => exact ⟨_, rfl, transact_buffers (oneParam_all lineWriteBody_buffers)⟩
  | lineRead ps => exact ⟨_, rfl, transact_buffers (noParam_all (answering_buffers _))⟩
  | alarmMask ps => exact ⟨_, rfl, transact_buffers (oneParam_all alarmMaskBody_buffers)⟩
  | hardwareReset => exact execHardwareReset_buffers s
  | resetRelease => exact ⟨_, rfl, .of_items rfl⟩
  | stationFrame inp =>
    exact ⟨_, rfl, .ite .refl ((opening_buffers s inp).trans ((traffic_buffers _ inp).trans (judge_buffers _ inp)))⟩
  | stationMultiframeStart => exact ⟨_, rfl, .due (multiframeStart_buffers s)⟩
  | mapFlip => exact ⟨_, rfl, .due (flip_buffers s)⟩
  | retireHoldExpiry id => exact ⟨_, rfl, .due (expire_buffers s id)⟩
  | tribClockLoss t => exact ⟨_, rfl, .due (changed t _)⟩
  | tribCandidateFound t bits =>
    refine ⟨_, rfl, ?_⟩
    split
    · exact .due (changed t _)
    · exact .refl
  | tribAlignmentConfirmed t bits => exact ⟨_, rfl, .due (changed t _)⟩
  | tribConfirmationFailed t bits => exact ⟨_, rfl, .due (changed t _)⟩
  | tribFrameReceived t bits => exact ⟨_, rfl, .due (frameReceived_buffers s t bits)⟩
  | tribAlignmentLoss t bits => exact ⟨_, rfl, .due (changed t _)⟩
  | aisWindowEnd t bits => exact ⟨_, rfl, .due (changed t _)⟩
  | tribRemoteAlarmChange t bits => exact ⟨_, rfl, .due (frameReceived_buffers s t bits)⟩
  | mfAlignmentLoss t bits => exact ⟨_, rfl, .due (frameReceived_buffers s t bits)⟩
  | tribTransmitFrame t => exact ⟨_, rfl, .due (.of_items rfl)⟩
  | refActivityLoss => exact ⟨_, rfl, .due (.of_items (refSilent_items s))⟩
  | acquisitionComplete => exact ⟨_, rfl, .due started⟩
  | holdoverExpiry => exact ⟨_, rfl, .due started⟩
  | wtrExpiry => exact ⟨_, rfl, .due started⟩
  | trunkClockLoss k => exact ⟨_, rfl, .due (changePort_buffers s k _)⟩
  | trunkCandidateFound k bits =>
    refine ⟨_, rfl, ?_⟩
    split
    · exact .due (changePort_buffers s k _)
    · exact .refl
  | trunkAlignmentConfirmed k bits overhead =>
    have ported (p : TrunkPort) : BuffersKept s (s.setPort k p) := .of_items rfl
    have entered (p : TrunkPort) : BuffersKept s (((s.setPort k p).deskewEnter k).trunkSettle s) :=
      (ported p).trans ((deskewEnter_buffers _ k).trans (trunkSettle_buffers _ s))
    exact ⟨_, rfl, .due (entered _)⟩
  | trunkConfirmationFailed k bits => exact ⟨_, rfl, .due (changePort_buffers s k _)⟩
  | trunkFrameJudged k header => exact ⟨_, rfl, .due (changePort_buffers s k _)⟩
  | trunkAlignmentLoss k word seq => exact ⟨_, rfl, .due (changePort_buffers s k _)⟩
  | trunkFrameHandedOn k payload b =>
    refine ⟨_, rfl, ?_⟩
    split
    · exact .due (handOn_buffers s k _ _ _ _)
    · exact .refl
  | windowLoss k => exact ⟨_, rfl, .due ((loseWindow_buffers s k).trans (syncCopies_buffers _))⟩
  | windowReturn k => exact ⟨_, rfl, .due ((regainWindow_buffers s k).trans (syncCopies_buffers _))⟩
  | anchorFrameArrival k payload b =>
    refine ⟨_, rfl, ?_⟩
    split
    · exact .due (handOn_buffers s k _ _ _ _)
    · exact .refl
  | detectorUnblock d => exact ⟨_, rfl, .due (takeHanded_buffers s d)⟩
  | detectorCommandRecognised d => exact ⟨_, rfl, .due (takeHanded_buffers s d)⟩
  | detectorRelease d => exact ⟨_, rfl, .due (takeHanded_buffers s d)⟩
  | trailExpiry d => exact ⟨_, rfl, .due (takeHanded_buffers s d)⟩
  | detectorUnavailable d => exact ⟨_, rfl, .due (takeHanded_buffers s d)⟩
  | lineRequestQualified k => exact ⟨_, rfl, .due (takeKeyer_buffers s k)⟩
  | keyerCommandEnd k => exact ⟨_, rfl, .due (takeKeyer_buffers s k)⟩
  | lockoutExpiry k => exact ⟨_, rfl, .due (takeKeyer_buffers s k)⟩
  | testRemainderExpiry k => exact ⟨_, rfl, .due (takeKeyer_buffers s k)⟩
  | lineLevelChange n w => exact ⟨_, rfl, (wireLevel_buffers s n w).trans (raiseIf_buffers _ _ _)⟩

/-- Settles O56: each command keeps each of the laws, and a step runs one command. -/
theorem stepKeepsQueueAndBufferLaws : Obligations.StepKeepsQueueAndBufferLaws := by
  intro s t h
  have kept : BuffersKept s t := by
    unfold step at h
    split at h
    · obtain rfl := Host.Outcome.next.inj h
      exact .refl
    · rename_i c rest _
      obtain ⟨u, hu, kept⟩ := exec_buffers (s := { s with pending := rest }) c
      rw [hu] at h
      obtain rfl := Host.Outcome.next.inj h
      exact kept.after rfl
  exact ⟨kept.queue, kept.deskew, kept.lines, kept.count, kept.binding⟩

end Sys2Proof.Machine
end

section
/-! SOFT RESET (R71 to R75, R78, R155, R168). -/

namespace Sys2Proof.Machine

variable {s t : State}

/-! ### The STU where REF alone can be qualified (R78) -/

section
variable {u v : Stu} {q : Source → Bool} {raised : Bool} (hq : ∀ src, q src = true ↔ src = .ref ∧ u.refActive = true)
include hq

theorem firstOf_ref {l : List Source} (hl : Source.ref ∈ l) (ha : u.refActive = true) : FirstOf l q .ref := by
  have found : (l.find? q).isSome = true := List.find?_isSome.2 ⟨.ref, hl, (hq .ref).2 ⟨rfl, ha⟩⟩
  obtain ⟨src, hsrc⟩ := Option.isSome_iff_exists.1 found
  have ref : src = .ref := ((hq src).1 (List.find?_some hsrc)).1
  exact (find_eq_some_iff_firstOf ..).1 (ref ▸ hsrc)

theorem stands_ref (h : u.Stands q) : u.selected = some .ref ∧ Source.ref ∈ u.list := by
  obtain ⟨src, selected, listed, qualified⟩ := h
  obtain ⟨rfl, -⟩ := (hq src).1 qualified
  exact ⟨selected, listed⟩

theorem none_qualified (h : ¬ (Source.ref ∈ u.list ∧ u.refActive = true)) : ∀ src ∈ u.list, q src = false := by
  intro src hl
  refine Bool.eq_false_iff.2 fun hs => h ?_
  obtain ⟨rfl, active⟩ := (hq src).1 hs
  exact ⟨hl, active⟩

/-- Without another source ahead of REF there is no WTR target. -/
theorem no_target (y : Source) : ¬ FirstOf (u.list.takeWhile fun x => decide (some x ≠ some Source.ref)) q y := by
  intro first
  have listed : y ∈ u.list.takeWhile fun x => decide (some x ≠ some Source.ref) := by
    obtain ⟨before, after, hl, -, -⟩ := first
    rw [hl]
    exact List.mem_append_right _ List.mem_cons_self
  have other := List.mem_takeWhile_imp listed
  obtain ⟨-, -, -, qualified, -⟩ := first
  obtain ⟨rfl, -⟩ := (hq y).1 qualified
  simp at other

variable (h : StuReacted u v q raised)
include h

/-- With REF listed and active the STU goes to it, or stays on it. -/
theorem reacted_toRef (hl : Source.ref ∈ u.list) (ha : u.refActive = true) :
    (u.state = .freeRun ∨ u.state = .holdover ∨ u.selected ≠ some .ref → raised = true ∧ v = u.acquiring .ref) ∧
    (u.state = .acquiring → u.selected = some .ref → raised = false ∧ v = u) ∧
    (u.state = .locked → u.selected = some .ref → raised = false ∧ v = { u with
      wtrTarget := none, wtrCount := if u.wtrTarget = none then u.wtrCount else 0 }) := by
  obtain ⟨idle, stays, leaves, locked⟩ := h
  have first := firstOf_ref hq hl ha
  have stands (hs : u.selected = some .ref) : u.Stands q := ⟨.ref, hs, hl, (hq .ref).2 ⟨rfl, ha⟩⟩
  have idles (hs : u.state = .freeRun ∨ u.state = .holdover) : raised = true ∧ v = u.acquiring .ref :=
    ((idle hs).1 .ref first).symm
  refine ⟨fun moves => ?_, fun hs hsel => (stays hs (stands hsel)).symm, fun hs hsel => ?_⟩
  · have elsewhere (hne : u.selected ≠ some .ref) (hs : u.state = .acquiring ∨ u.state = .locked) :
        raised = true ∧ v = u.acquiring .ref :=
      ((leaves hs fun st => hne (stands_ref hq st).1).1 .ref first).symm
    obtain hs | hs | hne := moves
    · exact idles (.inl hs)
    · exact idles (.inr hs)
    · cases hs : u.state with
      | freeRun => exact idles (.inl hs)
      | holdover => exact idles (.inr hs)
      | acquiring => exact elsewhere hne (.inl hs)
      | locked => exact elsewhere hne (.inr hs)
  · obtain ⟨quiet, target, htarget, hv⟩ := locked hs (stands hsel)
    have none : target = none := by
      refine Option.eq_none_iff_forall_ne_some.2 fun y hy => ?_
      have first := ((htarget y).1 hy).2
      rw [hsel] at first
      exact no_target hq y first
    refine ⟨quiet, hv.trans ?_⟩
    rw [none]
    by_cases hw : u.wtrTarget = Option.none
    · rw [if_pos hw.symm, if_pos hw, ← hw]
    · rw [if_neg (Ne.symm hw), if_neg hw]

/-- Without REF the STU loses whatever source it had (R71 to R73). -/
theorem reacted_toNone (hn : ¬ (Source.ref ∈ u.list ∧ u.refActive = true)) :
    (u.state = .freeRun ∨ u.state = .holdover → raised = false ∧ v = u) ∧
    (u.state = .locked ∨ u.state = .acquiring ∧ u.memory = true → raised = true ∧ v = { u with
      state := .holdover, selected := none, wtrTarget := none, wtrCount := 0
      holdover := if u.holdover = 0 then 1936 else u.holdover }) ∧
    (u.state = .acquiring → u.memory = false → raised = true ∧ v = { u with
      state := .freeRun, selected := none, wtrTarget := none, wtrCount := 0 }) := by
  obtain ⟨idle, -, leaves, -⟩ := h
  have silent := none_qualified hq hn
  have lost : ¬ u.Stands q := fun ⟨src, _, listed, qualified⟩ => by
    rw [silent src listed] at qualified
    cases qualified
  refine ⟨fun hs => ((idle hs).2 silent).symm, fun hs => ?_, fun hs hm => ?_⟩
  · obtain hs | ⟨hs, hm⟩ := hs
    · obtain ⟨moved, held, -⟩ := (leaves (.inr hs) lost).2 silent
      exact ⟨moved, held (.inl hs)⟩
    · obtain ⟨moved, held, -⟩ := (leaves (.inl hs) lost).2 silent
      exact ⟨moved, held (.inr hm)⟩
  · obtain ⟨moved, -, free⟩ := (leaves (.inl hs) lost).2 silent
    exact ⟨moved, free hs hm⟩

end

/-! ### The command -/

/-- The state that the STU meets in a SOFT RESET: the blocks at their soft reset values, the Response Buffer empty. -/
def State.softCleared (s : State) : State :=
  let s1 := s.resetBlocks
  { s1 with cp := { s1.cp with response := none } }

theorem softResetBody_eq (s : State) : softResetBody s = (.ok, s.softCleared.stuReact) := rfl

/-- No tributary and no trunk is a qualified source after the reset of the blocks. -/
theorem softCleared_qualified (s : State) (src : Source) :
    s.softCleared.qualified src = true ↔ src = .ref ∧ s.stu.refActive = true := by
  cases src with
  | ref => exact ⟨fun h => ⟨rfl, h⟩, fun h => h.2⟩
  | trib n =>
    have reset : s.softCleared.trib n = .reset := Vector.getElem_replicate _
    simp [State.qualified, reset, Trib.good, Trib.reset, TribRx.reset]
  | trunk k =>
    have reset : s.softCleared.port k = .reset := by cases k <;> rfl
    simp [State.qualified, reset, TrunkPort.reset]

/-- The blocks after the STU's reaction. -/
theorem softReset_eq (h : s.inReset = false) (ht : t = ran [] softResetBody s) : t = { State.reset with
    cp := t.cp, stu := t.stu, au := ⟨[], t.au.flags, 0, false⟩, clu := { s.clu with alarmMask := 0x1F }
    pending := s.pending } := by
  have only := (stuReact_only s.softCleared).eq
  have rest : s.softCleared = { State.reset with
      cp := s.softCleared.cp, stu := s.stu, clu := { s.clu with alarmMask := 0x1F }, inReset := s.inReset
      pending := s.pending } := rfl
  have run : t = { s.softCleared.stuReact with cp := t.cp } := ht ▸ ran_eq
  generalize s.softCleared.stuReact = v at *
  rw [run, only, rest, h]
  rfl

theorem softReset_response (s : State) : (softResetBody s).2.cp.response = none :=
  congrArg (fun v : State => v.cp.response) (stuReact_only s.softCleared).eq

/-- Settles O12: the blocks as `softReset_eq` gives them, the STU by its reaction to REF alone. -/
theorem softResetClearsBlocks : Obligations.SoftResetClearsBlocks := by
  refine ⟨fun s hc => ⟨_, exec_softReset s hc, ?_⟩, fun s hr hb => ⟨_, congrArg Host.Outcome.next (transact_busy hr hb), rfl, rfl⟩⟩
  have blocks := softReset_eq hc.1.1 (t := ran [] softResetBody s) rfl
  have ended : Ended s (ran [] softResetBody s) 0 .ok none := softReset_response s ▸ ended_ran
  have flags (i : Nat) (hi : i ≠ 10) : (ran [] softResetBody s).au.flags.getLsbD i = false :=
    ((stuReact_only s.softCleared).flags i hi).trans (BitVec.getLsbD_zero ..)
  obtain ⟨raised, reacted, flag⟩ := stuReact_met s.softCleared
  rw [stuReact_qualified] at reacted
  have clear : s.softCleared.au.flags.getLsbD 10 = false := BitVec.getLsbD_zero ..
  rw [clear, Bool.false_or] at flag
  have timing : (ran [] softResetBody s).au.flags.getLsbD 10 = raised := flag
  have stu : (ran [] softResetBody s).stu = s.softCleared.stuReact.stu := rfl
  rw [← stu] at reacted
  have only := softCleared_qualified s
  generalize ran [] softResetBody s = t at *
  have irq : t.irq = false := by
    rw [State.irq, blocks]
    simp
  rw [timing]
  exact ⟨ended, blocks, flags, irq, reacted_toRef only reacted, reacted_toNone only reacted⟩

end Sys2Proof.Machine
end

section
/-! TIMING CONFIG (R71 to R76). -/

namespace Sys2Proof.Machine

variable {s : State} {rev wtr : Byte} {codes : List Byte}

/-! ### Its parameters (R76) -/

theorem noRepeat_iff {l : List Nat} : noRepeat l = true ↔ l.Nodup := by
  refine ⟨nodup_of_noRepeat, fun h => ?_⟩
  induction h with
  | nil => rfl
  | cons fresh _ ih =>
    simp only [noRepeat, ih, Bool.and_true, Bool.not_eq_true', List.contains_eq_mem, decide_eq_false_iff_not]
    exact fun hn => fresh _ hn rfl

theorem noRepeat_toNat : noRepeat (codes.map BitVec.toNat) = true ↔ codes.Nodup := by
  rw [noRepeat_iff]
  exact List.nodup_map_iff fun _ _ h => BitVec.eq_of_toNat_eq h

/-- A source code is read as the source that has it (R69). -/
theorem readSource_of_le {n : Nat} (h : n ≤ 10) : ∃ src, readSource n = some src ∧ src.code = n := by
  by_cases hn : n ≤ 7
  · refine ⟨.trib ⟨n, by omega⟩, ?_, rfl⟩
    unfold readSource
    split
    · omega
    · omega
    · omega
    · simp [readUnit, show n < 8 by omega]
  obtain rfl | rfl | rfl : n = 8 ∨ n = 9 ∨ n = 10 := by omega
  · exact ⟨.trunk .a, rfl, rfl⟩
  · exact ⟨.trunk .b, rfl, rfl⟩
  · exact ⟨.ref, rfl, rfl⟩

theorem readSource_of_gt {n : Nat} (h : 10 < n) : readSource n = none := by
  unfold readSource
  split
  · omega
  · omega
  · omega
  · rw [readUnit_of_gt (by omega)]
    rfl

theorem mapM_readSource_of_le (h : ∀ c ∈ codes, c.toNat ≤ 10) :
    ∃ l, codes.mapM (fun b => readSource b.toNat) = some l ∧ l.map (fun x => byte x.code) = codes := by
  induction codes with
  | nil => exact ⟨[], rfl, rfl⟩
  | cons c cs ih =>
    obtain ⟨hc, hcs⟩ := List.forall_mem_cons.1 h
    obtain ⟨src, read, code⟩ := readSource_of_le hc
    obtain ⟨l, rest, codes⟩ := ih hcs
    refine ⟨src :: l, by simp [read, rest], ?_⟩
    have same : byte src.code = c := BitVec.eq_of_toNat_eq (by rw [code, byte, BitVec.toNat_ofNat, Nat.mod_eq_of_lt c.isLt])
    rw [List.map_cons, same, codes]

theorem mapM_readSource_of_gt (h : ∃ c ∈ codes, 10 < c.toNat) : codes.mapM (fun b => readSource b.toNat) = none := by
  induction codes with
  | nil => simp at h
  | cons c cs ih =>
    by_cases hc : 10 < c.toNat
    · simp [readSource_of_gt hc]
    · have rest := ih (by simpa [hc] using h)
      cases hr : readSource c.toNat <;> simp [hr, rest]

theorem readSources_ok (hc : ∀ c ∈ codes, c.toNat ≤ 10) (hn : codes.Nodup) :
    ∃ l, readSources codes = some l ∧ l.map (fun x => byte x.code) = codes := by
  rw [readSources, if_pos (noRepeat_toNat.2 hn)]
  exact mapM_readSource_of_le hc

theorem readSources_none (h : (∃ c ∈ codes, 10 < c.toNat) ∨ ¬ codes.Nodup) : readSources codes = none := by
  unfold readSources
  split
  · rename_i hn
    exact mapM_readSource_of_gt (h.resolve_right (not_not.2 (noRepeat_toNat.1 hn)))
  · rfl

theorem timingConfigure_range (h : 1 < rev.toNat ∨ wtr = 0 ∨ (∃ c ∈ codes, 10 < c.toNat) ∨ ¬ codes.Nodup) :
    timingConfigure rev wtr codes s = (.range, s) := by
  unfold timingConfigure
  obtain h | h | h := h
  · rw [readFlag_eq_none h]
  · split
    · exact if_pos h
    · rfl
  · rw [readSources_none h]
    cases readFlag rev.toNat <;> rfl

/-- The state that the STU meets after TIMING CONFIG has written the three items (R76). -/
def State.timed (s : State) (l : List Source) (r : Bool) (wtr : Nat) : State :=
  { s with stu := { s.stu with list := l, revertive := r, wtrTime := wtr, wtrCount := 0 } }

theorem timingConfigure_ok {l : List Source} (hr : rev.toNat ≤ 1) (hw : wtr ≠ 0) (hl : readSources codes = some l) :
    timingConfigure rev wtr codes s = (.ok, (s.timed l (decide (rev = 1)) wtr.toNat).stuReact) := by
  unfold timingConfigure
  rw [readFlag_of_le hr, hl]
  exact if_neg hw

theorem exec_timingConfig (h : Clear s) (rev wtr : Byte) (hl : codes.length ≤ 4) :
    exec (.timingConfig (rev :: wtr :: byte codes.length :: codes)) s =
      .next (ran (rev :: wtr :: byte codes.length :: codes) (timingConfigure rev wtr codes) s) := by
  have count : (byte codes.length).toNat = codes.length := by
    rw [byte, BitVec.toNat_ofNat]
    omega
  have shape : timingShape (rev :: wtr :: byte codes.length :: codes) = some (rev, wtr, codes) := by
    simp [timingShape, count, hl]
  refine congrArg Host.Outcome.next ?_
  rw [shape]
  exact transact_clear h

/-! ### Its effect (R71 to R76) -/

theorem timed_qualified (l : List Source) (r : Bool) (wtr : Nat) : (s.timed l r wtr).qualified = s.qualified := by
  funext src
  cases src <;> rfl

/-- A reaction of the STU touches it and the attention unit alone. -/
theorem StuOnly.rest {t : State} (h : StuOnly s t) : t = { s with stu := t.stu, au := t.au } := by rw [h.eq]

/-- A WTR count of 0 stays at 0 through a reaction of the STU (R74). -/
theorem stuReact_wtrCount (h : s.stu.wtrCount = 0) : s.stuReact.stu.wtrCount = 0 := by
  unfold State.stuReact
  split
  · split
    · rfl
    · exact h
  · split
    · rfl
    · exact h
  · split
    · exact h
    split
    · rfl
    split
    · rfl
    · rfl
  · split
    · dsimp only
      split
      · exact h
      · rfl
    split
    · rfl
    · rfl

/-- Settles O40: the parameters are read or refused, and the STU reacts to what is written. -/
theorem timingConfigWritesList : Obligations.TimingConfigWritesList := by
  intro s rev wtr codes hc hl
  have length : 3 + codes.length = (rev :: wtr :: byte codes.length :: codes).length := Nat.add_comm 3 codes.length
  rw [length]
  refine ⟨_, exec_timingConfig hc rev wtr hl, fun h => ran_refusal (timingConfigure_range h), fun hr hw hle hn => ?_⟩
  obtain ⟨l, read, list⟩ := readSources_ok hle hn
  have run := ran_of (ps := rev :: wtr :: byte codes.length :: codes) (timingConfigure_ok (s := s) hr hw read)
  have only := stuReact_only (s.timed l (decide (rev = 1)) wtr.toNat)
  have count := stuReact_wtrCount (s := s.timed l (decide (rev = 1)) wtr.toNat) rfl
  obtain ⟨raised, reacted, flag⟩ := stuReact_met (s.timed l (decide (rev = 1)) wtr.toNat)
  rw [stuReact_qualified, timed_qualified] at reacted
  generalize (s.timed l (decide (rev = 1)) wtr.toNat).stuReact = v at *
  have response : v.cp.response = s.cp.response := by
    rw [only.eq]
    rfl
  rw [run]
  refine ⟨?_, ?_, only.revertive, only.wtrTime, count, only.refActive, only.count, ⟨raised, ?_, flag⟩, ?_⟩
  · rw [← response]
    rfl
  · have same : v.stu.list = l := only.list
    exact same ▸ list
  · have same : v.stu.list = l := only.list
    have revertive : v.stu.revertive = decide (rev = 1) := only.revertive
    have wtrTime : v.stu.wtrTime = wtr.toNat := only.wtrTime
    exact same ▸ revertive ▸ wtrTime ▸ reacted
  · rw [only.rest]
    rfl

end Sys2Proof.Machine
end

section
/-! SUPPORT. The STU when no reaction is left to it, and REF's items through a station frame (R70 to R75). -/

namespace Sys2Proof.Machine

/-! ### A settled STU -/

section
variable {u v : Stu} {q : Source → Bool} {raised : Bool}

/-- No reaction to the qualifications is left. -/
structure Stu.Settled (u : Stu) (q : Source → Bool) : Prop where
  idle : u.state = .freeRun ∨ u.state = .holdover → ∀ src ∈ u.list, q src = false
  stands : u.state = .acquiring ∨ u.state = .locked → u.Stands q
  target : u.state = .locked → ∀ y, u.wtrTarget = some y ↔
    u.revertive = true ∧ FirstOf (u.list.takeWhile fun x => decide (some x ≠ u.selected)) q y

theorem firstOf_or_none (l : List Source) (q : Source → Bool) : (∃ src, FirstOf l q src) ∨ ∀ src ∈ l, q src = false := by
  cases h : l.find? q with
  | none => exact .inr ((find_eq_none_iff l q).1 h)
  | some src => exact .inl ⟨src, (find_eq_some_iff_firstOf l q src).1 h⟩

theorem FirstOf.mem {l : List Source} {src : Source} (h : FirstOf l q src) : src ∈ l ∧ q src = true := by
  obtain ⟨before, after, hl, hq, -⟩ := h
  exact ⟨hl ▸ List.mem_append_right _ List.mem_cons_self, hq⟩

/-- A settled STU meets the qualifications without a change. -/
theorem Stu.Settled.stays (h : u.Settled q) (r : StuReacted u v q raised) : v = u ∧ raised = false := by
  obtain ⟨idle, acquiring, -, locked⟩ := r
  cases hs : u.state with
  | freeRun => exact (idle (.inl hs)).2 (h.idle (.inl hs))
  | holdover => exact (idle (.inr hs)).2 (h.idle (.inr hs))
  | acquiring => exact acquiring hs (h.stands (.inl hs))
  | locked =>
    obtain ⟨quiet, target, ht, hv⟩ := locked hs (h.stands (.inr hs))
    have same : target = u.wtrTarget := Option.ext fun y => (ht y).trans (h.target hs y).symm
    exact ⟨hv.trans (if_pos same), quiet⟩

/-- What leaves a settled STU alone is a reaction of it. -/
theorem Stu.Settled.reacted (h : u.Settled q) : StuReacted u u q false := by
  refine ⟨fun hs => ⟨fun src first => ?_, fun _ => ⟨rfl, rfl⟩⟩, fun _ _ => ⟨rfl, rfl⟩, fun hs lost => absurd (h.stands hs) lost,
    fun hs _ => ⟨rfl, u.wtrTarget, h.target hs, (if_pos rfl).symm⟩⟩
  exact absurd first (not_firstOf (h.idle hs) src)

/-- The reaction of the STU settles it (R71 to R74). -/
theorem StuReacted.settled (r : StuReacted u v q raised) : v.Settled q := by
  obtain ⟨idle, acquiring, leaves, locked⟩ := r
  have acquired {src : Source} (first : FirstOf u.list q src) : (u.acquiring src).Settled q :=
    ⟨nofun, fun _ => ⟨src, rfl, first.mem⟩, nofun⟩
  have idles (hs : u.state = .freeRun ∨ u.state = .holdover) : v.Settled q := by
    obtain ⟨src, first⟩ | silent := firstOf_or_none u.list q
    · rw [((idle hs).1 src first).1]
      exact acquired first
    · rw [((idle hs).2 silent).1]
      exact ⟨fun _ => silent, fun h => (by obtain hs | hs := hs <;> simp [hs] at h), fun h => (by simp [h] at hs)⟩
  have lost (hs : u.state = .acquiring ∨ u.state = .locked) (h : ¬ u.Stands q) : v.Settled q := by
    obtain ⟨src, first⟩ | silent := firstOf_or_none u.list q
    · rw [((leaves hs h).1 src first).1]
      exact acquired first
    · obtain ⟨-, held, free⟩ := (leaves hs h).2 silent
      by_cases hm : u.state = .locked ∨ u.memory = true
      · rw [held hm]
        exact ⟨fun _ => silent, nofun, nofun⟩
      · simp only [not_or, Bool.not_eq_true] at hm
        rw [free (hs.resolve_right hm.1) hm.2]
        exact ⟨fun _ => silent, nofun, nofun⟩
  cases hs : u.state with
  | freeRun => exact idles (.inl hs)
  | holdover => exact idles (.inr hs)
  | acquiring =>
    by_cases h : u.Stands q
    · rw [(acquiring hs h).1]
      exact ⟨by simp [hs], fun _ => h, by simp [hs]⟩
    · exact lost (.inl hs) h
  | locked =>
    by_cases h : u.Stands q
    · obtain ⟨-, target, ht, hv⟩ := locked hs h
      rw [hv]
      split
      · rename_i same
        exact ⟨by simp [hs], fun _ => h, fun _ y => same ▸ ht y⟩
      · exact ⟨by simp [hs], fun _ => h, fun _ => ht⟩
    · exact lost (.inr hs) h

theorem settled_iff : u.Settled q ↔ StuReacted u u q false := ⟨Stu.Settled.reacted, StuReacted.settled⟩

end

/-! ### The parts of a multiframe start that the STU takes (R71, R72, R74) -/

variable {s t m : State} {inp : FrameIn}

theorem qualified_of_stuOnly (h : StuOnly s t) : t.qualified = s.qualified := by
  funext src
  cases src with
  | ref => exact h.refActive
  | trib n =>
    have same : t.trib n = s.trib n := by
      rw [State.trib, h.eq]
      rfl
    rw [State.qualified, State.qualified, same]
  | trunk k =>
    have same : t.port k = s.port k := by
      rw [State.port, h.eq]
      rfl
    rw [State.qualified, State.qualified, same]

/-- What the STU makes of a multiframe start: its count, then its reaction, and the marks of the start (log 5). -/
structure StartMet (s t : State) (v w : Stu) (r1 r2 : Bool) : Prop where
  counted : StuCounted s.stu v r1
  reacted : StuReacted v w s.qualified r2
  stu : t.stu = { w with flipClosed := s.stu.flipClosed || !s.ct.commitPending, stuTaken := true }
  flag : t.au.flags.getLsbD 10 = (s.au.flags.getLsbD 10 || r1 || r2)

theorem stuStart_met (h : s.stu.stuTaken = false) : ∃ v w r1 r2, StartMet s s.stuStart v w r1 r2 := by
  obtain ⟨r1, counted, flag1⟩ := stuCount_counted s
  obtain ⟨r2, reacted, flag2⟩ := stuReact_met s.stuCount
  rw [stuReact_qualified, qualified_of_stuOnly (stuCount_only s)] at reacted
  have only := (stuCount_only s).trans (stuReact_only s.stuCount)
  have pending : s.stuCount.stuReact.ct.commitPending = s.ct.commitPending := by rw [only.eq]
  have start : s.stuStart = ({ s.stuCount.stuReact with stu := { s.stuCount.stuReact.stu with stuTaken := true } }).takeStart :=
    if_neg (by simp [h])
  refine ⟨_, _, _, _, counted, reacted, ?_, ?_⟩
  · rw [start, State.takeStart, ← only.flipClosed, ← pending]
  · rw [start, ← flag1]
    exact flag2

theorem stuStart_rest (s : State) : s.stuStart = { s with stu := s.stuStart.stu, au := s.stuStart.au } := by
  rw [(stuStart_started s).eq]

theorem stuDue_iff {outcome : Bool} : s.stuDue outcome = true ↔
    s.inReset = false ∧ s.atBoundary = true ∧ s.stu.stuTaken = false ∧ outcome = true := by
  simp [State.stuDue, and_assoc]

/-- The count of a start leaves the settled acquisition on its candidate, and its WTR target to the reaction (R72, R74). -/
theorem StartMet.locks {v w : Stu} {r1 r2 : Bool} {src : Source} (h : StartMet s t v w r1 r2) (hs : s.stu.state = .acquiring)
    (ha : s.stu.acquisition = 1) (hsel : s.stu.selected = some src) (hl : src ∈ s.stu.list) (hq : s.qualified src = true) :
    r1 = true ∧ w.state = .locked ∧ w.selected = some src ∧ w.memory = true ∧ w.holdover = 0 := by
  obtain ⟨-, -, completes, -⟩ := h.counted
  obtain ⟨moved, hv⟩ := completes hs (by omega)
  have locked : v.state = .locked := by rw [hv]
  have stands : v.Stands s.qualified := by
    rw [hv]
    exact ⟨src, hsel, hl, hq⟩
  obtain ⟨-, target, -, hw⟩ := h.reacted.2.2.2 locked stands
  rw [hw, hv]
  refine ⟨moved, ?_⟩
  split
  · exact ⟨rfl, hsel, rfl, rfl⟩
  · exact ⟨rfl, hsel, rfl, rfl⟩

theorem StartMet.runsOut {v w : Stu} {r1 r2 : Bool} (h : StartMet s t v w r1 r2) (hs : s.stu.state = .holdover)
    (ha : s.stu.holdover = 1) (hq : ∀ src ∈ s.stu.list, s.qualified src = false) :
    r1 = true ∧ w.state = .freeRun ∧ w.selected = none ∧ w.memory = false ∧ w.holdover = 0 := by
  obtain ⟨-, -, -, -, expires, -⟩ := h.counted
  obtain ⟨moved, hv⟩ := expires hs (by omega)
  have free : v.state = .freeRun := by rw [hv]
  have silent : ∀ src ∈ v.list, s.qualified src = false := by
    rw [hv]
    exact hq
  obtain ⟨hw, -⟩ := (h.reacted.1 (.inl free)).2 silent
  rw [hw, hv]
  exact ⟨moved, rfl, rfl, rfl, rfl⟩

theorem StartMet.restores {v w : Stu} {r1 r2 : Bool} {src : Source} (h : StartMet s t v w r1 r2) (hs : s.stu.state = .locked)
    (ht : s.stu.wtrTarget = some src) (hw : s.stu.wtrCount + 1 = s.stu.wtrTime) (hl : src ∈ s.stu.list)
    (hq : s.qualified src = true) : r1 = true ∧ w = s.stu.acquiring src := by
  obtain ⟨-, -, -, -, -, -, waits⟩ := h.counted
  obtain ⟨hv, moved⟩ := (waits hs src ht).2 (by omega)
  have stands : v.Stands s.qualified := by
    rw [hv]
    exact ⟨src, rfl, hl, hq⟩
  obtain ⟨hw, -⟩ := h.reacted.2.1 (by rw [hv]; rfl) stands
  exact ⟨moved, hw.trans hv⟩

/-! ### REF's items through a station frame (R70) -/

/-- REF's activity and its count of frames without edges. -/
def Stu.refItems (u : Stu) : Bool × Nat := (u.refActive, u.refIdle)

theorem StuOnly.refItems (h : StuOnly s t) : t.stu.refItems = s.stu.refItems := Prod.ext h.refActive h.refIdle

theorem stuStart_refItems (s : State) : s.stuStart.stu.refItems = s.stu.refItems := by
  unfold State.stuStart
  split
  · rfl
  · exact ((stuCount_only s).trans (stuReact_only _)).refItems

theorem newFrame_refItems (s : State) : s.newFrame.stu.refItems = s.stu.refItems := by
  unfold State.newFrame
  split
  · extract_lets s1 s2
    have start : s1.stu.refItems = s.stu.refItems := by
      unfold s1
      split
      · rfl
      · exact stuStart_refItems s
    have flipped : s2.stu.refItems = s1.stu.refItems := by
      unfold s2
      split
      · rfl
      · rfl
    exact flipped.trans start
  · rfl

theorem opening_refItems (s : State) (inp : FrameIn) : (s.opening inp).stu.refItems = s.stu.refItems := by
  have before : (s.settledFor inp).stu = s.stu := by
    rw [(settledFor_only s inp).eq]
    rfl
  rw [opening_eq, newFrame_refItems, before]

theorem traffic_stu (s : State) (inp : FrameIn) : (s.traffic inp).stu = s.stu :=
  (traffic_sent s inp).stu.trans (filled_filled s inp).stu

theorem changeTrib_refItems (s : State) (n : Idx8) (p : Trib) : (s.changeTrib n p).stu.refItems = s.stu.refItems := by
  unfold State.changeTrib
  rw [(stuReact_only _).refItems, raiseIf_eq]
  rfl

theorem changePort_refItems (s : State) (k : Trunk) (p : TrunkPort) : (s.changePort k p).stu.refItems = s.stu.refItems := by
  rw [changePort_eq, State.trunkSettle, (stuReact_only _).refItems, State.trunkFlags, raiseIf_eq, raiseIf_eq (s.moved k p)]
  exact congrArg Stu.refItems (moved_path s k p).stu

/-- The state in which REF is judged: the tributaries' and the trunks' clocks judged before it (log 6). -/
def State.clocksJudged (s : State) (inp : FrameIn) : State :=
  ((s.judgeTribs inp).judgePort .a inp.trunkAClock).judgePort .b inp.trunkBClock

theorem judge_clocks (s : State) (inp : FrameIn) : s.judge inp = (s.clocksJudged inp).judgeRef inp.refEdges := rfl

theorem judgeTribs_refItems (s : State) (inp : FrameIn) : (s.judgeTribs inp).stu.refItems = s.stu.refItems := by
  unfold State.judgeTribs
  induction allUnits generalizing s with
  | nil => rfl
  | cons n ns ih => exact (ih _).trans (changeTrib_refItems s n _)

theorem judgePort_changed (s : State) (k : Trunk) (present : Bool) :
    PortChanged s (s.judgePort k present) k ((s.port k).judgeClock present) := changePort_changed s k _

theorem judgePort_refItems (s : State) (k : Trunk) (present : Bool) :
    (s.judgePort k present).stu.refItems = s.stu.refItems := changePort_refItems s k _

theorem clocksJudged_refItems (s : State) (inp : FrameIn) : (s.clocksJudged inp).stu.refItems = s.stu.refItems := by
  unfold State.clocksJudged
  rw [judgePort_refItems, judgePort_refItems, judgeTribs_refItems]

/-- REF's items after its judgement (R70). -/
def Stu.refAfter (u : Stu) (edges : Bool) : Bool × Nat :=
  if edges then (true, 0)
  else if u.refActive then (if 4 ≤ u.refIdle + 1 then (false, 0) else (true, u.refIdle + 1)) else (false, u.refIdle)

/-- The state with REF's items written, ahead of the STU's reaction. -/
def State.refWritten (s : State) (items : Bool × Nat) : State :=
  { s with stu := { s.stu with refActive := items.1, refIdle := items.2 } }

/-- The judgement of REF writes its items, and the STU reacts where REF's activity can have changed. -/
theorem judgeRef_cases (s : State) (edges : Bool) :
    s.judgeRef edges = (s.refWritten (s.stu.refAfter edges)).stuReact ∨
      (s.judgeRef edges = s.refWritten (s.stu.refAfter edges) ∧ (s.stu.refAfter edges).1 = s.stu.refActive) := by
  unfold State.judgeRef State.refSeen State.refSilent Stu.refAfter
  cases edges with
  | true => exact .inl rfl
  | false =>
    cases ha : s.stu.refActive with
    | false =>
      have kept : s.refWritten (false, s.stu.refIdle) = s := by
        rw [← ha]
        rfl
      exact .inr ⟨kept.symm, rfl⟩
    | true =>
      by_cases h4 : 4 ≤ s.stu.refIdle + 1
      · exact .inl (by simp [h4, Config.absentFrames, State.refWritten])
      · exact .inr (by simp [h4, Config.absentFrames, State.refWritten, ha])

theorem judgeRef_refItems (s : State) (edges : Bool) : (s.judgeRef edges).stu.refItems = s.stu.refAfter edges := by
  obtain e | ⟨e, -⟩ := judgeRef_cases s edges
  · rw [e, (stuReact_only _).refItems]
    rfl
  · rw [e]
    rfl

theorem refWritten_qualified {items : Bool × Nat} (h : items.1 = s.stu.refActive) :
    (s.refWritten items).qualified = s.qualified := by
  funext src
  cases src with
  | ref => exact h
  | trib n => rfl
  | trunk k => rfl

/-- In a settled station the STU meets what the judgement of REF comes to. -/
theorem judgeRef_met (h : s.stu.Settled s.qualified) (edges : Bool) (ht : t = s.judgeRef edges) :
    ∃ raised, StuReacted { s.stu with refActive := t.stu.refActive, refIdle := t.stu.refIdle } t.stu t.qualified raised ∧
      t.au.flags.getLsbD 10 = (s.au.flags.getLsbD 10 || raised) := by
  have items : t.stu.refItems = s.stu.refAfter edges := ht ▸ judgeRef_refItems s edges
  have active : t.stu.refActive = (s.stu.refAfter edges).1 := congrArg Prod.fst items
  have idle : t.stu.refIdle = (s.stu.refAfter edges).2 := congrArg Prod.snd items
  rw [active, idle]
  obtain e | ⟨e, same⟩ := judgeRef_cases s edges
  · rw [ht, e]
    exact stuReact_met (s.refWritten (s.stu.refAfter edges))
  · rw [ht, e, refWritten_qualified same]
    have settled : (s.refWritten (s.stu.refAfter edges)).stu.Settled s.qualified := ⟨h.idle, h.stands, h.target⟩
    exact ⟨false, settled.reacted, (Bool.or_false _).symm⟩

/-! ### The clocks of a station frame that leave the qualifications alone (log 6) -/

/-- The STU and TIMING as they were. -/
structure StuQuiet (s t : State) : Prop where
  stu : t.stu = s.stu
  flag : t.au.flags.getLsbD 10 = s.au.flags.getLsbD 10
  qualified : t.qualified = s.qualified

theorem StuQuiet.trans {u : State} (h : StuQuiet s t) (k : StuQuiet t u) : StuQuiet s u :=
  ⟨k.stu.trans h.stu, k.flag.trans h.flag, k.qualified.trans h.qualified⟩

/-- An event that leaves the qualifications of a settled station alone leaves its STU alone. -/
theorem StuMet.quiet (h : StuMet s t) (settled : s.stu.Settled s.qualified) (same : t.qualified = s.qualified) :
    StuQuiet s t := by
  obtain ⟨raised, reacted, flag⟩ := h
  rw [same] at reacted
  obtain ⟨stu, quiet⟩ := settled.stays reacted
  rw [quiet, Bool.or_false] at flag
  exact ⟨stu, flag, same⟩

theorem StuQuiet.settled (h : StuQuiet s t) (settled : s.stu.Settled s.qualified) : t.stu.Settled t.qualified := by
  rwa [h.stu, h.qualified]

theorem qualified_trib (h : t.trib n = s.trib n) : t.qualified (.trib n) = s.qualified (.trib n) := by
  rw [State.qualified, State.qualified, h]

theorem qualified_trunk {k : Trunk} (h : t.port k = { s.port k with jumps := (t.port k).jumps }) :
    t.qualified (.trunk k) = s.qualified (.trunk k) := by
  rw [State.qualified, State.qualified, h]

theorem changeTrib_qualified_ne (s : State) (n : Idx8) (p : Trib) {src : Source} (h : src ≠ .trib n) :
    (s.changeTrib n p).qualified src = s.qualified src := by
  have eq := changeTrib_eq s n p
  have items := changeTrib_refItems s n p
  cases src with
  | ref => exact congrArg Prod.fst items
  | trib m => exact qualified_trib (changeTrib_trib_ne s p fun e => h (e ▸ rfl))
  | trunk k =>
    have same : (s.changeTrib n p).port k = s.port k := by
      rw [State.port, eq]
      rfl
    rw [State.qualified, State.qualified, same]

/-- Tributary clocks judged one after another, where none changes its port's qualification in the end. -/
theorem foldl_changeTrib_quiet (f : Idx8 → Trib → Trib) (l : List Idx8) (hl : l.Nodup) (s t : State)
    (ht : t = l.foldl (fun s n => s.changeTrib n (f n (s.trib n))) s) (settled : s.stu.Settled s.qualified)
    (h : ∀ n, t.qualified (.trib n) = s.qualified (.trib n)) : StuQuiet s t := by
  induction l generalizing s with
  | nil => exact ht ▸ ⟨rfl, rfl, rfl⟩
  | cons n ns ih =>
    obtain ⟨fresh, hns⟩ := List.nodup_cons.1 hl
    obtain ⟨-, each⟩ := foldl_changeTrib f ns hns (s.changeTrib n (f n (s.trib n))) t ht
    have kept : t.trib n = (s.changeTrib n (f n (s.trib n))).trib n := (each n).1.trans (if_neg fresh)
    have same : (s.changeTrib n (f n (s.trib n))).qualified = s.qualified := by
      funext src
      by_cases hs : src = .trib n
      · rw [hs, ← qualified_trib kept, h]
      · exact changeTrib_qualified_ne s n _ hs
    have first := (changeTrib_met s n (f n (s.trib n))).quiet settled same
    exact first.trans (ih hns _ ht (first.settled settled) fun i => by rw [h, same])

theorem PortChanged.qualified_ne {k : Trunk} {q : TrunkPort} (h : PortChanged s t k q) (items : t.stu.refItems = s.stu.refItems)
    {src : Source} (hs : src ≠ .trunk k) : t.qualified src = s.qualified src := by
  cases src with
  | ref => exact congrArg Prod.fst items
  | trib n => exact qualified_trib (trib_of_tribs h.tribs n)
  | trunk j =>
    have other : j = otherTrunk k := eq_otherTrunk fun e => hs (e ▸ rfl)
    exact other ▸ qualified_trunk h.other

theorem PortChanged.quiet {k : Trunk} {q : TrunkPort} (h : PortChanged s t k q) (items : t.stu.refItems = s.stu.refItems)
    (settled : s.stu.Settled s.qualified) (same : t.qualified (.trunk k) = s.qualified (.trunk k)) : StuQuiet s t := by
  refine h.met.quiet settled (funext fun src => ?_)
  by_cases hs : src = .trunk k
  · rw [hs, same]
  · exact h.qualified_ne items hs

/-- The clocks of a station frame leave the STU of a settled station alone when they leave the qualifications alone. -/
theorem clocksJudged_quiet (m : State) (inp : FrameIn) (settled : m.stu.Settled m.qualified)
    (h : ∀ src, src ≠ .ref → (m.clocksJudged inp).qualified src = m.qualified src) : StuQuiet m (m.clocksJudged inp) := by
  have tribs := foldl_changeTrib_quiet (fun n p => p.judgeClock (inp.tribClock.getLsbD n.val)) allUnits
    (List.nodup_finRange 8) m (m.judgeTribs inp) rfl settled
  unfold State.clocksJudged at h ⊢
  generalize m.judgeTribs inp = a at *
  have first := judgePort_changed a .a inp.trunkAClock
  have items1 := judgePort_refItems a .a inp.trunkAClock
  generalize a.judgePort .a inp.trunkAClock = b at *
  have second := judgePort_changed b .b inp.trunkBClock
  have items2 := judgePort_refItems b .b inp.trunkBClock
  generalize b.judgePort .b inp.trunkBClock = c at *
  have quietA : StuQuiet m a := tribs fun n => by
    rw [← h (.trib n) nofun, second.qualified_ne (src := .trib n) items2 nofun, first.qualified_ne (src := .trib n) items1 nofun]
  have quietB : StuQuiet a b := first.quiet items1 (quietA.settled settled) (by
    rw [quietA.qualified, ← h (.trunk .a) nofun, second.qualified_ne (src := .trunk .a) items2 nofun])
  have quietC : StuQuiet b c := second.quiet items2 (quietB.settled (quietA.settled settled)) (by
    rw [h (.trunk .b) nofun, quietB.qualified, quietA.qualified])
  exact (quietA.trans quietB).trans quietC

/-- The last of the clocks' judgements leaves the STU settled, and so does that of REF. -/
theorem clocksJudged_settled (m : State) (inp : FrameIn) :
    (m.clocksJudged inp).stu.Settled (m.clocksJudged inp).qualified := by
  obtain ⟨raised, reacted, -⟩ := (judgePort_changed ((m.judgeTribs inp).judgePort .a inp.trunkAClock) .b inp.trunkBClock).met
  exact reacted.settled

theorem judgeRef_qualified_ne (s : State) (edges : Bool) {src : Source} (h : src ≠ .ref) :
    (s.judgeRef edges).qualified src = s.qualified src := by
  have eq := (judgeRef_work s edges).eq
  cases src with
  | ref => exact absurd rfl h
  | trib n =>
    refine qualified_trib ?_
    rw [State.trib, eq]
    rfl
  | trunk k =>
    have same : (s.judgeRef edges).port k = s.port k := by
      rw [State.port, eq]
      rfl
    rw [State.qualified, State.qualified, same]

end Sys2Proof.Machine
end

section
/-! The station timing unit at a multiframe start, at a loss of REF and at a station frame's end (R70 to R75). -/

namespace Sys2Proof.Machine

variable {s t m : State} {inp : FrameIn}

/-! ### The rows of the STU at a multiframe start -/

theorem exec_acquisitionComplete (h : s.stuDue s.stu.completes = true) : exec .acquisitionComplete s = .next s.stuStart :=
  congrArg Host.Outcome.next (if_pos h)

theorem exec_holdoverExpiry (h : s.stuDue s.stu.expires = true) : exec .holdoverExpiry s = .next s.stuStart :=
  congrArg Host.Outcome.next (if_pos h)

theorem exec_wtrExpiry (h : s.stuDue s.stu.restores = true) : exec .wtrExpiry s = .next s.stuStart :=
  congrArg Host.Outcome.next (if_pos h)

/-- The start as a whole adds the countdown and the marks to what the STU makes of it. -/
theorem multiframeStart_met (h : s.stu.stuTaken = false) : ∃ v w r1 r2, StuCounted s.stu v r1 ∧
    StuReacted v w s.qualified r2 ∧ s.multiframeStart.stu = { w with
      count := 0, started := true, begun := true, flipClosed := s.stu.flipClosed || !s.ct.commitPending, stuTaken := true
      retiredNow := s.multiframeStart.stu.retiredNow } ∧
    s.multiframeStart.au.flags.getLsbD 10 = (s.au.flags.getLsbD 10 || r1 || r2) := by
  obtain ⟨v, w, r1, r2, met⟩ := stuStart_met h
  have start : s.multiframeStart.stu = { s.stuStart.stu with
    count := 0, started := true, begun := true, flipClosed := s.multiframeStart.stu.flipClosed } := rfl
  refine ⟨v, w, r1, r2, met.counted, met.reacted, ?_, met.flag⟩
  rw [start, multiframeStart_flipClosed, met.stu]

/-! ### REF (R70) -/

/-- The fourth frame without edges. -/
theorem exec_refActivityLoss (hr : s.inReset = false) (ha : s.stu.refActive = true) (h3 : s.stu.refIdle = 3) :
    exec .refActivityLoss s = .next (s.refWritten (false, 0)).stuReact := by
  have due : s.refSilent = (s.refWritten (false, 0)).stuReact := by
    unfold State.refSilent
    rw [if_pos ha, if_pos (by simp [h3, Config.absentFrames])]
    rfl
  rw [← due]
  exact congrArg Host.Outcome.next (if_pos (by simp [hr, ha, h3, Config.absentFrames]))

/-- A LOCKED station without a qualified source holds over (R73). -/
theorem StuReacted.holds {u v : Stu} {q : Source → Bool} {raised : Bool} (h : StuReacted u v q raised)
    (hs : u.state = .locked) (hq : ∀ src ∈ u.list, q src = false) :
    v.state = .holdover ∧ v.selected = none ∧ raised = true ∧
      v.holdover = if u.holdover = 0 then 1936 else u.holdover := by
  have lost : ¬ u.Stands q := fun ⟨src, _, listed, qualified⟩ => by
    rw [hq src listed] at qualified
    cases qualified
  obtain ⟨-, -, leaves, -⟩ := h
  obtain ⟨moved, held, -⟩ := (leaves (.inr hs) lost).2 hq
  rw [held (.inl hs)]
  exact ⟨rfl, rfl, moved, rfl⟩

theorem refWritten_unqualified (h : ∀ src ∈ s.stu.list, src ≠ .ref → s.qualified src = false) (idle : Nat) :
    ∀ src ∈ s.stu.list, (s.refWritten (false, idle)).qualified src = false := by
  intro src hl
  cases src with
  | ref => rfl
  | trib n => exact h _ hl nofun
  | trunk k => exact h _ hl nofun

/-- Settles O41: the rows by the STU's count and reaction, REF's items by its judgement, and the reaction that the last judgement
leaves settled. -/
theorem timingUnitChangesState : Obligations.TimingUnitChangesState := by
  refine ⟨fun s src hr ha ht hs h1 hsel hl hq => ⟨_, exec_acquisitionComplete ?_, ?_⟩,
    fun s hr ha ht hs h1 hq => ⟨_, exec_holdoverExpiry ?_, ?_⟩,
    fun s src hr ha ht hs hw hc hl hq => ⟨_, exec_wtrExpiry ?_, ?_⟩,
    fun s hr ha h3 => ⟨_, exec_refActivityLoss hr ha h3, ?_⟩, fun s hr ha hb ht => ?_, fun s m inp hr hm =>
      ⟨_, exec_stationFrame s inp hr, ?_⟩⟩
  case refine_1 => exact stuDue_iff.2 ⟨hr, ha, ht, by simp [Stu.completes, hs, h1, Config.acquisitionStarts]⟩
  case refine_2 =>
    obtain ⟨v, w, r1, r2, met⟩ := stuStart_met ht
    obtain ⟨moved, state, selected, memory, holdover⟩ := met.locks hs h1 hsel hl hq
    refine ⟨?_, ?_, ?_, ?_, ?_, ?_, stuStart_rest s⟩
    · rw [met.stu, ← state]
    · rw [met.stu, ← selected]
    · rw [met.stu, ← memory]
    · rw [met.stu, ← holdover]
    · simp [met.flag, moved]
    · rw [met.stu]
  case refine_3 => exact stuDue_iff.2 ⟨hr, ha, ht, by simp [Stu.expires, hs, h1]⟩
  case refine_4 =>
    obtain ⟨v, w, r1, r2, met⟩ := stuStart_met ht
    obtain ⟨moved, state, selected, memory, holdover⟩ := met.runsOut hs h1 hq
    refine ⟨?_, ?_, ?_, ?_, ?_, ?_, stuStart_rest s⟩
    · rw [met.stu, ← state]
    · rw [met.stu, ← selected]
    · rw [met.stu, ← memory]
    · rw [met.stu, ← holdover]
    · simp [met.flag, moved]
    · rw [met.stu]
  case refine_5 => exact stuDue_iff.2 ⟨hr, ha, ht, by simp [Stu.restores, hs, hw, hc]⟩
  case refine_6 =>
    obtain ⟨v, w, r1, r2, met⟩ := stuStart_met ht
    obtain ⟨moved, rfl⟩ := met.restores hs hw hc hl hq
    refine ⟨?_, ?_, ?_, ?_, ?_, ?_, stuStart_rest s⟩
    · rw [met.stu]
      rfl
    · rw [met.stu]
      rfl
    · rw [met.stu]
      rfl
    · rw [met.stu]
      rfl
    · simp [met.flag, moved]
    · rw [met.stu]
  case refine_7 =>
    have only := stuReact_only (s.refWritten (false, 0))
    obtain ⟨raised, reacted, flag⟩ := stuReact_met (s.refWritten (false, 0))
    have unqualified := refWritten_unqualified (s := s) (idle := 0)
    rw [← stuReact_qualified (s.refWritten (false, 0))] at unqualified
    generalize (s.refWritten (false, 0)).stuReact = t at *
    refine ⟨only.refActive, only.refActive, only.rest, fun hs _ hq => ?_, raised, reacted, flag⟩
    obtain ⟨state, selected, moved, holdover⟩ := reacted.holds hs (unqualified hq)
    refine ⟨state, selected, ?_, holdover⟩
    rw [flag, moved, Bool.or_true]
  case refine_8 =>
    obtain ⟨v, w, r1, r2, met⟩ := multiframeStart_met ht
    exact ⟨_, v, w, r1, r2, exec_stationMultiframeStart hr ha hb, met⟩
  case refine_9 =>
    have start : m.stu.refItems = s.stu.refItems := by rw [hm, traffic_stu, opening_refItems]
    rw [← hm, judge_clocks]
    have before := (clocksJudged_refItems m inp).trans start
    have settled := clocksJudged_settled m inp
    have quiet := clocksJudged_quiet m inp
    have items := judgeRef_refItems (m.clocksJudged inp) inp.refEdges
    have other {src : Source} (h : src ≠ .ref) := judgeRef_qualified_ne (m.clocksJudged inp) inp.refEdges h
    obtain ⟨raised, reacted, flag⟩ := judgeRef_met settled inp.refEdges rfl
    generalize (m.clocksJudged inp).judgeRef inp.refEdges = t at *
    generalize m.clocksJudged inp = c at *
    have activeC : c.stu.refActive = s.stu.refActive := congrArg Prod.fst before
    have idleC : c.stu.refIdle = s.stu.refIdle := congrArg Prod.snd before
    have after {a : Bool} {i : Nat} (h : c.stu.refAfter inp.refEdges = (a, i)) : t.stu.refActive = a ∧ t.stu.refIdle = i := by
      rw [h] at items
      exact ⟨congrArg Prod.fst items, congrArg Prod.snd items⟩
    refine ⟨fun he => after ?_, fun he ha => after ?_, fun he ha hi => after ?_, fun he ha hi => after ?_,
      reacted.settled.reacted, fun same still => ?_⟩
    · simp [Stu.refAfter, he]
    · simp [Stu.refAfter, he, activeC, idleC, ha]
    · have few : ¬ 4 ≤ s.stu.refIdle + 1 := by omega
      simp [Stu.refAfter, he, activeC, idleC, ha, few]
    · have four : 4 ≤ s.stu.refIdle + 1 := by omega
      simp [Stu.refAfter, he, activeC, ha, idleC, four]
    · have stays := quiet still.settled fun src h => by rw [← other h, same src h]
      rw [stays.stu, stays.flag] at *
      exact ⟨raised, reacted, flag⟩

end Sys2Proof.Machine
end

section
/-! SUPPORT. The frame event of a detector, by the state that it finds (R139 to R144). -/

namespace Sys2Proof.Machine

variable {d : Detector} {b : Byte}

/-! ### The class of a byte (R139) -/

theorem classify_guard_iff : d.classify b = .guard ↔ b = d.cfg.guard := by
  unfold Detector.classify
  split
  · next h => simp [h]
  · next h =>
    refine iff_of_false ?_ h
    split
    · split <;> exact nofun
    · split <;> exact nofun

theorem alternates_iff {c : DetConfig} {prev : Option Byte} :
    c.alternates prev b = true ↔ ∀ p, prev = some p → (p ≠ c.c1 ∧ p ≠ c.c2) ∨ p ≠ b := by
  cases prev with
  | none => simp [DetConfig.alternates]
  | some p => simp [DetConfig.alternates, DetConfig.isCode]

theorem classify_command_iff : d.classify b = .command ↔ b ≠ d.cfg.guard ∧ ((d.cfg.dual = false ∧ b = d.cfg.c1) ∨
    (d.cfg.dual = true ∧ (b = d.cfg.c1 ∨ b = d.cfg.c2) ∧
      ∀ p, d.prev = some p → (p ≠ d.cfg.c1 ∧ p ≠ d.cfg.c2) ∨ p ≠ b)) := by
  rw [← alternates_iff]
  unfold Detector.classify
  by_cases hg : b = d.cfg.guard
  · simp [hg]
  · cases d.cfg.dual <;> simp [hg, DetConfig.isCode]

/-! ### The event by the state that it finds -/

/-- The byte of a frame event becomes the byte before, and none is left over. -/
def Detector.heard (d : Detector) (b : Byte) : Detector := { d with prev := some b, handed := none }

theorem frame_blocking (h : d.state ≠ .unbound) :
    d.frame true b = (if d.state = .blocked then { d with release := 0 } else d.block).heard b := by
  unfold Detector.frame
  rw [if_neg h, if_pos rfl, if_neg h]
  rfl

theorem frame_inBlocked (h : d.state = .blocked) : d.frame false b = (d.inBlocked (d.classify b)).heard b := by
  simp [Detector.frame, Detector.heard, h]

theorem frame_inGuard (h : d.state = .guard) : d.frame false b = (d.inGuard (d.classify b)).heard b := by
  simp [Detector.frame, Detector.heard, h]

theorem frame_inPending (h : d.state = .pending) : d.frame false b = (d.inPending (d.classify b)).heard b := by
  simp [Detector.frame, Detector.heard, h]

theorem frame_inCommand (h : d.state = .command) : d.frame false b = (d.inCommand (d.classify b)).heard b := by
  simp [Detector.frame, Detector.heard, h]

theorem frame_inTrail (h : d.state = .trail) : d.frame false b = (d.inTrail (d.classify b)).heard b := by
  simp [Detector.frame, Detector.heard, h]

/-- A prolongation that runs out leaves the frame to GUARD (R143). -/
theorem frame_trail_out (h : d.state = .trail) (hp : d.prolong ≤ 1) :
    d.frame false b = { d with state := .guard, prolong := d.prolong - 1 }.frame false b := by
  rw [frame_inTrail h, frame_inGuard rfl]
  exact congrArg (Detector.heard · b) (if_pos hp)

theorem frame_trail_on (h : d.state = .trail) (hp : 1 < d.prolong) : d.frame false b =
    (match d.classify b with
      | .guard => { d with prolong := d.prolong - 1, unknown := 0 }
      | .command => { d with state := .command, prolong := 0, release := 0, unknown := 0 }
      | .unknown => { d with prolong := d.prolong - 1 }.unknownFrame : Detector).heard b := by
  rw [frame_inTrail h]
  refine congrArg (Detector.heard · b) ((if_neg (by omega)).trans ?_)
  cases d.classify b <;> rfl

/-! ### What stays bound -/

theorem unknownFrame_ne (h : d.state ≠ .unbound) : d.unknownFrame.state ≠ .unbound := by
  unfold Detector.unknownFrame
  split
  · exact nofun
  · exact h

theorem inGuard_ne (h : d.state ≠ .unbound) (c : FrameClass) : (d.inGuard c).state ≠ .unbound := by
  cases c with
  | guard => exact h
  | command =>
    unfold Detector.inGuard
    dsimp only
    split
    · exact nofun
    · exact nofun
  | unknown => exact unknownFrame_ne h

theorem inPending_ne (h : d.state ≠ .unbound) (c : FrameClass) : (d.inPending c).state ≠ .unbound := by
  cases c with
  | guard => exact nofun
  | command =>
    unfold Detector.inPending
    dsimp only
    split
    · exact nofun
    · exact h
  | unknown => exact unknownFrame_ne nofun

theorem inCommand_ne (h : d.state ≠ .unbound) (c : FrameClass) : (d.inCommand c).state ≠ .unbound := by
  cases c with
  | guard =>
    unfold Detector.inCommand
    dsimp only
    split
    · split
      · exact nofun
      · exact nofun
    · exact h
  | command => exact h
  | unknown => exact unknownFrame_ne h

theorem inTrail_ne (h : d.state ≠ .unbound) (c : FrameClass) : (d.inTrail c).state ≠ .unbound := by
  unfold Detector.inTrail
  dsimp only
  split
  · exact inGuard_ne (by exact nofun) c
  · cases c with
    | guard => exact h
    | command => exact nofun
    | unknown => exact unknownFrame_ne h

theorem inBlocked_ne (h : d.state ≠ .unbound) (c : FrameClass) : (d.inBlocked c).state ≠ .unbound := by
  cases c with
  | guard =>
    unfold Detector.inBlocked
    dsimp only
    split
    · exact nofun
    · exact h
  | command => exact h
  | unknown => exact h

theorem frame_blocking_state (h : d.state ≠ .unbound) : (d.frame true b).state = .blocked := by
  rw [frame_blocking h]
  split
  · assumption
  · rfl

/-- No frame event makes a detector UNBOUND. -/
theorem frame_ne (h : d.state ≠ .unbound) (blocked : Bool) : (d.frame blocked b).state ≠ .unbound := by
  cases blocked with
  | true => simp [frame_blocking_state h]
  | false =>
    cases hs : d.state with
    | unbound => exact absurd hs h
    | blocked => exact frame_inBlocked hs ▸ inBlocked_ne h _
    | guard => exact frame_inGuard hs ▸ inGuard_ne h _
    | pending => exact frame_inPending hs ▸ inPending_ne h _
    | command => exact frame_inCommand hs ▸ inCommand_ne h _
    | trail => exact frame_inTrail hs ▸ inTrail_ne h _

/-! ### Restarts (R145) -/

theorem restart_pending (h : d.state = .pending) : d.restart = { d with persist := 0 } := by rw [Detector.restart, h]

theorem restart_release (h : d.state = .command ∨ d.state = .blocked) : d.restart = { d with release := 0 } := by
  obtain h | h := h <;> rw [Detector.restart, h]

theorem restart_still (h : d.state = .guard ∨ d.state = .trail) : d.restart = d := by
  obtain h | h := h <;> rw [Detector.restart, h]

theorem restart_unbound (h : d.state = .unbound) : d.restart = d := by rw [Detector.restart, h]

/-- A second notice of one frame changes nothing. -/
theorem restart_restart (d : Detector) : d.restart.restart = d.restart := by
  cases h : d.state with
  | unbound => rw [restart_unbound h, restart_unbound h]
  | pending => rw [restart_pending ((restart_state d).trans h), restart_pending h]
  | guard => rw [restart_still (.inl h), restart_still (.inl h)]
  | trail => rw [restart_still (.inr h), restart_still (.inr h)]
  | command => rw [restart_release (.inl ((restart_state d).trans h)), restart_release (.inl h)]
  | blocked => rw [restart_release (.inr ((restart_state d).trans h)), restart_release (.inr h)]

theorem restart_handed (d : Detector) : d.restart.handed = d.handed := by
  unfold Detector.restart
  split <;> rfl

end Sys2Proof.Machine
end

section
/-! SUPPORT. The restart notices of a station frame at one detector (R81, R107, R145): those of a deskew jump at its read. -/

namespace Sys2Proof.Machine

variable {s t u : State} {k : Trunk} {n : Idx8} {id : RecId} {dir : Side} {d e f : Detector} {h1 h2 : Prop}

/-! ### What a notice makes of one detector -/

/-- A detector `d` is restarted if it is hit, and stays else. -/
structure Noticed (hit : Prop) (d e : Detector) : Prop where
  restarts : hit → e = d.restart
  stays : ¬ hit → e = d

theorem Noticed.refl (h : ¬ h1) : Noticed h1 d d := ⟨fun hit => absurd hit h, fun _ => rfl⟩

/-- One notice after another is one restart. -/
theorem Noticed.trans (h : Noticed h1 d e) (g : Noticed h2 e f) : Noticed (h1 ∨ h2) d f where
  restarts hit := by
    by_cases hit1 : h1
    · have first := h.restarts hit1
      by_cases hit2 : h2
      · rw [g.restarts hit2, first, restart_restart]
      · rw [g.stays hit2, first]
    · rw [g.restarts (hit.resolve_left hit1), h.stays hit1]
  stays miss := by
    rw [not_or] at miss
    rw [g.stays miss.2, h.stays miss.1]

theorem Noticed.congr (h : Noticed h1 d e) (i : h1 ↔ h2) : Noticed h2 d e := ⟨h.restarts ∘ i.2, h.stays ∘ mt i.1⟩

theorem Noticed.kept (h : Noticed h1 d e) : e.state = d.state ∧ e.binding = d.binding ∧ e.handed = d.handed := by
  by_cases hit : h1
  · rw [h.restarts hit]
    exact ⟨restart_state d, restart_binding d, restart_handed d⟩
  · rw [h.stays hit]
    exact ⟨rfl, rfl, rfl⟩

theorem Noticed.binding (h : Noticed h1 d e) : e.binding = d.binding := h.kept.2.1

/-! ### The notice of one port -/

/-- A notice hits the same detectors in two states with the same map and the same ends and states of the records. -/
theorem noticeHits_congr (map : t.ct.activeMap = s.ct.activeMap) (items : ∀ id, (t.record id).mapItems = (s.record id).mapItems)
    (p : Port) : NoticeHits t p id dir ↔ NoticeHits s p id dir := by
  have state : (t.record id).state = (s.record id).state := (congrArg MapItems.state (items id) :)
  have ends : (t.record id).ends = (s.record id).ends := (congrArg MapItems.ends (items id) :)
  unfold NoticeHits State.ownersOn Record.portOf
  rw [map, state, ends]

theorem restartDets_noticed (hb : (s.det n).binding = some (id, dir)) (p : Port) :
    Noticed (NoticeHits s p id dir) (s.det n) ((s.restartDets p).det n) := by
  rw [det_restartDets, hb]
  exact ⟨fun hit => if_pos (noticeHits_iff.1 hit), fun miss => if_neg (mt noticeHits_iff.2 miss)⟩

theorem slipNotice_noticed (hb : (s.det n).binding = some (id, dir)) (p : Port) :
    Noticed (NoticeHits s p id dir) (s.det n) ((s.slipNotice p).det n) := by
  rw [det_slipNotice, hb]
  exact ⟨fun hit => if_pos (noticeHits_iff.1 hit), fun miss => if_neg (mt noticeHits_iff.2 miss)⟩

/-- The notices of several ports. -/
theorem foldl_restartDets_noticed {α : Type} (p : α → Port) (l : List α) (s : State) (hb : (s.det n).binding = some (id, dir)) :
    Noticed (∃ a ∈ l, NoticeHits s (p a) id dir) (s.det n) ((l.foldl (fun s a => s.restartDets (p a)) s).det n) := by
  induction l generalizing s with
  | nil => exact .refl (by simp)
  | cons a as ih =>
    have first := restartDets_noticed hb (p a)
    have rest := ih (s.restartDets (p a)) (first.binding.trans hb)
    refine (first.trans rest).congr ?_
    have same (q : Port) : NoticeHits (s.restartDets (p a)) q id dir ↔ NoticeHits s q id dir :=
      noticeHits_congr rfl (fun _ => rfl) q
    simp [same]

/-! ### An anchoring, and the read that makes it (R104 to R107) -/

/-- A step has brought the trunk under a hold that awaits its anchor frame. -/
def Anchors (s t : State) (k : Trunk) : Prop := (t.deskew k).hold = .awaiting ∧ (s.deskew k).hold ≠ .awaiting

theorem anchor_noticed (hb : (s.det n).binding = some (id, dir)) (k : Trunk) :
    Noticed (s.ps.anchored = true ∧ NoticeHits s .trunk id dir) (s.det n) ((s.anchor k).det n) := by
  unfold State.anchor
  split
  · next ha =>
    refine Noticed.congr (slipNotice_noticed (s := (s.setDeskew k .anchored).setPort k _) hb .trunk) ?_
    simp only [ha, true_and]
    exact noticeHits_congr rfl (fun _ => rfl) _
  · next ha => exact .refl fun h => ha h.1

/-- A trunk out of its window, ahead of an anchoring (R105). -/
def State.windowLost (s : State) (k : Trunk) : State :=
  (s.setPort k { s.port k with windowLosses := bump (s.port k).windowLosses }).setDeskew k
    { s.deskew k with state := .outOfWindow, missing := 0, present := 0 }

theorem loseWindow_eq (s : State) (k : Trunk) : s.loseWindow k =
    (if s.usable (otherTrunk k) then s.windowLost k else (s.windowLost k).anchor k).raise (trunkFlag k) := by
  cases k <;> rfl

/-- What the read of one trunk makes of the detectors, and of what an anchoring depends on. -/
structure ReadNoticed (s t : State) (k : Trunk) (res : ReadResult) : Prop where
  other : t.deskew (otherTrunk k) = s.deskew (otherTrunk k)
  stays : ¬ Anchors s t k → t.ps.anchored = s.ps.anchored
  beside : Anchors s t k → s.usable (otherTrunk k) = false
  loses : Anchors s t k → res = .missing ∧ (s.deskew k).state = .inWindow
  det : ∀ n id dir, (s.det n).binding = some (id, dir) →
    Noticed (s.ps.anchored = true ∧ Anchors s t k ∧ NoticeHits s .trunk id dir) (s.det n) (t.det n)

/-- A read that makes no anchoring leaves the detectors as they are. -/
theorem ReadNoticed.of_quiet {res : ReadResult} (dets : t.dets = s.dets) (anchored : t.ps.anchored = s.ps.anchored)
    (other : t.deskew (otherTrunk k) = s.deskew (otherTrunk k)) (hold : ¬ Anchors s t k) : ReadNoticed s t k res where
  other := other
  stays _ := anchored
  beside h := absurd h hold
  loses h := absurd h hold
  det n id dir _ := by
    have same : t.det n = s.det n := by rw [State.det, dets]; rfl
    rw [same]
    exact .refl fun h => hold h.2.1

theorem afterRead_hold {x : Deskew} {r : Nat} {res : ReadResult} (h : (x.afterRead r res).hold = .awaiting) :
    x.hold = .awaiting := by
  cases res with
  | off => exact h
  | held => exact h
  | missing => cases h
  | present _ => cases h

theorem count_hold (x : Deskew) (res : ReadResult) : (x.count res).hold = x.hold := by
  unfold Deskew.count
  split <;> rfl

theorem usable_setDeskew_other (s : State) (k : Trunk) (x : Deskew) :
    (s.setDeskew k x).usable (otherTrunk k) = s.usable (otherTrunk k) := by cases k <;> rfl

theorem not_anchors {r : Nat} {res : ReadResult} (h : (t.deskew k).hold = ((s.deskew k).afterRead r res).hold) :
    ¬ Anchors s t k := fun ⟨after, before⟩ => before (afterRead_hold (h ▸ after))

theorem windowLost_deskew (s : State) (k : Trunk) : (s.windowLost k).deskew (otherTrunk k) = s.deskew (otherTrunk k) ∧
    ((s.windowLost k).deskew k).hold = (s.deskew k).hold := by cases k <;> exact ⟨rfl, rfl⟩

theorem applyRead_noticed {res : ReadResult} (found : res = .missing → (s.deskew k).hold ≠ .awaiting) :
    ReadNoticed s (s.applyRead k res) k res := by
  unfold State.applyRead
  dsimp only
  have read := deskew_setDeskew_self s k ((s.deskew k).afterRead s.ps.readPos res)
  have beside := deskew_setDeskew_other s k ((s.deskew k).afterRead s.ps.readPos res)
  have usable := usable_setDeskew_other s k ((s.deskew k).afterRead s.ps.readPos res)
  have table : (s.setDeskew k ((s.deskew k).afterRead s.ps.readPos res)).ct = s.ct := rfl
  have dets : (s.setDeskew k ((s.deskew k).afterRead s.ps.readPos res)).dets = s.dets := rfl
  have anchored : (s.setDeskew k ((s.deskew k).afterRead s.ps.readPos res)).ps.anchored = s.ps.anchored := rfl
  generalize s.setDeskew k ((s.deskew k).afterRead s.ps.readPos res) = m at *
  split
  · next hl =>
    obtain ⟨other, hold⟩ := windowLost_deskew m k
    rw [loseWindow_eq, usable]
    split
    · exact .of_quiet dets anchored (other.trans beside) (not_anchors (hold.trans (by rw [read])))
    · next hu =>
      obtain ⟨missing, window, -⟩ := of_decide_eq_true hl
      have lost := found missing
      have self : Anchors s (((m.windowLost k).anchor k).raise (trunkFlag k)) k :=
        ⟨congrArg Deskew.hold (anchor_deskew_self (m.windowLost k) k), lost⟩
      refine ⟨(anchor_deskew_other _ k).trans (other.trans beside), fun h => absurd self h, fun _ => by simpa using hu,
        fun _ => ⟨missing, window⟩, fun n id dir hb => ?_⟩
      have same : (m.windowLost k).det n = s.det n := congrArg (fun v : Vector Detector 8 => v.get n) dets
      have hit : (m.windowLost k).ps.anchored = s.ps.anchored := anchored
      have noticed := anchor_noticed (s := m.windowLost k) (same ▸ hb) k
      rw [same, hit] at noticed
      refine noticed.congr (and_congr_right fun _ => ?_)
      rw [and_iff_right self]
      exact noticeHits_congr (congrArg CircuitTable.activeMap table)
        (fun id => congrArg (fun c : CircuitTable => (c.records.get id).mapItems) table) _
  · split
    · exact .of_quiet dets anchored ((deskew_setDeskew_other m k _).trans beside)
        (not_anchors ((congrArg Deskew.hold (deskew_setDeskew_self m k _)).trans (by rw [read])))
    · exact .of_quiet dets anchored ((deskew_setDeskew_other m k _).trans beside)
        (not_anchors ((congrArg Deskew.hold (deskew_setDeskew_self m k _)).trans (by rw [count_hold, read])))

/-! ### The read of both trunks -/

theorem readOf_missing (h : s.readOf k = .missing) : (s.port k).align = .aligned ∧ (s.deskew k).hold ≠ .awaiting := by
  unfold State.readOf at h
  dsimp only at h
  split at h
  · cases h
  · next ha =>
    split at h
    · cases h
    · next hh => exact ⟨not_not.1 ha, fun hold => hh (.inl hold)⟩

theorem applyReads_order (s : State) (res : Pair ReadResult) : ∃ k, s.applyReads res =
    (s.applyRead k (res.get k)).applyRead (otherTrunk k) (res.get (otherTrunk k)) := by
  unfold State.applyReads
  split
  · exact ⟨.b, rfl⟩
  · exact ⟨.a, rfl⟩

theorem reads_get (s : State) (k : Trunk) : s.reads.get k = s.readOf k := by cases k <;> rfl

/-- One trunk anchors at most in a read, and the detectors of the jump's records are restarted unless it is the first since reset. -/
theorem applyReads_noticed (hb : (s.det n).binding = some (id, dir)) :
    Noticed (s.ps.anchored = true ∧ (∃ k, Anchors s (s.applyReads s.reads) k) ∧ NoticeHits s .trunk id dir) (s.det n)
      ((s.applyReads s.reads).det n) := by
  obtain ⟨k, order⟩ := applyReads_order s s.reads
  rw [order, reads_get, reads_get]
  have first := applyRead_noticed (s := s) (k := k) fun h => (readOf_missing h).2
  have path := applyRead_path s k (s.readOf k)
  generalize s.applyRead k (s.readOf k) = m at *
  have second := applyRead_noticed (s := m) (k := otherTrunk k) (res := s.readOf (otherTrunk k)) fun h => by
    rw [first.other]
    exact (readOf_missing h).2
  generalize m.applyRead (otherTrunk k) (s.readOf (otherTrunk k)) = t at *
  have stays : t.deskew k = m.deskew k := by simpa only [otherTrunk_otherTrunk] using second.other
  have anchors : (∃ j, Anchors s t j) ↔ Anchors s m k ∨ Anchors m t (otherTrunk k) := by
    have self : Anchors s t k ↔ Anchors s m k := by rw [Anchors, stays]; rfl
    have beside : Anchors s t (otherTrunk k) ↔ Anchors m t (otherTrunk k) := by rw [Anchors, ← first.other]; rfl
    rw [← self, ← beside]
    refine ⟨fun ⟨j, h⟩ => ?_, fun h => h.elim (⟨_, ·⟩) (⟨_, ·⟩)⟩
    by_cases hj : j = k
    · exact .inl (hj ▸ h)
    · exact .inr (eq_otherTrunk hj ▸ h)
  have once (h : Anchors s m k) : ¬ Anchors m t (otherTrunk k) := fun g => by
    obtain ⟨missing, window⟩ := second.loses g
    have usable := first.beside h
    rw [first.other] at window
    simp [State.usable, (readOf_missing missing).1, window] at usable
  have hits : NoticeHits m .trunk id dir ↔ NoticeHits s .trunk id dir :=
    noticeHits_congr (by rw [path.table]) (fun id => by rw [path.record id]; rfl) _
  have det := first.det n id dir hb
  refine (det.trans (second.det n id dir (det.binding.trans hb))).congr ?_
  rw [hits, anchors]
  by_cases h : Anchors s m k
  · simp [h, once h]
  · simp [h, first.stays h]

end Sys2Proof.Machine
end

section
/-! SUPPORT. The detectors' part of a station frame at one detector, in both orders (R139, R140, R145, log 6). -/

namespace Sys2Proof.Machine

variable {s t u w : State} {n : Idx8} {id : RecId} {dir : Side} {d : Detector} {inp : FrameIn} {res : Pair ReadResult}

/-! ### The work up to the detectors -/

theorem foldl_countSlips_dets (l : List Idx8) (s : State) : (l.foldl (fun s m => s.countSlips (.trib m)) s).dets = s.dets := by
  induction l generalizing s with
  | nil => rfl
  | cons m ms ih => exact ih (s.countSlips (.trib m))

theorem filled_dets (u : State) (inp : FrameIn) : (u.filled inp).dets = (u.applyReads u.reads).dets :=
  foldl_countSlips_dets (u.repeatsNow inp) u.engineDone

theorem filled_deskew (u : State) (inp : FrameIn) (k : Trunk) : (u.filled inp).deskew k = (u.applyReads u.reads).deskew k := by
  rw [State.deskew, (filled_filled u inp).path]
  rfl

theorem filled_mapItems (u : State) (inp : FrameIn) (id : RecId) : ((u.filled inp).record id).mapItems = (u.record id).mapItems := by
  rw [(filled_filled u inp).record id]
  exact (psRead_work u u.reads).items id

theorem filled_noticeHits (u : State) (inp : FrameIn) (p : Port) :
    NoticeHits (u.filled inp) p id dir ↔ NoticeHits u p id dir :=
  noticeHits_congr (by rw [(filled_filled u inp).table]) (filled_mapItems u inp) p

/-- The jump of the frame's read has restarted the detectors that it hits. -/
theorem filled_noticed (hb : (u.det n).binding = some (id, dir)) (inp : FrameIn) :
    Noticed (u.ps.anchored = true ∧ (∃ k, Anchors u (u.filled inp) k) ∧ NoticeHits (u.filled inp) .trunk id dir) (u.det n)
      ((u.filled inp).det n) := by
  have det : (u.filled inp).det n = (u.applyReads u.reads).det n := by rw [State.det, filled_dets]; rfl
  rw [det, filled_noticeHits]
  simpa only [Anchors, filled_deskew] using applyReads_noticed hb

theorem mem_notices {l : List Idx8} {p : Port} : p ∈ u.notices w l ↔
    (∃ m ∈ l, p = .trib m) ∨ (p = .trunk ∧ u.ps.anchored = true ∧ ∃ k, Anchors u w k) := by
  have pair : (∃ k, Anchors u w k) ↔ Anchors u w .a ∨ Anchors u w .b :=
    ⟨fun ⟨k, h⟩ => by cases k <;> [exact .inl h; exact .inr h], fun h => h.elim (⟨_, ·⟩) (⟨_, ·⟩)⟩
  rw [pair]
  unfold State.notices Anchors
  simp only [List.mem_append, List.mem_map, Bool.and_eq_true, Bool.or_eq_true, decide_eq_true_eq]
  refine or_congr (exists_congr fun m => and_congr_right fun _ => eq_comm) ?_
  split
  · next h => simp [h]
  · next h => simp only [List.not_mem_nil, false_iff]; exact fun g => h g.2

/-! ### The work on detectors leaves what it reads -/

theorem DetsOnly.record (h : DetsOnly s t) (id : RecId) : t.record id = s.record id := by rw [State.record, h.eq]; rfl

theorem DetsOnly.circuitBlocks (h : DetsOnly s t) (id : RecId) : t.circuitBlocks id = s.circuitBlocks id := by
  unfold State.circuitBlocks
  rw [h.record]

theorem DetsOnly.detFrame (h : DetsOnly s t) (res : Pair ReadResult) (defer : BitVec 8) (far : RecId → FarStatus) :
    t.detFrame res defer far = s.detFrame res defer far := by rw [h.eq]; rfl

theorem circuitBlocks_eq (s : State) (id : RecId) :
    s.circuitBlocks id = (decide ((s.record id).state ≠ .active) || (s.record id).far.blocks) := by
  unfold State.circuitBlocks FarStatus.blocks
  cases (s.record id).far <;> simp

theorem circuitBlocks_eq_false : s.circuitBlocks id = false ↔ (s.record id).state = .active ∧ (s.record id).far.blocks = false := by
  simp [circuitBlocks_eq]

theorem inMap_of_active {r : Record} (h : r.state = .active) : r.inMap = true := by rw [Record.inMap, h]

theorem sweptDet_open (hb : d.binding = some (id, dir)) (hc : s.circuitBlocks id = false) : s.sweptDet d = d := by
  rw [sweptDet_of_bound hb, hc]
  rfl

theorem sweptDet_blocked (hb : d.binding = some (id, dir)) (hc : s.circuitBlocks id = true) : (s.sweptDet d).state = .blocked := by
  rw [sweptDet_of_bound hb, if_pos hc]
  split
  · assumption
  · rfl

/-! ### The frame event of a detector whose record is in the map -/

section
variable {defer : BitVec 8} {far : RecId → FarStatus} (hb : d.binding = some (id, dir))
include hb

theorem detFrame_mapped (hm : (s.record id).inMap = true) : s.detFrame res defer far n d =
    if defer.getLsbD n.val && !(s.record id).failed.get dir then { d with handed := some (s.deliveredByte res id dir 0) }
    else d.frame (decide ((s.record id).state ≠ .active) || (far id).blocks || (s.record id).failed.get dir)
      (s.deliveredByte res id dir 0) := by
  unfold State.detFrame
  rw [hb]
  simp [hm]

theorem detFrame_unmapped (hm : (s.record id).inMap = false) : s.detFrame res defer far n d = d := by
  unfold State.detFrame
  rw [hb]
  simp [hm]

theorem detFrame_open (ha : (s.record id).state = .active) (hf : (s.record id).failed.get dir = false)
    (hn : defer.getLsbD n.val = false) (hr : (far id).blocks = false) :
    s.detFrame res defer far n d = d.frame false (s.deliveredByte res id dir 0) := by
  rw [detFrame_mapped hb (inMap_of_active ha), ha, hf, hn, hr]
  rfl

theorem detFrame_left (hm : (s.record id).inMap = true) (hf : (s.record id).failed.get dir = false)
    (hn : defer.getLsbD n.val = true) :
    s.detFrame res defer far n d = { d with handed := some (s.deliveredByte res id dir 0) } := by
  rw [detFrame_mapped hb hm, hf, hn]
  rfl

theorem detFrame_failed (ha : (s.record id).state = .active) (hf : (s.record id).failed.get dir = true) :
    s.detFrame res defer far n d = d.frame true (s.deliveredByte res id dir 0) := by
  rw [detFrame_mapped hb (inMap_of_active ha), hf]
  simp

/-- A BLOCKED detector whose circuit blocks it stays BLOCKED. -/
theorem detFrame_stays_blocked (hs : d.state = .blocked) (hc : s.circuitBlocks id = true) (hr : far id = (s.record id).far) :
    (s.detFrame res defer far n d).state = .blocked := by
  cases hm : (s.record id).inMap with
  | false => rw [detFrame_unmapped hb hm, hs]
  | true =>
    rw [detFrame_mapped hb hm, hr, ← circuitBlocks_eq, hc]
    split
    · exact hs
    · exact frame_blocking_state (by simp [hs])

end

/-! ### Both orders (log 6) -/

/-- Frame events ahead of the notices. -/
theorem unitWork_first (h : inp.unitsFirst = true) (w u : State) (res : Pair ReadResult) (l : List Idx8) :
    w.unitWork u res l inp = ((u.notices w l).foldl State.restartDets
      ({ w with dets := u.dets }.detFrames res inp.deferDet fun id => (u.record id).far)).sweep := if_pos h

/-- The notices ahead of the frame events. -/
def State.restarted (w : State) (l : List Idx8) : State := (l.foldl (fun s m => s.restartDets (.trib m)) w).sweep

theorem unitWork_last (h : inp.unitsFirst = false) (w u : State) (res : Pair ReadResult) (l : List Idx8) :
    w.unitWork u res l inp = (w.restarted l).detFrames res inp.deferDet fun id => ((w.restarted l).record id).far :=
  if_neg (by simp [h])

theorem sweep_only (s : State) : DetsOnly s s.sweep := by
  rw [sweep_eq]
  exact updateDets_only s _

theorem restarted_only (w : State) (l : List Idx8) : DetsOnly w (w.restarted l) :=
  (foldl_restartDets_only Port.trib l w).trans (sweep_only _)

theorem detFrames_only (s : State) (res : Pair ReadResult) (defer : BitVec 8) (far : RecId → FarStatus) :
    DetsOnly s (s.detFrames res defer far) := updateDets_only _ _

theorem traffic_det (u : State) (inp : FrameIn) (n : Idx8) :
    (u.traffic inp).det n = ((u.filled inp).unitWork u u.reads (u.repeatsNow inp) inp).det n := rfl

/-- Ahead of its frame event, a detector has been restarted by the frame's slips and jump, and swept. -/
theorem restarted_noticed (hb : (u.det n).binding = some (id, dir)) (hc : (u.filled inp).circuitBlocks id = false) (l : List Idx8) :
    Noticed (∃ p ∈ u.notices (u.filled inp) l, NoticeHits (u.filled inp) p id dir) (u.det n)
      (((u.filled inp).restarted l).det n) := by
  have jump := filled_noticed hb inp
  have slips := foldl_restartDets_noticed Port.trib l (u.filled inp) (jump.binding.trans hb)
  have only := foldl_restartDets_only Port.trib l (u.filled inp)
  have both := jump.trans slips
  rw [State.restarted, det_sweep, sweptDet_open (both.binding.trans hb) ((only.circuitBlocks id).trans hc)]
  refine both.congr ?_
  simp only [mem_notices]
  refine ⟨?_, ?_⟩
  · rintro (⟨anchored, anchors, hit⟩ | ⟨m, hm, hit⟩)
    · exact ⟨.trunk, .inr ⟨rfl, anchored, anchors⟩, hit⟩
    · exact ⟨.trib m, .inl ⟨m, hm, rfl⟩, hit⟩
  · rintro ⟨p, ⟨m, hm, rfl⟩ | ⟨rfl, anchored, anchors⟩, hit⟩
    · exact .inr ⟨m, hm, hit⟩
    · exact .inl ⟨anchored, anchors, hit⟩

/-- Frame events last: the event of a detector restarted. -/
theorem traffic_det_last (h : inp.unitsFirst = false) (hb : (u.det n).binding = some (id, dir))
    (hc : (u.filled inp).circuitBlocks id = false) :
    ∃ far e, (far id).blocks = false ∧ e.binding = some (id, dir) ∧
      Noticed (∃ p ∈ u.notices (u.filled inp) (u.repeatsNow inp), NoticeHits (u.filled inp) p id dir) (u.det n) e ∧
      (u.traffic inp).det n = (u.filled inp).detFrame u.reads inp.deferDet far n e := by
  have only := restarted_only (u.filled inp) (u.repeatsNow inp)
  have noticed := restarted_noticed hb hc (u.repeatsNow inp)
  refine ⟨fun id => (((u.filled inp).restarted (u.repeatsNow inp)).record id).far, _, ?_, noticed.binding.trans hb, noticed, ?_⟩
  · dsimp only
    rw [only.record]
    exact (circuitBlocks_eq_false.1 hc).2
  · rw [traffic_det, unitWork_last h, State.detFrames, det_updateDets, only.detFrame]

/-- Frame events first: a detector restarted after its event. -/
theorem traffic_det_first (h : inp.unitsFirst = true) (hb : (u.det n).binding = some (id, dir))
    (hc : (u.filled inp).circuitBlocks id = false) :
    Noticed (∃ p ∈ u.notices (u.filled inp) (u.repeatsNow inp), NoticeHits (u.filled inp) p id dir)
      ((u.filled inp).detFrame u.reads inp.deferDet (fun id => (u.record id).far) n (u.det n)) ((u.traffic inp).det n) := by
  rw [traffic_det, unitWork_first h]
  have only := (setDets_only (u.filled inp) u.dets).trans
    (detFrames_only { u.filled inp with dets := u.dets } u.reads inp.deferDet fun id => (u.record id).far)
  have frame : (({ u.filled inp with dets := u.dets }.detFrames u.reads inp.deferDet fun id => (u.record id).far).det n) =
      (u.filled inp).detFrame u.reads inp.deferDet (fun id => (u.record id).far) n (u.det n) := det_updateDets ..
  generalize ({ u.filled inp with dets := u.dets }.detFrames u.reads inp.deferDet fun id => (u.record id).far) = m at *
  have bound : (m.det n).binding = some (id, dir) := by rw [frame, detFrame_binding, hb]
  have noticed := foldl_restartDets_noticed (fun p => p) (u.notices (u.filled inp) (u.repeatsNow inp)) m bound
  have swept := only.trans (foldl_restartDets_only (fun p => p) (u.notices (u.filled inp) (u.repeatsNow inp)) m)
  rw [det_sweep, sweptDet_open (noticed.binding.trans bound) ((swept.circuitBlocks id).trans hc), ← frame]
  have hits (p : Port) : NoticeHits m p id dir ↔ NoticeHits (u.filled inp) p id dir :=
    noticeHits_congr (by rw [only.eq]) (fun id => by rw [only.record]) p
  simpa only [hits] using noticed

section
variable {b : Byte} (hb : (u.det n).binding = some (id, dir)) (hc : (u.filled inp).circuitBlocks id = false)
  (hf : ((u.filled inp).record id).failed.get dir = false) (hbyte : b = (u.filled inp).deliveredByte u.reads id dir 0)
include hb hc hf hbyte

theorem traffic_restart_frame (h : inp.unitsFirst = false) (hn : inp.deferDet.getLsbD n.val = false) :
    ∃ e, Noticed (∃ p ∈ u.notices (u.filled inp) (u.repeatsNow inp), NoticeHits (u.filled inp) p id dir) (u.det n) e ∧
      (u.traffic inp).det n = e.frame false b := by
  obtain ⟨far, e, clear, bound, noticed, det⟩ := traffic_det_last h hb hc
  rw [detFrame_open bound (circuitBlocks_eq_false.1 hc).1 hf hn clear, ← hbyte] at det
  exact ⟨e, noticed, det⟩

theorem traffic_frame_restart (h : inp.unitsFirst = true) (hn : inp.deferDet.getLsbD n.val = false)
    (hr : (u.record id).far.blocks = false) :
    Noticed (∃ p ∈ u.notices (u.filled inp) (u.repeatsNow inp), NoticeHits (u.filled inp) p id dir)
      ((u.det n).frame false b) ((u.traffic inp).det n) := by
  have noticed := traffic_det_first h hb hc
  rwa [detFrame_open hb (circuitBlocks_eq_false.1 hc).1 hf hn hr, ← hbyte] at noticed

theorem traffic_handed (hn : inp.deferDet.getLsbD n.val = true) : ((u.traffic inp).det n).handed = some b := by
  have mapped := inMap_of_active (circuitBlocks_eq_false.1 hc).1
  cases h : inp.unitsFirst with
  | false =>
    obtain ⟨far, e, -, bound, -, det⟩ := traffic_det_last h hb hc
    rw [det, detFrame_left bound mapped hf hn, hbyte]
  | true =>
    have handed := (traffic_det_first h hb hc).kept.2.2
    rw [handed, detFrame_left hb mapped hf hn, hbyte]

end

/-! ### Blocking conditions (R140) -/

/-- A detector whose circuit blocks it is BLOCKED by the end of the frame's work. -/
theorem traffic_blocked_circuit (hb : ((u.traffic inp).det n).binding = some (id, dir))
    (hc : (u.filled inp).circuitBlocks id = true) : ((u.traffic inp).det n).state = .blocked := by
  rw [traffic_det] at hb ⊢
  cases h : inp.unitsFirst with
  | true =>
    rw [unitWork_first h, det_sweep] at hb ⊢
    have only := ((setDets_only (u.filled inp) u.dets).trans
      (detFrames_only { u.filled inp with dets := u.dets } u.reads inp.deferDet fun id => (u.record id).far)).trans
      (foldl_restartDets_only (fun p => p) (u.notices (u.filled inp) (u.repeatsNow inp)) _)
    rw [sweptDet_binding] at hb
    exact sweptDet_blocked hb ((only.circuitBlocks id).trans hc)
  | false =>
    have only := restarted_only (u.filled inp) (u.repeatsNow inp)
    rw [unitWork_last h, State.detFrames, det_updateDets] at hb ⊢
    rw [detFrame_binding] at hb
    refine detFrame_stays_blocked hb ?_ ((only.circuitBlocks id).trans hc) rfl
    rw [State.restarted, det_sweep] at hb ⊢
    rw [sweptDet_binding] at hb
    exact sweptDet_blocked hb (((foldl_restartDets_only Port.trib (u.repeatsNow inp) (u.filled inp)).circuitBlocks id).trans hc)

/-- A detector whose source is failed is BLOCKED by the end of the frame's work. -/
theorem traffic_blocked_failed (hb : (u.det n).binding = some (id, dir)) (hs : (u.det n).state ≠ .unbound)
    (hc : (u.filled inp).circuitBlocks id = false) (hf : ((u.filled inp).record id).failed.get dir = true) :
    ((u.traffic inp).det n).state = .blocked := by
  have active := (circuitBlocks_eq_false.1 hc).1
  cases h : inp.unitsFirst with
  | false =>
    obtain ⟨far, e, -, bound, noticed, det⟩ := traffic_det_last h hb hc
    rw [det, detFrame_failed bound active hf]
    exact frame_blocking_state (by rwa [noticed.kept.1])
  | true =>
    rw [(traffic_det_first h hb hc).kept.1, detFrame_failed hb active hf]
    exact frame_blocking_state hs

end Sys2Proof.Machine
end

section
/-! SUPPORT. What the steps of a station frame leave of the detectors' bindings and states (R135, R137, R145). -/

namespace Sys2Proof.Machine

variable {s t u : State} {d : Detector}

/-! ### Restarts alone -/

/-- A work that restarts detectors and does no more to them. -/
def DetsRestarted (s t : State) : Prop := ∀ n, (t.det n).binding = (s.det n).binding ∧ (t.det n).state = (s.det n).state

theorem DetsRestarted.trans (h : DetsRestarted s t) (g : DetsRestarted t u) : DetsRestarted s u := fun n =>
  ⟨(g n).1.trans (h n).1, (g n).2.trans (h n).2⟩

theorem DetsRestarted.of_dets (h : t.dets = s.dets) : DetsRestarted s t := fun n => by
  rw [State.det, h]
  exact ⟨rfl, rfl⟩

theorem DetsRestarted.ite {c : Prop} [Decidable c] (h : DetsRestarted s t) (g : DetsRestarted s u) :
    DetsRestarted s (if c then t else u) := by
  split
  · exact h
  · exact g

theorem DetsRestarted.foldl {α : Type} {f : State → α → State} (hf : ∀ s a, DetsRestarted s (f s a)) (l : List α) (s : State) :
    DetsRestarted s (l.foldl f s) := by
  induction l generalizing s with
  | nil => exact .of_dets rfl
  | cons a as ih => exact (hf s a).trans (ih (f s a))

theorem restartDets_restarted (s : State) (p : Port) : DetsRestarted s (s.restartDets p) := fun n => by
  cases hb : (s.det n).binding with
  | none => rw [det_restartDets, hb]; exact ⟨hb, rfl⟩
  | some x =>
    have noticed := restartDets_noticed hb p
    exact ⟨noticed.binding.trans hb, noticed.kept.1⟩

theorem slipNotice_restarted (s : State) (p : Port) : DetsRestarted s (s.slipNotice p) :=
  DetsRestarted.trans (.of_dets rfl) (restartDets_restarted (s.countSlips p) p)

theorem anchor_restarted (s : State) (k : Trunk) : DetsRestarted s (s.anchor k) := by
  unfold State.anchor
  exact .ite (.trans (.of_dets rfl) (slipNotice_restarted ((s.setDeskew k .anchored).setPort k _) .trunk)) (.of_dets rfl)

theorem reanchor_restarted (s : State) : DetsRestarted s s.reanchor := by
  unfold State.reanchor
  exact .ite (.of_dets rfl) (.ite (anchor_restarted s .a) (.ite (anchor_restarted s .b) (.of_dets rfl)))

theorem changePort_restarted (s : State) (k : Trunk) (q : TrunkPort) : DetsRestarted s (s.changePort k q) := by
  have moved : DetsRestarted s (s.moved k q) := by
    unfold State.moved State.departed
    exact .ite (.trans (.of_dets rfl) (reanchor_restarted ((s.setPort k q).deskewLeave k))) (.of_dets rfl)
  exact moved.trans (.of_dets (by rw [(changePort_settled s k q).eq]))

theorem judgePort_restarted (s : State) (k : Trunk) (present : Bool) : DetsRestarted s (s.judgePort k present) :=
  changePort_restarted s k _

theorem judge_restarted (s : State) (inp : FrameIn) : DetsRestarted s (s.judge inp) := by
  rw [judge_eq]
  have tribs := (foldl_changeTrib (fun n p => p.judgeClock (inp.tribClock.getLsbD n.val)) allUnits
    (List.nodup_finRange 8) s (s.judgeTribs inp) rfl).1
  have judged : DetsRestarted s (s.judgeTribs inp) := .of_dets (by rw [tribs.eq])
  have first := judgePort_restarted (s.judgeTribs inp) .a inp.trunkAClock
  have second := judgePort_restarted ((s.judgeTribs inp).judgePort .a inp.trunkAClock) .b inp.trunkBClock
  have ports := (judged.trans first).trans second
  generalize ((s.judgeTribs inp).judgePort .a inp.trunkAClock).judgePort .b inp.trunkBClock = v at *
  exact ports.trans (.of_dets (by rw [(judgeRef_work v inp.refEdges).eq]))

theorem loseWindow_restarted (s : State) (k : Trunk) : DetsRestarted s (s.loseWindow k) := by
  have lost : DetsRestarted s (if s.usable (otherTrunk k) then s.windowLost k else (s.windowLost k).anchor k) :=
    .ite (.of_dets rfl) (.trans (.of_dets rfl) (anchor_restarted (s.windowLost k) k))
  rw [loseWindow_eq]
  exact lost.trans (.of_dets rfl)

theorem applyRead_restarted (s : State) (k : Trunk) (res : ReadResult) : DetsRestarted s (s.applyRead k res) := by
  unfold State.applyRead
  exact .ite (.trans (.of_dets rfl) (loseWindow_restarted (s.setDeskew k ((s.deskew k).afterRead s.ps.readPos res)) k))
    (.ite (.of_dets rfl) (.of_dets rfl))

theorem filled_restarted (s : State) (inp : FrameIn) : DetsRestarted s (s.filled inp) := by
  obtain ⟨k, order⟩ := applyReads_order s s.reads
  have reads : DetsRestarted s (s.applyReads s.reads) := by
    rw [order]
    exact DetsRestarted.trans (applyRead_restarted _ _ _) (applyRead_restarted _ _ _)
  exact reads.trans (.of_dets (filled_dets s inp))

/-! ### No bound detector is UNBOUND -/

/-- A detector with a binding is not UNBOUND (R135). -/
def DetsBound (s : State) : Prop := ∀ n, (s.det n).binding ≠ none → (s.det n).state ≠ .unbound

theorem DetectorLaw.bound (h : DetectorLaw s) : DetsBound s := fun n hb => mt (h n).1.2 hb

theorem DetsRestarted.bound (h : DetsRestarted s t) (law : DetsBound s) : DetsBound t := fun n => by
  rw [(h n).1, (h n).2]
  exact law n

/-- Each detector stays as it is, or is bound no longer, or leads a bound state on to a bound one. -/
theorem DetsBound.of_each (law : DetsBound s)
    (h : ∀ n, (t.det n).binding = none ∨ ((t.det n).binding = (s.det n).binding ∧
      ((s.det n).state ≠ .unbound → (t.det n).state ≠ .unbound))) : DetsBound t := fun n hb => by
  obtain free | ⟨same, leads⟩ := h n
  · exact absurd free hb
  · exact leads (law n (same ▸ hb))

theorem freeRecords_bound (gone : RecId → Bool) (law : DetsBound s) : DetsBound (s.freeRecords gone) := law.of_each fun n => by
  rw [det_freeRecords]
  split
  · exact .inl rfl
  · exact .inr ⟨rfl, id⟩

theorem sweptDet_ne (s : State) (h : d.state ≠ .unbound) : (s.sweptDet d).state ≠ .unbound := by
  unfold State.sweptDet
  split
  · exact h
  · split
    · split
      · exact h
      · exact nofun
    · exact h

theorem flip_bound (law : DetsBound s) : DetsBound s.flip := law.of_each fun n => by
  rw [det_flip, sweptDet_binding, det_installed]
  split
  · exact .inl rfl
  · exact .inr ⟨rfl, sweptDet_ne _⟩

theorem multiframeStart_bound (law : DetsBound s) : DetsBound s.multiframeStart := by
  have started : DetsBound s.stuStart := DetsRestarted.bound (.of_dets (by rw [stuStart_rest s])) law
  exact freeRecords_bound _ started

theorem newFrame_bound (law : DetsBound s) : DetsBound s.newFrame := by
  unfold State.newFrame
  split
  · have start : DetsBound (if s.stu.begun then s else s.multiframeStart) := by
      split
      · exact law
      · exact multiframeStart_bound law
    dsimp only
    generalize (if s.stu.begun then s else s.multiframeStart) = v at *
    have flipped : DetsBound (if v.flipDue then v.flip else v) := by
      split
      · exact flip_bound start
      · exact start
    exact flipped
  · exact law

theorem flush_bound (law : DetsBound s) : DetsBound s.flush := law.of_each fun n => by
  have taken : s.flush.det n = if (s.det n).handed.isSome then s.afterHanded n else s.det n :=
    det_updateDets s (fun n d => if d.handed.isSome then s.afterHanded n else d) n
  rw [taken]
  split
  · refine .inr ⟨afterHanded_binding s n, fun h => ?_⟩
    unfold State.afterHanded
    dsimp only
    split
    · exact h
    · exact frame_ne h _
  · exact .inr ⟨rfl, id⟩

/-- What goes ahead of a frame's traffic leaves no bound detector UNBOUND. -/
theorem opening_bound (inp : FrameIn) (law : DetsBound s) : DetsBound (s.opening inp) := by
  have slips : DetsRestarted s.flush (s.settledFor inp) := by
    unfold State.settledFor
    exact .ite (.foldl (fun s m => slipNotice_restarted s (.trib m)) _ _) (.of_dets rfl)
  rw [opening_eq]
  exact newFrame_bound (slips.bound (flush_bound law))

/-- The detectors' part of a frame changes no binding. -/
theorem traffic_binding (u : State) (inp : FrameIn) (n : Idx8) : ((u.traffic inp).det n).binding = (u.det n).binding := by
  rw [traffic_det]
  cases h : inp.unitsFirst with
  | true =>
    rw [unitWork_first h, det_sweep, sweptDet_binding]
    refine ((DetsRestarted.foldl restartDets_restarted _ _) n).1.trans ?_
    rw [State.detFrames, det_updateDets, detFrame_binding]
    rfl
  | false =>
    rw [unitWork_last h, State.detFrames, det_updateDets, detFrame_binding, State.restarted, det_sweep, sweptDet_binding]
    exact ((DetsRestarted.foldl (fun s m => restartDets_restarted s (.trib m)) _ _) n).1.trans (filled_restarted u inp n).1

/-- After a station frame, a detector under a blocking condition is BLOCKED (R140). -/
theorem stationFrame_blocks (law : DetectorLaw s) (inp : FrameIn) {n : Idx8} {id : RecId} {dir : Side}
    (ht : t = ((s.opening inp).traffic inp).judge inp) (hb : (t.det n).binding = some (id, dir))
    (hc : (t.record id).state ≠ .active ∨ (t.record id).failed.get dir = true ∨ (t.record id).far = .sourceFail ∨
      (t.record id).far = .conditioned) : (t.det n).state = .blocked := by
  have bound := opening_bound inp law.bound n
  generalize s.opening inp = u at *
  have judged := (judge_judged (u.traffic inp) inp).record id
  have same : (u.traffic inp).record id = (u.filled inp).record id := by
    unfold State.record
    rw [(traffic_sent u inp).ct]
  obtain ⟨binding, state⟩ := judge_restarted (u.traffic inp) inp n
  rw [← ht] at judged binding state
  rw [judged, same] at hc
  rw [binding] at hb
  rw [state]
  cases blocks : (u.filled inp).circuitBlocks id with
  | true => exact traffic_blocked_circuit hb blocks
  | false =>
    rw [traffic_binding] at hb
    refine traffic_blocked_failed hb (bound (by simp [hb])) blocks ?_
    simp only [State.circuitBlocks, decide_eq_false_iff_not, not_or, not_not] at blocks
    simpa [blocks] using hc

end Sys2Proof.Machine
end

section
/-! The rows of a detector's frame event, and the station frame's (R81, R107, R139 to R146). -/

namespace Sys2Proof.Machine

variable {s t : State} {n : Idx8} {d : Detector} {b : Byte} {id : RecId} {dir : Side}

/-! ### The event of the byte handed to one detector (R146, log 4) -/

theorem det_takeHanded (s : State) (n m : Idx8) : (s.takeHanded n).det m = if m = n then s.afterHanded n else s.det m :=
  det_updateDets ..

/-- The record of the one detector that changes state is posted by its attention enable. -/
theorem takeHanded_posts (hb : (s.det n).binding = some (id, dir)) (hm : (s.afterHanded n).state ≠ (s.det n).state) :
    s.takeHanded n = { s with dets := (s.takeHanded n).dets, au := Posted s id } := by
  have moved : (allUnits.filterMap fun m => if (if m = n then s.afterHanded n else s.det m).state = (s.det m).state then none
      else ((s.det m).binding.or (if m = n then s.afterHanded n else s.det m).binding).map Prod.fst).contains = (· == id) := by
    funext j
    rw [Bool.eq_iff_iff]
    simp only [List.contains_iff_mem, List.mem_filterMap, Option.ite_none_left_eq_some, beq_iff_eq]
    constructor
    · rintro ⟨m, -, hne, hj⟩
      by_cases h : m = n
      · subst h
        simpa [hb, eq_comm] using hj
      · simp [h] at hne
    · rintro rfl
      exact ⟨n, List.mem_finRange n, by simpa using hm, by simp [hb]⟩
  have ids : (allIds.filter fun j => (j == id) && (s.record j).fields.attention) =
      if (s.record id).fields.attention then [id] else [] := by
    rw [filter_allIds_eq (j := id) (by simp +contextual)]
    simp
  unfold State.takeHanded State.updateDets
  dsimp only
  rw [moved, ids]
  exact congrArg (fun a : Attention => { s with
    dets := mapVec (fun m d => if unitAt m = n then s.afterHanded n else d) s.dets, au := a }) (post_if_au s id _)

/-! ### The outcomes that have a row of their own -/

theorem classify_guard (h : b = d.cfg.guard) : d.classify b = .guard := classify_guard_iff.2 h

theorem frame_unblocks (hs : d.state = .blocked) (hg : b = d.cfg.guard) (hr : d.release + 1 = d.cfg.r) :
    d.frame false b = { d with state := .guard, release := 0, unknown := 0, prev := some b, handed := none } := by
  rw [frame_inBlocked hs, classify_guard hg]
  exact congrArg (Detector.heard · b) (if_pos hr.ge)

theorem frame_recognises (hc : d.classify b = .command)
    (hp : d.state = .guard ∧ d.cfg.p = 1 ∨ d.state = .pending ∧ d.persist + 1 = d.cfg.p) : d.frame false b = { d with
      state := .command, persist := d.cfg.p, release := 0, unknown := 0, commands := bump d.commands
      prev := some b, handed := none } := by
  obtain ⟨hs, h1⟩ | ⟨hs, h1⟩ := hp
  · rw [frame_inGuard hs, hc, h1]
    exact congrArg (Detector.heard · b) (if_pos h1)
  · rw [frame_inPending hs, hc, ← h1]
    exact congrArg (Detector.heard · b) (if_pos h1.ge)

theorem frame_releases (hs : d.state = .command) (hg : b = d.cfg.guard) (hr : d.release + 1 = d.cfg.r) :
    d.frame false b = { d with
      state := if d.cfg.m = 0 then .guard else .trail, prolong := if d.cfg.m = 0 then d.prolong else d.cfg.m
      release := d.cfg.r, unknown := 0, prev := some b, handed := none } := by
  rw [frame_inCommand hs, classify_guard hg, ← hr]
  refine (congrArg (Detector.heard · b) (if_pos hr.ge)).trans ?_
  split
  · rfl
  · rfl

theorem frame_expires (hs : d.state = .trail) (hg : b = d.cfg.guard) (hp : d.prolong = 1) : d.frame false b = { d with
    state := .guard, prolong := 0, unknown := 0, prev := some b, handed := none } := by
  rw [frame_trail_out hs hp.le, frame_inGuard rfl, classify_guard (d := { d with state := .guard, prolong := _ }) hg, hp]
  rfl

/-- The U-th unknown frame in a row (R144). -/
theorem unknownFrame_last (h : d.unknown + 1 = d.cfg.u) : d.unknownFrame = { d.block with blockedEvents := bump d.blockedEvents } :=
  if_pos h.ge

theorem unknownFrame_short (h : d.unknown + 1 < d.cfg.u) : d.unknownFrame = { d with unknown := d.unknown + 1 } :=
  if_neg (by omega)

theorem frame_gives_up (hc : d.classify b = .unknown) (hu : d.unknown + 1 = d.cfg.u)
    (hs : d.state = .guard ∨ d.state = .pending ∨ d.state = .command ∨ d.state = .trail) : d.frame false b = { d with
      state := .blocked, persist := 0, release := 0, prolong := 0, unknown := 0
      blockedEvents := bump d.blockedEvents, prev := some b, handed := none } := by
  obtain hs | hs | hs | hs := hs
  · rw [frame_inGuard hs, hc]
    exact congrArg (Detector.heard · b) (unknownFrame_last hu)
  · rw [frame_inPending hs, hc]
    exact congrArg (Detector.heard · b) (unknownFrame_last (d := { d with state := .guard, persist := 0 }) hu)
  · rw [frame_inCommand hs, hc]
    exact congrArg (Detector.heard · b) (unknownFrame_last (d := { d with release := 0 }) hu)
  · by_cases hp : d.prolong ≤ 1
    · have kept : ({ d with state := .guard, prolong := d.prolong - 1 } : Detector).classify b = .unknown := hc
      rw [frame_trail_out hs hp, frame_inGuard rfl, kept]
      exact congrArg (Detector.heard · b) (unknownFrame_last (d := { d with state := .guard, prolong := d.prolong - 1 }) hu)
    · rw [frame_trail_on hs (by omega), hc]
      exact congrArg (Detector.heard · b) (unknownFrame_last (d := { d with prolong := d.prolong - 1 }) hu)

/-- An unknown frame short of the U-th. -/
theorem frame_unknown (hb : d.state ≠ .blocked) (hu : d.state ≠ .unbound) (ht : d.state = .trail → 1 < d.prolong)
    (hc : d.classify b = .unknown) (h : d.unknown + 1 < d.cfg.u) : d.frame false b = { d with
      state := if d.state = .pending then .guard else d.state
      persist := if d.state = .pending then 0 else d.persist
      release := if d.state = .command then 0 else d.release
      prolong := if d.state = .trail then d.prolong - 1 else d.prolong
      unknown := d.unknown + 1, prev := some b, handed := none } := by
  cases hs : d.state with
  | unbound => exact absurd hs hu
  | blocked => exact absurd hs hb
  | guard =>
    rw [frame_inGuard hs, hc]
    refine (congrArg (Detector.heard · b) (unknownFrame_short h)).trans ?_
    simp [Detector.heard, hs]
  | pending =>
    rw [frame_inPending hs, hc]
    exact congrArg (Detector.heard · b) (unknownFrame_short (d := { d with state := .guard, persist := 0 }) h)
  | command =>
    rw [frame_inCommand hs, hc]
    refine (congrArg (Detector.heard · b) (unknownFrame_short (d := { d with release := 0 }) h)).trans ?_
    simp [Detector.heard, hs]
  | trail =>
    rw [frame_trail_on hs (ht hs), hc]
    refine (congrArg (Detector.heard · b) (unknownFrame_short (d := { d with prolong := d.prolong - 1 }) h)).trans ?_
    simp [Detector.heard, hs]

/-! ### The rows (R141 to R144, R146, log 4) -/

/-- No blocking condition holds (R140). -/
theorem detBlocked_open (hb : d.binding = some (id, dir)) (hc : s.circuitBlocks id = false)
    (hf : (s.record id).failed.get dir = false) : s.detBlocked d = false := by
  unfold State.detBlocked
  rw [hb]
  simp [hc, hf]

section
variable {e : Detector} (hd : (s.det n).handed = some b) (hb : (s.det n).binding = some (id, dir))
  (hc : s.circuitBlocks id = false) (hf : (s.record id).failed.get dir = false)
  (he : (s.det n).frame false b = e)
include hd hb hc hf he

theorem afterHanded_open : s.afterHanded n = e := by
  unfold State.afterHanded
  dsimp only
  rw [hd, detBlocked_open hb hc hf]
  exact he

/-- A row that is due takes the byte handed on. -/
theorem detDue_open (hr : s.inReset = false) {outcome : Detector → Detector → Bool} (ho : outcome (s.det n) e = true) :
    s.detDue n outcome = true := by
  unfold State.detDue
  rw [afterHanded_open hd hb hc hf he, ho, hr, hd]
  rfl

theorem takeHanded_row (hne : e.state ≠ (s.det n).state) : (s.takeHanded n).det n = e ∧
    (∀ m, m ≠ n → (s.takeHanded n).det m = s.det m) ∧
    s.takeHanded n = { s with dets := (s.takeHanded n).dets, au := Posted s id } := by
  have after := afterHanded_open hd hb hc hf he
  refine ⟨?_, fun m hm => ?_, takeHanded_posts hb (by rwa [after])⟩
  · rw [det_takeHanded, if_pos rfl, after]
  · rw [det_takeHanded, if_neg hm]

end

/-- Settles O51: the classes of a byte, the outcomes of a frame event, the station frame's order of notices and events, the
blocking conditions at its end, and the rows. -/
theorem detectorFrameEvents : Obligations.DetectorFrameEvents := by
  refine ⟨fun d b => ⟨classify_guard_iff, classify_command_iff⟩, fun d e b hu => ⟨fun he => ?blocked, fun he => ?outcomes⟩,
    ?stationFrame, fun d => ⟨restart_pending, restart_release, restart_still⟩,
    fun s inp hr law => ⟨_, exec_stationFrame s inp hr, fun d id dir => stationFrame_blocks law inp rfl⟩, ?rows⟩
  case blocked =>
    rw [he, frame_blocking hu]
    exact ⟨fun hs => by rw [if_pos hs]; rfl, fun hs => by rw [if_neg hs]; rfl⟩
  case outcomes =>
    subst he
    refine ⟨fun hs hg => ?_, fun hs hg hr => ?_, fun hs hg => ?_, fun hs hc hp => ?_, fun hs hg => ?_, fun hs hc hp => ?_,
      fun hs hg hr => ?_, fun hs hc => ?_, frame_trail_out, fun hs hp hg => ?_, fun hs hp hc => ?_,
      fun hs ht hc h => frame_unknown hs hu ht hc h⟩
    · rw [frame_inBlocked hs]
      cases hc : d.classify b with
      | guard => exact absurd (classify_guard_iff.1 hc) hg
      | command => rfl
      | unknown => rfl
    · rw [frame_inBlocked hs, classify_guard hg]
      exact congrArg (Detector.heard · b) (if_neg (by omega))
    · rw [frame_inGuard hs, classify_guard hg]
      rfl
    · rw [frame_inGuard hs, hc]
      exact congrArg (Detector.heard · b) (if_neg hp)
    · rw [frame_inPending hs, classify_guard hg]
      rfl
    · rw [frame_inPending hs, hc]
      exact congrArg (Detector.heard · b) (if_neg (by omega))
    · rw [frame_inCommand hs, classify_guard hg]
      exact congrArg (Detector.heard · b) (if_neg (by omega))
    · rw [frame_inCommand hs, hc]
      rfl
    · rw [frame_trail_on hs hp, classify_guard hg]
      rfl
    · rw [frame_trail_on hs hp, hc]
      rfl
  case stationFrame =>
    rintro s u w inp n id dir b hit hr rfl rfl hb - - hc hf hbyte rfl
    refine ⟨exec_stationFrame s inp hr, fun hn h => ?_, fun hn h far => ?_, traffic_handed hb hc hf hbyte⟩
    · obtain ⟨e, noticed, det⟩ := traffic_restart_frame hb hc hf hbyte h hn
      exact ⟨fun hit => by rw [det, noticed.restarts hit], fun miss => by rw [det, noticed.stays miss]⟩
    · have noticed := traffic_frame_restart hb hc hf hbyte h hn far
      exact ⟨noticed.restarts, noticed.stays⟩
  case rows =>
    rintro s n d b id dir hr rfl hd hb hc hf
    refine ⟨fun hs hg hrun => ?_, fun hclass hp => ?_, fun hs hg hrun => ?_, fun hs hg hp => ?_, fun hclass hu hs => ?_⟩
    · have he := frame_unblocks hs hg hrun
      obtain ⟨det, others, rest⟩ := takeHanded_row hd hb hc hf he (by simp [hs])
      exact ⟨_, congrArg Host.Outcome.next (if_pos (detDue_open hd hb hc hf he hr (by simp [hs]))), det, others, rest⟩
    · have he := frame_recognises hclass hp
      have before : (s.det n).state = .guard ∨ (s.det n).state = .pending := hp.imp And.left And.left
      obtain ⟨det, others, rest⟩ := takeHanded_row hd hb hc hf he (by obtain hs | hs := before <;> simp [hs])
      exact ⟨_, congrArg Host.Outcome.next (if_pos (detDue_open hd hb hc hf he hr (by simpa using before))), det,
        by rw [det]; rfl, others, rest⟩
    · have he := frame_releases hs hg hrun
      have after : (if (s.det n).cfg.m = 0 then DetState.guard else .trail) = .trail ∨
          (if (s.det n).cfg.m = 0 then DetState.guard else .trail) = .guard := by
        split
        · exact .inr rfl
        · exact .inl rfl
      obtain ⟨det, others, rest⟩ := takeHanded_row hd hb hc hf he (by obtain h | h := after <;> simp [h, hs])
      have due := detDue_open hd hb hc hf he hr
        (outcome := fun d e => decide (d.state = .command ∧ (e.state = .trail ∨ e.state = .guard))) (decide_eq_true ⟨hs, after⟩)
      exact ⟨_, congrArg Host.Outcome.next (if_pos due), others, rest, det⟩
    · have he := frame_expires hs hg hp
      obtain ⟨det, others, rest⟩ := takeHanded_row hd hb hc hf he (by simp [hs])
      exact ⟨_, congrArg Host.Outcome.next (if_pos (detDue_open hd hb hc hf he hr (by simp [hs, hp]))), det,
        by rw [det]; rfl, others, rest⟩
    · have he := frame_gives_up hclass hu hs
      have armed : (s.det n).state ≠ .blocked := by obtain h | h | h | h := hs <;> simp [h]
      obtain ⟨det, others, rest⟩ := takeHanded_row hd hb hc hf he armed.symm
      have due := detDue_open hd hb hc hf he hr (outcome := fun d e => decide (d.state ≠ .blocked ∧ e.state = .blocked) &&
        !s.detBlocked d) (by rw [detBlocked_open hb hc hf]; simp [armed])
      exact ⟨_, congrArg Host.Outcome.next (if_pos due), det, others, rest⟩

end Sys2Proof.Machine
end

section
/-! A trunk frame judged in ALIGNED, and the departure that two wrong numbers or four errored words make (R96, R98). -/

namespace Sys2Proof.Machine

variable {s : State} {k : Trunk} {word seq : Byte} {header : List Byte}

/-! ### The far end's overhead (R98) -/

theorem decodeClock_code (b : Byte) : (decodeClock b).code = b.toNat % 4 := by
  have small : b.toNat % 4 < 4 := Nat.mod_lt _ (by decide)
  unfold decodeClock
  interval_cases h : b.toNat % 4 <;> rfl

/-! ### The two checks and what follows them (R96) -/

/-- The port after the two checks of the frame, with the runs `e` and `q`. -/
def TrunkPort.counted (p : TrunkPort) (word seq : Byte) (e q : Nat) : TrunkPort :=
  { p with
    errorRun := e, seqRun := q
    alignErrors := if word = 0x6C then p.alignErrors else bump p.alignErrors
    seqErrors := if seq.toNat = p.expected then p.seqErrors else bump p.seqErrors }

section
variable {p : TrunkPort} {e q : Nat} (he : e = if word = 0x6C then 0 else p.errorRun + 1)
  (hq : q = if seq.toNat = p.expected then 0 else p.seqRun + 1)
include he hq

theorem check_eq_counted : p.check word seq = p.counted word seq e q := by
  unfold TrunkPort.check TrunkPort.counted trunkWord
  simp only [he, hq, beq_iff_eq]

/-- The runs end ALIGNED at the fourth errored word or the second wrong number. -/
theorem check_departs : (p.check word seq).departs = true ↔ 4 ≤ e ∨ 2 ≤ q := by
  rw [check_eq_counted he hq]
  exact decide_eq_true_iff

theorem judge_departs (h : 4 ≤ e ∨ 2 ≤ q) (rest : List Byte) : p.judge (word :: seq :: rest) =
    (p.counted word seq e q).leave .search (rest.flatMap bitsOfByte) := by
  rw [← check_eq_counted he hq]
  exact if_pos ((check_departs he hq).2 h)

theorem judge_stays (h4 : e < 4) (h2 : q < 2) (rest : List Byte) : p.judge (word :: seq :: rest) =
    (p.counted word seq e q).stay (word :: seq :: rest) := by
  rw [← check_eq_counted he hq]
  exact if_neg fun h => by have := (check_departs he hq).1 h; omega

end

theorem stay_recorded {p : TrunkPort} (he : p.errorRun = 0) (hq : p.seqRun = 0) : p.stay header =
    { p with inRx := some (p.expected, header), expected := (p.expected + 1) % 248 }.recordFar header :=
  if_pos ⟨he, hq⟩

theorem stay_unrecorded {p : TrunkPort} (h : p.errorRun ≠ 0 ∨ p.seqRun ≠ 0) : p.stay header =
    { p with inRx := some (p.expected, header), expected := (p.expected + 1) % 248 } :=
  if_neg (by omega)

/-- A frame that stays writes the far end's items, the frame in reception and the number expected, and nothing else. -/
theorem stay_eq (p : TrunkPort) (header : List Byte) : p.stay header = { p with
    inRx := some (p.expected, header), expected := (p.expected + 1) % 248, farEpoch := (p.stay header).farEpoch
    farClock := (p.stay header).farClock, farRdi := (p.stay header).farRdi } := by
  by_cases h : p.errorRun = 0 ∧ p.seqRun = 0
  · rw [stay_recorded h.1 h.2]
    rfl
  · rw [stay_unrecorded (by omega)]

/-! ### The rows (R96, log 8) -/

section
variable (hr : s.inReset = false) (ha : (s.port k).align = .aligned) (hi : (s.port k).inRx = none)
include hr ha hi

theorem judgeDue_open : s.judgeDue k = true := by simp [State.judgeDue, hr, ha, hi]

theorem exec_trunkFrameJudged (hl : header.length = 8) :
    exec (.trunkFrameJudged k header) s = .next (s.changePort k ((s.port k).judge header)) :=
  congrArg Host.Outcome.next (if_pos (by simp [judgeDue_open hr ha hi, hl]))

theorem exec_trunkAlignmentLoss (hd : ((s.port k).check word seq).departs = true) :
    exec (.trunkAlignmentLoss k word seq) s = .next (s.changePort k ((s.port k).judge [word, seq])) :=
  congrArg Host.Outcome.next (if_pos (by simp [judgeDue_open hr ha hi, hd]))

end

/-- A trunk that leaves ALIGNED is UNANCHORED, with an empty deskew store (R105). -/
theorem changePort_deskew_left {q : TrunkPort} (ha : (s.port k).align = .aligned) (hq : q.align ≠ .aligned) :
    (s.changePort k q).deskew k = ⟨[], .unanchored, 0, 0, .none⟩ := by
  have path := (changePort_changed s k q).moved
  rw [moved_left ha hq] at path
  unfold State.deskew
  rw [path]
  exact departed_deskew_self hq

/-- Settles O44: the frame is counted by `counted`; it stays by `stay`, or the trunk leaves for SEARCH by `leave`. -/
theorem trunkFrameJudgedOrLost : Obligations.TrunkFrameJudgedOrLost := by
  intro s k word seq header e q hr ha hi hl ht he hq
  obtain ⟨rest, rfl⟩ : ∃ rest, header = word :: seq :: rest :=
    ⟨header.drop 2, by rw [← List.take_append_drop 2 header, ht]; simp⟩
  have out (kept : List Bool) : (((s.port k).counted word seq e q).leave .search kept).align ≠ .aligned := fun h => nomatch h
  refine ⟨⟨_, exec_trunkFrameJudged hr ha hi hl, ?_⟩, fun h => ⟨_, exec_trunkAlignmentLoss hr ha hi
    ((check_departs he hq).2 h), ?_⟩⟩
  · have changed := changePort_changed s k ((s.port k).judge (word :: seq :: rest))
    refine ⟨changed.event, changed.cp, ?_⟩
    rw [changed.self]
    by_cases h : 4 ≤ e ∨ 2 ≤ q
    · rw [judge_departs he hq h]
      exact ⟨rfl, rfl, fun h4 h2 => by omega, fun _ => ⟨rfl, rfl, rfl, rfl, rfl, changePort_deskew_left ha (out _)⟩⟩
    · have stays := judge_stays he hq (by omega) (by omega) rest
      have aligned : ((s.port k).judge (word :: seq :: rest)).align = .aligned := by
        rw [stays, stay_eq]
        exact ha
      have path : (s.changePort k ((s.port k).judge (word :: seq :: rest))).ps = s.ps := by
        rw [changed.moved, moved_stays fun _ => aligned]
        rfl
      refine ⟨?_, ?_, fun _ _ => ⟨aligned, ?_, ?_, ?_, ?_, path, fun e0 q0 => ?_, fun h0 => ?_⟩, fun hd => absurd hd h⟩
      iterate 6
        rw [stays, stay_eq]
        rfl
      · rw [stays, stay_recorded e0 q0]
        exact ⟨rfl, rfl, decodeClock_code _⟩
      · rw [stays, stay_unrecorded h0]
        exact ⟨rfl, rfl, rfl⟩
  · have changed := changePort_changed s k ((s.port k).judge [word, seq])
    refine ⟨changed.event, changed.cp, ?_⟩
    rw [changed.self, judge_departs he hq h]
    exact ⟨rfl, rfl, rfl, changePort_deskew_left ha (out _)⟩

end Sys2Proof.Machine
end

section
/-! The hand-over of a complete trunk frame, and the anchor frame (R97, R103, R106). -/

namespace Sys2Proof.Machine

variable {s : State} {k : Trunk} {seq : Nat} {header payload : List Byte} {before : Bool}

/-! ### The frame handed on (R84, R97) -/

theorem upper_toNat (b : Byte) : (upper b).toNat = b.toNat / 16 := by
  have small := b.isLt
  simp only [upper, BitVec.extractLsb'_toNat, Nat.shiftRight_eq_div_pow]
  omega

theorem lower_toNat (b : Byte) : (lower b).toNat = b.toNat % 16 := by
  simp only [lower, BitVec.extractLsb'_toNat, Nat.shiftRight_zero]

theorem append_toNat (hi : Byte) (lo : Nibble) : (hi ++ lo).toNat = hi.toNat * 16 + lo.toNat := by
  have small := lo.isLt
  rw [BitVec.toNat_append, Nat.shiftLeft_eq, ← Nat.shiftLeft_eq, ← Nat.shiftLeft_add_eq_or_of_lt small, Nat.shiftLeft_eq]

theorem makeFrame_tag : (makeFrame seq header payload).tag.toNat =
    (header.getD 2 0).toNat * 16 + (header.getD 3 0).toNat / 16 :=
  (append_toNat _ _).trans (by rw [upper_toNat])

theorem makeFrame_nibbles : (makeFrame seq header payload).nibbles.map BitVec.toNat =
    [(header.getD 4 0).toNat / 16, (header.getD 4 0).toNat % 16, (header.getD 5 0).toNat / 16,
      (header.getD 5 0).toNat % 16] := by
  simp only [makeFrame, List.map_cons, List.map_nil, upper_toNat, lower_toNat]

/-- The five codes of an end-status; every other code is UNKNOWN (R97). -/
theorem decodeStatus_cases (n : Nibble) : (n.toNat = 0 → decodeStatus n = .ok) ∧
    (n.toNat = 1 → decodeStatus n = .sourceFail) ∧ (n.toNat = 2 → decodeStatus n = .sinkFail) ∧
    (n.toNat = 3 → decodeStatus n = .conditioned) ∧ (n.toNat = 4 → decodeStatus n = .test) ∧
    (5 ≤ n.toNat → decodeStatus n = .unknown) := by
  revert n
  decide

/-! ### The arrival (R103, R106) -/

/-- A frame under no anchor hold that awaits one joins the store, and nothing else. -/
theorem arrive_joins (f : DFrame) (h : (s.deskew k).hold ≠ .awaiting) :
    s.arrive k f before = s.setDeskew k ((s.deskew k).push f) := by
  unfold State.arrive
  dsimp only
  split
  · rename_i hold
    exact absurd hold h
  · rfl

/-- The anchor frame joins the store, ends the wait of the hold, and sets the read position. -/
theorem arrive_anchors (f : DFrame) (h : (s.deskew k).hold = .awaiting) : s.arrive k f before =
    { s.setDeskew k { (s.deskew k).push f with hold := .until f.seq } with
      ps := { (s.setDeskew k { (s.deskew k).push f with hold := .until f.seq }).ps with
        readPos := anchorPosition f.seq s.trunks.skew before } } := by
  have hold : ((s.deskew k).push f).hold = .awaiting := h
  unfold State.arrive
  dsimp only
  rw [hold]

theorem handOn_joins (h : (s.deskew k).hold ≠ .awaiting) : s.handOn k seq header payload before =
    (s.setPort k { s.port k with inRx := none }).setDeskew k ((s.deskew k).push (makeFrame seq header payload)) :=
  arrive_joins (s := s.setPort k { s.port k with inRx := none }) (makeFrame seq header payload) h

theorem handOn_anchors (h : (s.deskew k).hold = .awaiting) : s.handOn k seq header payload before =
    { s.setPort k { s.port k with inRx := none } with ps := { s.ps with
      deskew := s.ps.deskew.set k { (s.deskew k).push (makeFrame seq header payload) with hold := .until seq }
      readPos := anchorPosition seq s.trunks.skew before } } :=
  arrive_anchors (s := s.setPort k { s.port k with inRx := none }) (makeFrame seq header payload) h

theorem handOn_deskew_anchors (h : (s.deskew k).hold = .awaiting) : (s.handOn k seq header payload before).deskew k =
    { (s.deskew k).push (makeFrame seq header payload) with hold := .until seq } := by
  rw [handOn_anchors h]
  exact deskew_setDeskew_self s k _

/-- The read position stands behind the anchor frame by the skew allowance and the side of the read (R106, log 9). -/
theorem anchorPosition_behind {skew : Nat} (hk : skew ≤ 24) (hq : seq < 248) :
    anchorPosition seq skew before < 248 ∧
      (anchorPosition seq skew before + skew + if before = true then 2 else 1) % 248 = seq := by
  unfold anchorPosition Config.frames
  cases before
  · simp only [Bool.false_eq_true, if_false]
    omega
  · simp only [if_true]
    omega

/-! ### The rows -/

section
variable (hr : s.inReset = false) (hi : (s.port k).inRx = some (seq, header)) (hl : payload.length = 248)
include hr hi hl

theorem exec_trunkFrameHandedOn :
    exec (.trunkFrameHandedOn k payload before) s = .next (s.handOn k seq header payload before) := by
  unfold exec execTrunkFrameHandedOn
  dsimp only
  rw [hi]
  exact congrArg Host.Outcome.next (if_pos (by simp [hr, hl]))

theorem exec_anchorFrameArrival (ha : (s.deskew k).hold = .awaiting) :
    exec (.anchorFrameArrival k payload before) s = .next (s.handOn k seq header payload before) := by
  unfold exec execAnchorFrameArrival
  dsimp only
  rw [hi]
  exact congrArg Host.Outcome.next (if_pos (by simp [hr, hl, ha]))

end

/-- Settles O45: the frame is `makeFrame`; the hold that it finds decides between `handOn_joins` and `handOn_anchors`. -/
theorem trunkFrameHandedOn : Obligations.TrunkFrameHandedOn := by
  intro s k seq header payload before hr hi hl
  refine ⟨_, exec_trunkFrameHandedOn hr hi hl, ?_⟩
  have status : ∀ c, c = (header.getD 3 0).toNat % 16 → _ := fun c hc =>
    (hc.trans (lower_toNat _).symm) ▸ decodeStatus_cases (lower (header.getD 3 0))
  by_cases h : (s.deskew k).hold = .awaiting
  · have store := handOn_deskew_anchors (seq := seq) (header := header) (payload := payload) (before := before) h
    rw [exec_anchorFrameArrival hr hi hl h]
    rw [handOn_anchors h] at store ⊢
    refine ⟨rfl, port_setPort_self .., port_setPort_other .., rfl, deskew_setDeskew_other .., rfl,
      ⟨makeFrame seq header payload, rfl, rfl, makeFrame_tag, makeFrame_nibbles, status, congrArg Deskew.frames store⟩,
      fun hn => absurd h hn, fun _ => ⟨rfl, ?_, fun hk hq => anchorPosition_behind hk hq⟩⟩
    exact store.trans (by rw [store]; rfl)
  · rw [handOn_joins h]
    have store := deskew_setDeskew_self (s.setPort k { s.port k with inRx := none }) k
      ((s.deskew k).push (makeFrame seq header payload))
    refine ⟨rfl, port_setPort_self .., port_setPort_other .., rfl, deskew_setDeskew_other .., rfl,
      ⟨makeFrame seq header payload, rfl, rfl, makeFrame_tag, makeFrame_nibbles, status, congrArg Deskew.frames store⟩,
      fun _ => ⟨rfl, ?_⟩, fun ha => absurd ha h⟩
    exact store.trans (by rw [store]; rfl)

end Sys2Proof.Machine
end

section
/-! SUPPORT. An event of a trunk as a whole: the port written, the work of the path selector, and what follows it (R99, R105, R106,
R111). -/

namespace Sys2Proof.Machine

variable {s u v t : State} {k : Trunk}

/-! ### What follows the work on the deskew stores -/

section
variable (h : Settled s v t)
include h

theorem Settled.trunks : t.trunks = v.trunks := by rw [h.eq]
theorem Settled.path : t.ps = v.ps := by rw [h.eq]
theorem Settled.port (j : Trunk) : t.port j = v.port j := congrArg (fun p : TrunkPorts => p.port.get j) h.trunks
theorem Settled.deskew (j : Trunk) : t.deskew j = v.deskew j := congrArg (fun p : PathSelector => p.deskew.get j) h.path

variable (written : u = { s with trunks := u.trunks }) (work : PathWork u v)
include written work

theorem Settled.cp_of_work : t.cp = s.cp := by rw [h.eq, work.cp, written]

/-- Trunk ports written, deskew work, and what follows: an event of a trunk. -/
theorem Settled.event_of_work (flags : v.au = u.au) : TrunkEvent s t := by
  have au : v.au = s.au := by rw [flags, written]
  have stu : v.stu = s.stu := by rw [work.stu, written]
  have table : t.ct = { v.ct with records := t.ct.records } := (congrArg State.ct h.eq :)
  refine ⟨by rw [h.eq, work.tribs, written], by rw [h.eq, work.keyers, written], by rw [h.eq, work.clu, written],
    by rw [h.eq, work.inReset, written], by rw [h.eq, work.pending, written], by rw [table, work.table, written],
    fun id => ?_, by rw [h.path, work.path, written], by rw [h.eq, au], by rw [h.eq, au], .inl ?_, au ▸ h.flags⟩
  · have record : u.record id = s.record id := by rw [written]; rfl
    rw [h.record id, work.record id, record]
    exact ⟨rfl, rfl, rfl, rfl⟩
  · have met := h.met
    unfold StuMet at met ⊢
    rwa [au, stu] at met

end

/-! ### An anchoring (R106) -/

theorem anchor_jumps (s : State) (k : Trunk) : ((s.anchor k).port k).jumps =
    if s.ps.anchored = true then bump (s.port k).jumps else (s.port k).jumps := by
  unfold State.anchor
  split
  · have port : ((s.setDeskew k .anchored).jump k).port k = { s.port k with jumps := bump (s.port k).jumps } :=
      port_setPort_self ..
    rw [port]
  · rfl

theorem anchor_anchored (s : State) (k : Trunk) : (s.anchor k).ps.anchored = true := by
  unfold State.anchor
  split
  · assumption
  · rfl

theorem deskewEnter_path (s : State) (k : Trunk) : PathWork s (s.deskewEnter k) := by
  unfold State.deskewEnter
  exact .ite (setDeskew_path ..) (anchor_path ..)

theorem deskewEnter_au (s : State) (k : Trunk) : (s.deskewEnter k).au = s.au := by
  unfold State.deskewEnter
  split
  · rfl
  · exact anchor_au s k

theorem deskewEnter_beside (h : s.usable (otherTrunk k) = true) :
    s.deskewEnter k = s.setDeskew k ⟨[], .outOfWindow, 0, 0, .none⟩ := if_pos h

theorem deskewEnter_alone (h : s.usable (otherTrunk k) = false) : s.deskewEnter k = s.anchor k := if_neg (by simp [h])

theorem deskewEnter_deskew_other (s : State) (k : Trunk) :
    (s.deskewEnter k).deskew (otherTrunk k) = s.deskew (otherTrunk k) := by
  unfold State.deskewEnter
  split
  · exact deskew_setDeskew_other ..
  · exact anchor_deskew_other s k

theorem usable_setPort_other (p : TrunkPort) : (s.setPort k p).usable (otherTrunk k) = s.usable (otherTrunk k) := by
  unfold State.usable
  rw [port_setPort_other]
  rfl

end Sys2Proof.Machine
end

section
/-! The search and the confirmation of a trunk, and its entry into ALIGNED (R95, R98, R105, R106). -/

namespace Sys2Proof.Machine

variable {s : State} {k : Trunk} {bits : List Bool} {overhead : List Byte}

/-! ### The candidate (R95) -/

/-- The bits begin with the alignment word and a sequence number in range. -/
def IsTrunkCandidate (l : List Bool) : Prop := byteAt l 0 = 0x6C ∧ (byteAt l 1).toNat < 248

theorem trunkCandidate_cons (n : Nat) (b : Bool) (bs : List Bool) : trunkCandidate n (b :: bs) =
    if 16 ≤ (b :: bs).length ∧ byteAt (b :: bs) 0 = 0x6C ∧ (byteAt (b :: bs) 1).toNat < 248 then
      some (n, (byteAt (b :: bs) 1).toNat) else trunkCandidate (n + 1) bs := by
  rw [trunkCandidate]
  refine if_congr ?_ rfl rfl
  simp only [Bool.and_eq_true, decide_eq_true_eq, beq_iff_eq, and_assoc]
  rfl

/-- The candidate is the first place of the word with a number in range after it. -/
theorem trunkCandidate_eq_some (n i : Nat) (all : List Bool) (hl : i + 16 ≤ all.length)
    (hi : IsTrunkCandidate (all.drop i)) (hmin : ∀ j, j < i → ¬ IsTrunkCandidate (all.drop j)) :
    trunkCandidate n all = some (n + i, (byteAt (all.drop i) 1).toNat) := by
  induction all generalizing n i with
  | nil => simp at hl
  | cons b bs ih =>
    rw [trunkCandidate_cons]
    cases i with
    | zero => exact if_pos ⟨by omega, hi⟩
    | succ i =>
      have rest := ih (n + 1) i (Nat.le_of_succ_le_succ (by simpa [Nat.add_right_comm] using hl)) hi fun j hj =>
        hmin (j + 1) (Nat.succ_lt_succ hj)
      rw [if_neg fun h => hmin 0 (Nat.succ_pos i) h.2, rest, Nat.add_right_comm, Nat.add_assoc]
      rfl

/-- The candidate that ends at the last bit delivered, and is the first, is found. -/
theorem trunkFound_of_last {kept : List Bool} {i : Nat} (hl : (kept ++ bits).length = i + 16)
    (hi : IsTrunkCandidate ((kept ++ bits).drop i)) (hmin : ∀ j, j < i → ¬ IsTrunkCandidate ((kept ++ bits).drop j)) :
    trunkFound kept bits = some (i, (byteAt ((kept ++ bits).drop i) 1).toNat) := by
  unfold trunkFound
  rw [trunkCandidate_eq_some 0 i _ hl.ge hi hmin, Nat.zero_add]
  exact if_pos (by simp [hl])

/-! ### The six checks (R95) -/

theorem trunkConfirmFails_of_last {q : Nat} {kept : List Bool}
    (h : (confirmChecks q (kept ++ bits)).find? (fun c => !c.2) = some ((kept ++ bits).length, false)) :
    trunkConfirmFails q kept bits = true := by
  unfold trunkConfirmFails
  dsimp only
  rw [h]
  simp

theorem trunkConfirmed_of_checks {q : Nat} {all : List Bool} (hl : all.length = 6159)
    (h : ∀ j, 1 ≤ j → j ≤ 3 → byteAt (all.drop (2048 * j - 1)) 0 = 0x6C ∧
      (byteAt (all.drop (2048 * j - 1)) 1).toNat = (q + j) % 248) : trunkConfirmed q all = true := by
  have passed : ∀ c ∈ confirmChecks q all, c.2 = true := by
    intro c hc
    obtain ⟨j, hj, hc⟩ := List.mem_flatMap.1 hc
    have range : 1 ≤ j ∧ j ≤ 3 := by revert hj; simp; omega
    obtain ⟨word, number⟩ := h j range.1 range.2
    obtain rfl | rfl : c = _ ∨ c = _ := by simpa using hc
    · exact beq_iff_eq.2 word
    · exact beq_iff_eq.2 number
  simp [trunkConfirmed, hl, List.all_eq_true.2 passed]

/-! ### The rows -/

/-- The port as its trunk enters ALIGNED: the third frame is in reception, and its overhead recorded (R95, R98). -/
def TrunkPort.entered (p : TrunkPort) (overhead : List Byte) : TrunkPort :=
  { p.leave .aligned [] with
    inRx := some ((p.cand + 3) % 248, [0x6C, byte ((p.cand + 3) % 248)] ++ overhead), expected := (p.cand + 4) % 248
    : TrunkPort }.recordFar ([0x6C, byte ((p.cand + 3) % 248)] ++ overhead)

section
variable (hr : s.inReset = false)
include hr

theorem exec_trunkCandidateFound {i q : Nat} (ha : (s.port k).align = .search)
    (hf : trunkFound (s.port k).kept bits = some (i, q)) : exec (.trunkCandidateFound k bits) s =
      .next (s.changePort k { s.port k with align := .confirm, cand := q, kept := ((s.port k).kept ++ bits).drop (i + 1) }) := by
  unfold exec execTrunkCandidateFound
  dsimp only
  rw [hf]
  exact congrArg Host.Outcome.next (if_pos (by simp [hr, ha]))

variable (ha : (s.port k).align = .confirm)
include ha

theorem exec_trunkConfirmationFailed (hf : trunkConfirmFails (s.port k).cand (s.port k).kept bits = true) :
    exec (.trunkConfirmationFailed k bits) s =
      .next (s.changePort k { s.port k with align := .search, cand := 0, kept := (s.port k).kept ++ bits }) :=
  congrArg Host.Outcome.next (if_pos (by simp [hr, ha, hf]))

theorem exec_trunkAlignmentConfirmed (hc : trunkConfirmed (s.port k).cand ((s.port k).kept ++ bits) = true)
    (ho : overhead.length = 6) : exec (.trunkAlignmentConfirmed k bits overhead) s =
      .next (((s.setPort k ((s.port k).entered overhead)).deskewEnter k).trunkSettle s) :=
  congrArg Host.Outcome.next (if_pos (by simp [hr, ha, hc, ho]))

end

/-- A port that is not ALIGNED before the change meets no path selector. -/
theorem changePort_searching {q : TrunkPort} (ha : (s.port k).align ≠ .aligned) :
    TrunkEvent s (s.changePort k q) ∧ (s.changePort k q).cp = s.cp ∧ (s.changePort k q).ps = s.ps ∧
      (s.changePort k q).port k = q ∧ (s.changePort k q).port (otherTrunk k) = s.port (otherTrunk k) := by
  have changed := changePort_changed s k q
  have stays : s.moved k q = s.setPort k q := moved_stays fun h => absurd h ha
  refine ⟨changed.event, changed.cp, ?_, changed.self, ?_⟩
  · rw [changed.moved, stays]
    rfl
  · rw [changed.port, stays, port_setPort_other]

/-- Settles O43: the candidate and the failed check are changes of the port alone; the entry into ALIGNED is `entered`, and the path
selector's `deskewEnter`. -/
theorem trunkSearchAndConfirmation : Obligations.TrunkSearchAndConfirmation := by
  rintro s k bits all hr rfl
  refine ⟨fun i ha _ hl hw hq hmin => ⟨_, exec_trunkCandidateFound hr ha (trunkFound_of_last hl ⟨hw, hq⟩ hmin), ?_⟩,
    fun ha hf => ⟨_, exec_trunkConfirmationFailed hr ha (trunkConfirmFails_of_last hf), ?_⟩,
    fun overhead ha hl ho hc => ⟨_, exec_trunkAlignmentConfirmed hr ha (trunkConfirmed_of_checks hl hc) ho, ?_⟩⟩
  · exact changePort_searching (by simp [ha])
  · exact changePort_searching (by simp [ha])
  · have settled := trunkSettle_settled s ((s.setPort k ((s.port k).entered overhead)).deskewEnter k)
    have work := deskewEnter_path (s.setPort k ((s.port k).entered overhead)) k
    have au := deskewEnter_au (s.setPort k ((s.port k).entered overhead)) k
    refine ⟨settled.event_of_work rfl work au, settled.cp_of_work rfl work, ?_⟩
    simp only [settled.port, settled.deskew, settled.path]
    have port := work.port k
    rw [port_setPort_self] at port
    have usable := usable_setPort_other (s := s) (k := k) ((s.port k).entered overhead)
    refine ⟨?_, ?_, ?_, ?_, ?_, ?_, ?_, ?_, fun hu => ?_, fun hu => ?_, ?_⟩
    iterate 7
      rw [port]
      rfl
    · rw [port]
      exact decodeClock_code _
    · rw [deskewEnter_beside (usable.trans hu)]
      have jumps : ((s.setPort k ((s.port k).entered overhead)).port k).jumps = (s.port k).jumps := by
        rw [port_setPort_self]
        rfl
      exact ⟨deskew_setDeskew_self .., jumps⟩
    · rw [deskewEnter_alone (usable.trans hu), anchor_jumps, port_setPort_self]
      exact ⟨anchor_deskew_self .., anchor_anchored .., rfl⟩
    · exact deskewEnter_deskew_other ..

end Sys2Proof.Machine
end

section
/-! TRUNK CONFIG (R91 to R93, R105, R106). -/

namespace Sys2Proof.Machine

variable {s : State} {p : TrunkPorts} {k : Trunk}

/-! ### The port under a new enable (R93) -/

section
variable (q : TrunkPort)

theorem configure_same : q.configure q.enable = q := by
  unfold TrunkPort.configure
  cases q.enable <;> rfl

theorem configure_enable (b : Bool) : (q.configure b).enable = b := by
  unfold TrunkPort.configure
  cases hq : q.enable <;> cases b <;> simp [hq]

theorem configure_enabled (h : q.enable = false) :
    q.configure true = { q.leave .noSignal [] with enable := true, absence := 0 } := if_pos (by simp [h])

theorem configure_disabled (h : q.enable = true) :
    q.configure false = { q.leave .off [] with enable := false, absence := 0 } := by
  unfold TrunkPort.configure
  rw [h]
  rfl

/-- A new enable leaves no port ALIGNED that it changes. -/
theorem configure_aligned {b : Bool} (h : (q.configure b).align = .aligned) : q.configure b = q := by
  unfold TrunkPort.configure at h ⊢
  split at h
  · cases h
  split at h
  · cases h
  · rw [if_neg ‹_›, if_neg ‹_›]

/-- A new enable keeps the recorded far-end items and the counters. -/
theorem configure_counters (b : Bool) :
    (q.configure b).jumps = q.jumps ∧ (q.configure b).alignErrors = q.alignErrors ∧ (q.configure b).seqErrors = q.seqErrors ∧
      (q.configure b).windowLosses = q.windowLosses ∧ (q.configure b).farEpoch = q.farEpoch ∧
      (q.configure b).farClock = q.farClock ∧ (q.configure b).farRdi = q.farRdi := by
  unfold TrunkPort.configure
  split
  · exact ⟨rfl, rfl, rfl, rfl, rfl, rfl, rfl⟩
  split
  · exact ⟨rfl, rfl, rfl, rfl, rfl, rfl, rfl⟩
  · exact ⟨rfl, rfl, rfl, rfl, rfl, rfl, rfl⟩

end

/-! ### Both ports written at one event (R93, R105, R106) -/

/-- The trunk leaves ALIGNED as the ports `p` are written. -/
def State.leavesAt (s : State) (p : TrunkPorts) (k : Trunk) : Bool :=
  decide ((s.port k).align = .aligned ∧ (p.port.get k).align ≠ .aligned)

/-- A trunk that leaves ALIGNED is UNANCHORED. -/
def State.leaveIf (s : State) (b : Bool) (k : Trunk) : State := if b then s.deskewLeave k else s

/-- The ports written, and the trunks that leave ALIGNED UNANCHORED. -/
def State.left (s : State) (p : TrunkPorts) : State :=
  ({ s with trunks := p }.leaveIf (s.leavesAt p .a) .a).leaveIf (s.leavesAt p .b) .b

/-- The state ahead of what follows the event: after a departure the pair may anchor on the other trunk. -/
def State.rewired (s : State) (p : TrunkPorts) : State :=
  if s.leavesAt p .a || s.leavesAt p .b then (s.left p).reanchor else s.left p

theorem configureTrunks_eq (ea eb : Bool) (skew : Nat) (code : Byte) : s.configureTrunks ea eb skew code =
    (s.rewired ⟨⟨(s.port .a).configure ea, (s.port .b).configure eb⟩, skew, code⟩).trunkSettle s := rfl

theorem leaveIf_path (b : Bool) (k : Trunk) : PathWork s (s.leaveIf b k) := .ite (deskewLeave_path s k) .refl

theorem left_path : PathWork { s with trunks := p } (s.left p) := (leaveIf_path _ _).trans (leaveIf_path _ _)

theorem rewired_path : PathWork { s with trunks := p } (s.rewired p) := .ite (left_path.trans (reanchor_path _)) left_path

theorem leaveIf_au (b : Bool) (k : Trunk) : (s.leaveIf b k).au = s.au := by cases b <;> rfl

theorem left_au : (s.left p).au = s.au := (leaveIf_au _ _).trans (leaveIf_au _ _)

theorem rewired_au : (s.rewired p).au = s.au := by
  unfold State.rewired
  split
  · exact (reanchor_au _).trans left_au
  · exact left_au

theorem leaveIf_trunks (b : Bool) (k : Trunk) : (s.leaveIf b k).trunks = s.trunks := by cases b <;> rfl

theorem leaveIf_anchored (b : Bool) (k : Trunk) : (s.leaveIf b k).ps.anchored = s.ps.anchored := by cases b <;> rfl

theorem leaveIf_deskew_self (b : Bool) (k : Trunk) :
    (s.leaveIf b k).deskew k = if b = true then .reset else s.deskew k := by
  cases b
  · rfl
  · exact deskew_setDeskew_self s k .reset

theorem leaveIf_deskew_other (b : Bool) (k : Trunk) : (s.leaveIf b k).deskew (otherTrunk k) = s.deskew (otherTrunk k) := by
  cases b
  · rfl
  · exact deskew_setDeskew_other s k .reset

theorem left_port : (s.left p).port k = p.port.get k :=
  congrArg (fun q : TrunkPorts => q.port.get k) ((leaveIf_trunks _ _).trans (leaveIf_trunks _ _) : (s.left p).trunks = p)

theorem left_anchored : (s.left p).ps.anchored = s.ps.anchored := (leaveIf_anchored _ _).trans (leaveIf_anchored _ _)

theorem left_deskew : (s.left p).deskew k = if s.leavesAt p k = true then .reset else s.deskew k := by
  unfold State.left
  cases k with
  | a => exact (leaveIf_deskew_other _ .b).trans (leaveIf_deskew_self _ .a)
  | b =>
    rw [leaveIf_deskew_self]
    exact congrArg (fun d => if s.leavesAt p .b = true then .reset else d) (leaveIf_deskew_other _ .a)

/-- Beside a trunk that leaves ALIGNED, the pair anchors on the other one, if it is ALIGNED and not usable (R106). -/
theorem rewired_beside (h : s.leavesAt p k = true) : s.rewired p =
    if (s.left p).usable (otherTrunk k) = true ∨ (p.port.get (otherTrunk k)).align ≠ .aligned then s.left p
    else (s.left p).anchor (otherTrunk k) := by
  have again : s.rewired p = (s.left p).reanchor := if_pos (by cases k <;> simp [h])
  have gone : ((s.left p).port k).align ≠ .aligned := by
    rw [left_port]
    exact (of_decide_eq_true h).2
  rw [again, reanchor_beside gone, left_port]

theorem rewired_still (h : s.leavesAt p k = false) (ho : s.leavesAt p (otherTrunk k) = false) : s.rewired p = s.left p :=
  if_neg (by cases k <;> simp_all [otherTrunk])

/-- One trunk leaves ALIGNED, and the other stays ALIGNED without being usable: the pair anchors on it (R106). -/
def State.anchorsAt (s : State) (p : TrunkPorts) (k : Trunk) : Prop :=
  s.leavesAt p (otherTrunk k) = true ∧ (p.port.get k).align = .aligned ∧ s.usable k = false

section
variable (stays : (p.port.get k).align = .aligned → p.port.get k = s.port k)
include stays

theorem left_usable (ha : (p.port.get k).align = .aligned) : (s.left p).usable k = s.usable k := by
  have stayed : s.leavesAt p k = false := by simp [State.leavesAt, ha]
  unfold State.usable
  rw [left_port, left_deskew, stayed, stays ha]
  rfl

theorem rewired_anchors (h : s.anchorsAt p k) : s.rewired p = (s.left p).anchor k := by
  obtain ⟨leaves, ha, unusable⟩ := h
  have beside := rewired_beside leaves
  rw [otherTrunk_otherTrunk] at beside
  rw [beside, left_usable stays ha, if_neg (by simp [unusable, ha])]

/-- Without an anchoring on the trunk, its port and its deskew store are those that its own departure leaves. -/
theorem rewired_rests (h : ¬ s.anchorsAt p k) :
    (s.rewired p).port k = p.port.get k ∧ (s.rewired p).deskew k = (s.left p).deskew k := by
  have same (e : s.rewired p = s.left p) :
      (s.rewired p).port k = p.port.get k ∧ (s.rewired p).deskew k = (s.left p).deskew k := by
    rw [e]
    exact ⟨left_port, rfl⟩
  cases other : s.leavesAt p (otherTrunk k) with
  | true =>
    have beside := rewired_beside other
    rw [otherTrunk_otherTrunk] at beside
    refine same (beside.trans (if_pos ?_))
    by_cases ha : (p.port.get k).align = .aligned
    · rw [left_usable stays ha]
      exact .inl (by simpa using fun hu => h ⟨other, ha, hu⟩)
    · exact .inr ha
  | false =>
    cases own : s.leavesAt p k with
    | true =>
      have port := anchor_port_other (s.left p) (otherTrunk k)
      have deskew := anchor_deskew_other (s.left p) (otherTrunk k)
      rw [otherTrunk_otherTrunk] at port deskew
      rw [rewired_beside own]
      split
      · exact ⟨left_port, rfl⟩
      · exact ⟨port.trans left_port, deskew⟩
    | false => exact same (rewired_still own other)

/-- Of a port written, the path selector touches the jumps alone (R106). -/
theorem rewired_port : (s.rewired p).port k = { p.port.get k with jumps := ((s.rewired p).port k).jumps } := by
  by_cases h : s.anchorsAt p k
  · rw [rewired_anchors stays h, anchor_port_self, left_port]
  · rw [(rewired_rests stays h).1]

end

theorem rewired_align : ((s.rewired p).port k).align = (p.port.get k).align := rewired_path.align k

/-! ### The command (R91 to R93) -/

section
variable {ea eb skew code : Byte}

theorem exec_trunkConfig (h : Clear s) (ea eb skew code : Byte) : exec (.trunkConfig [ea, eb, skew, code]) s =
    .next (ran [ea, eb, skew, code] (trunkConfigBody ea eb skew code) s) :=
  congrArg Host.Outcome.next (transact_clear4 h ..)

theorem trunkConfigBody_range (h : 1 < ea.toNat ∨ 1 < eb.toNat ∨ 24 < skew.toNat) :
    trunkConfigBody ea eb skew code s = (.range, s) := by
  unfold trunkConfigBody
  obtain h | h | h := h
  · rw [readFlag_eq_none h]
  · rw [readFlag_eq_none h]
    cases readFlag ea.toNat <;> rfl
  · split
    · exact if_pos h
    · rfl

/-- The ports as TRUNK CONFIG writes them. -/
def State.configured (s : State) (ea eb : Bool) (skew : Nat) (code : Byte) : TrunkPorts :=
  ⟨⟨(s.port .a).configure ea, (s.port .b).configure eb⟩, skew, code⟩

theorem configured_port (ea eb : Bool) (skew : Nat) (code : Byte) (k : Trunk) :
    ∃ b, (s.configured ea eb skew code).port.get k = (s.port k).configure b := by
  cases k
  · exact ⟨ea, rfl⟩
  · exact ⟨eb, rfl⟩

theorem configured_items (ea eb : Bool) (skew : Nat) (code : Byte) :
    ((s.configured ea eb skew code).port.get .a).enable = ea ∧ ((s.configured ea eb skew code).port.get .b).enable = eb ∧
      (s.configured ea eb skew code).skew = skew ∧ (s.configured ea eb skew code).vacantCode = code :=
  ⟨configure_enable .., configure_enable .., rfl, rfl⟩

theorem trunkConfigBody_ok (ha : ea.toNat ≤ 1) (hb : eb.toNat ≤ 1) (hs : skew.toNat ≤ 24) :
    trunkConfigBody ea eb skew code s =
      (.ok, (s.rewired (s.configured (decide (ea = 1)) (decide (eb = 1)) skew.toNat code)).trunkSettle s) := by
  unfold trunkConfigBody
  rw [readFlag_of_le ha, readFlag_of_le hb]
  exact if_neg (Nat.not_lt.2 hs)

end

/-! ### One port and its deskew store after the event -/

theorem configure_stays {b : Bool} (hb : p.port.get k = (s.port k).configure b)
    (ha : (p.port.get k).align = .aligned) : p.port.get k = s.port k := by
  rw [hb] at ha ⊢
  exact configure_aligned _ ha

section
variable {t : State} {b : Bool} (port : ∀ j, t.port j = (s.rewired p).port j)
  (hb : p.port.get k = (s.port k).configure b)
include port

/-- The anchoring is on a trunk that the other's departure leaves ALIGNED and not usable. -/
theorem anchorsAt_iff : s.anchorsAt p k ↔ (s.port (otherTrunk k)).align = .aligned ∧
    (t.port (otherTrunk k)).align ≠ .aligned ∧ (t.port k).align = .aligned ∧ s.usable k = false := by
  rw [port, port, rewired_align, rewired_align]
  exact (and_congr_left' decide_eq_true_iff).trans and_assoc

include hb

theorem written_port : t.port k = { (s.port k).configure b with jumps := (t.port k).jumps } := by
  rw [port, ← hb]
  exact rewired_port (configure_stays hb)

theorem written_enable : (t.port k).enable = b := by
  rw [written_port port hb]
  exact configure_enable _ b

theorem written_counters : (t.port k).alignErrors = (s.port k).alignErrors ∧ (t.port k).seqErrors = (s.port k).seqErrors ∧
    (t.port k).windowLosses = (s.port k).windowLosses ∧ (t.port k).farEpoch = (s.port k).farEpoch ∧
    (t.port k).farClock = (s.port k).farClock ∧ (t.port k).farRdi = (s.port k).farRdi := by
  rw [written_port port hb]
  exact (configure_counters (s.port k) b).2

theorem written_rests (h : ¬ s.anchorsAt p k) (deskew : ∀ j, t.deskew j = (s.rewired p).deskew j) :
    (t.port k).jumps = (s.port k).jumps ∧ t.deskew k = if s.leavesAt p k = true then .reset else s.deskew k := by
  obtain ⟨rest, store⟩ := rewired_rests (configure_stays hb) h
  rw [port, rest, hb, deskew, store, left_deskew]
  exact ⟨(configure_counters _ b).1, rfl⟩

theorem written_anchors (h : s.anchorsAt p k) (deskew : ∀ j, t.deskew j = (s.rewired p).deskew j) :
    t.deskew k = ⟨[], .inWindow, 0, 0, .awaiting⟩ ∧ (s.rewired p).ps.anchored = true ∧
      (t.port k).jumps = if s.ps.anchored = true then bump (s.port k).jumps else (s.port k).jumps := by
  have stays := configure_stays hb
  rw [port, deskew, rewired_anchors stays h, anchor_jumps, left_port, left_anchored, stays h.2.1]
  exact ⟨anchor_deskew_self .., anchor_anchored .., rfl⟩

end

/-- Settles O42: each port by `configure`, and the anchoring on the trunk that the other's departure leaves alone. -/
theorem trunkConfigWritesPair : Obligations.TrunkConfigWritesPair := by
  intro s ea eb skew code hc
  refine ⟨_, exec_trunkConfig hc .., fun h => ran_refusal (trunkConfigBody_range h), fun ha hb hs => ?_⟩
  have run := ran_of (ps := [ea, eb, skew, code]) (trunkConfigBody_ok (s := s) (code := code) ha hb hs)
  have written := configured_port (s := s) (decide (ea = 1)) (decide (eb = 1)) skew.toNat code
  have common := configured_items (s := s) (decide (ea = 1)) (decide (eb = 1)) skew.toNat code
  generalize s.configured (decide (ea = 1)) (decide (eb = 1)) skew.toNat code = p at *
  obtain ⟨enableA, enableB, allowance, vacant⟩ := common
  have work := rewired_path (s := s) (p := p)
  have settled := trunkSettle_settled s (s.rewired p)
  have event := settled.event_of_work (s := s) rfl work rewired_au
  have cp := settled.cp_of_work (s := s) rfl work
  have port := settled.port
  have deskew := settled.deskew
  have trunks := settled.trunks.trans work.trunks
  have path := settled.path
  generalize (s.rewired p).trunkSettle s = t at *
  rw [run]
  refine ⟨by rw [← cp]; rfl, event, ?_, ?_, ?_, ?_, ?_, fun k => ?_⟩
  · exact (congrArg TrunkPorts.skew trunks).trans allowance
  · exact (congrArg TrunkPorts.vacantCode trunks).trans vacant
  · exact (congrArg TrunkPort.enable (port .a)).trans ((work.enable .a).trans enableA)
  · exact (congrArg TrunkPort.enable (port .b)).trans ((work.enable .b).trans enableB)
  · exact (congrArg PathSelector.readPos path).trans (by rw [work.path])
  obtain ⟨b, hb⟩ := written k
  have whole := written_port port hb
  have enable := written_enable port hb
  have anchors := anchorsAt_iff (k := k) port
  refine ⟨fun on off => ?_, fun off on => ?_, fun same => ?_, fun h => ?_, fun h => ?_, written_counters port hb⟩
  · obtain rfl : b = true := enable.symm.trans on
    change (t.port k).align = _ ∧ (t.port k).absence = _
    rw [whole, configure_enabled _ off]
    exact ⟨rfl, rfl⟩
  · obtain rfl : b = false := enable.symm.trans off
    have gone : (t.port k).align = .off ∧ (t.port k).inRx = none := by
      rw [whole, configure_disabled _ on]
      exact ⟨rfl, rfl⟩
    have out : (t.port k).align ≠ .aligned := by rw [gone.1]; decide
    refine ⟨gone.1, gone.2, usable_of_not_aligned (s := t) out, fun ha => ?_⟩
    refine (written_rests port hb (fun h => out (anchors.1 h).2.2.1) deskew).2.trans (if_pos (decide_eq_true ⟨ha, ?_⟩))
    rwa [← rewired_align, ← port]
  · obtain rfl : b = (s.port k).enable := enable.symm.trans same
    rwa [configure_same] at whole
  · obtain ⟨store, anchored, jumps⟩ := written_anchors port hb (anchors.2 h) deskew
    exact ⟨store, (congrArg PathSelector.anchored path).trans anchored, jumps⟩
  · obtain ⟨jumps, store⟩ := written_rests port hb (fun ha => h (anchors.1 ha)) deskew
    refine ⟨jumps, fun same => store.trans (if_neg fun leaves => ?_)⟩
    obtain ⟨was, gone⟩ := of_decide_eq_true leaves
    rw [← rewired_align, ← port] at gone
    exact gone (same.trans was)

end Sys2Proof.Machine
end

section
/-! What the read of a station frame makes of one record with a trunk end (R109 to R117). -/

namespace Sys2Proof.Machine

variable {r : Record} {cells : List Nat} {pos : Nat} {usable : Pair Bool} {res : Pair ReadResult} {k : Trunk}

/-! ### The tag check of one copy (R109) -/

section
variable (x : TagCheck) (e : Tag) (mine : Bool) (found : ReadResult)

theorem collect_keeps : x.collect e mine found =
    { x with read := (x.collect e mine found).read, mismatch := (x.collect e mine found).mismatch } := by
  unfold TagCheck.collect
  split
  · split
    · rfl
    · rfl
  · rfl

theorem collect_read_iff :
    (x.collect e mine found).read = true ↔ x.read = true ∨ (mine = true ∧ ∃ f, found = .present f) := by
  unfold TagCheck.collect
  split
  · cases mine <;> simp
  · next absent => simpa using fun _ f hf => (absent f hf).elim

theorem collect_mismatch_iff : (x.collect e mine found).mismatch = true ↔
    x.mismatch = true ∨ (mine = true ∧ ∃ f, found = .present f ∧ f.tag ≠ e) := by
  unfold TagCheck.collect
  split
  · cases mine <;> simp
  · next absent => simpa using fun _ f hf => (absent f hf).elim

theorem evaluate_off (h : found = .off ∨ found = .held) :
    x.evaluate e found = { x with read := false, mismatch := false } := by
  obtain rfl | rfl := h <;> rfl

theorem evaluate_on (ho : found ≠ .off) (hh : found ≠ .held) : x.evaluate e found =
    if e = 0 then x.matched else if x.mismatch then x.mismatched else if x.read then x.matched
    else { x with read := false, mismatch := false } := by
  unfold TagCheck.evaluate
  split
  · exact absurd rfl ho
  · exact absurd rfl hh
  · rfl

end

/-- The tag check at one read: collected, and evaluated at the read of 247. -/
theorem atRead_tagRead (x : TagCheck) (e : Tag) (found : ReadResult) {mine last : Bool} {M L : Prop}
    (hm : mine = true ↔ M) (hl : last = true ↔ L) : TagRead x (x.atRead e mine last found) e M L found := by
  have kept := collect_keeps x e mine found
  refine ⟨(x.collect e mine found).read, (x.collect e mine found).mismatch, ?_, ?_, fun h => ?_, fun h hf => ?_,
    fun h ho hh => ?_⟩
  · rw [← hm]
    exact collect_read_iff ..
  · rw [← hm]
    exact collect_mismatch_iff ..
  · rw [← hl] at h
    exact (if_neg h).trans kept
  · have evaluated : x.atRead e mine last found = (x.collect e mine found).evaluate e found := if_pos (hl.2 h)
    rw [evaluated, evaluate_off _ _ _ hf, kept]
  · have evaluated : x.atRead e mine last found = (x.collect e mine found).evaluate e found := if_pos (hl.2 h)
    rw [evaluated, evaluate_on _ _ _ ho hh]
    refine ⟨fun hc => ?_, fun he hc => ?_, fun he hc hr => ?_⟩
    · have matched : (x.collect e mine found).matched =
          ⟨false, false, min 2 (x.matchRun + 1), 0, x.misroute && decide (x.matchRun + 1 < 2)⟩ := by
        rw [kept, TagCheck.matched, Config.matchTop]
        simp
      rw [← matched]
      obtain he | ⟨hmis, hr⟩ := hc
      · exact if_pos he
      · simp [hmis, hr]
    · rw [if_neg he, if_pos hc, kept, TagCheck.mismatched, Config.mismatchTop]
      congr 2
      simp
    · rw [if_neg he, if_neg (by simp [hc]), if_neg (by simp [hr]), kept]

/-! ### The selection (R113 to R115) -/

theorem trunk_pathSel (k : Trunk) : (pathSel k).trunk = some k := trunk_eq_some.2 rfl

theorem trunk_eq_none {p : PathSel} (h : ∀ k, p ≠ pathSel k) : p.trunk = none :=
  Option.eq_none_iff_forall_ne_some.2 fun k hk => h k (trunk_eq_some.1 hk)

theorem freshSelect_cases (prefer : Trunk) (valid : Trunk → Bool) :
    (valid prefer = true → freshSelect prefer valid = pathSel prefer) ∧
      (¬ valid prefer = true → valid (otherTrunk prefer) = true → freshSelect prefer valid = pathSel (otherTrunk prefer)) ∧
      (¬ valid prefer = true → ¬ valid (otherTrunk prefer) = true → freshSelect prefer valid = .none) := by
  unfold freshSelect
  exact ⟨fun h => if_pos h, fun h ho => by rw [if_neg h, if_pos ho], fun h ho => by rw [if_neg h, if_neg ho]⟩

theorem selectPath_chosen (f : Fields) (before : PathSel) (valid : Trunk → Bool) :
    PathChosen f before (selectPath f before valid) fun k => valid k = true := by
  unfold PathChosen selectPath
  cases hp : f.policy with
  | forceA => simp
  | forceB => simp
  | lock =>
    refine ⟨nofun, nofun, fun _ k hk => ?_, nofun, fun _ hn => ?_⟩
    · simp only [hk, trunk_pathSel]
    · simp only [trunk_eq_none hn]
      exact freshSelect_cases ..
  | auto =>
    refine ⟨nofun, nofun, nofun, fun _ k hk => ?_, fun _ hn => ?_⟩
    · simp only [hk, trunk_pathSel]
      exact ⟨fun h => if_pos h, fun h ho => by rw [if_neg h, if_pos ho], fun h ho => by rw [if_neg h, if_neg ho]⟩
    · simp only [trunk_eq_none hn]
      exact freshSelect_cases ..

theorem withPath_keeps (r : Record) (sel : PathSel) : r.withPath sel = { r with
    selected := sel, lastPath := (r.withPath sel).lastPath, switches := (r.withPath sel).switches } := by
  unfold Record.withPath
  split <;> rfl

theorem withPath_chosen (r : Record) (k : Trunk) : r.withPath (pathSel k) = { r with
    selected := pathSel k, lastPath := some k
    switches := if r.lastPath = some (otherTrunk k) then bump r.switches else r.switches } := by
  cases k <;> rfl

/-! ### The far end's status (R117) -/

theorem farReceipt_keeps (r : Record) (turn : Bool) (res : Pair ReadResult) : r.farReceipt turn res = { r with
    far := (r.farReceipt turn res).far, farCand := (r.farReceipt turn res).farCand } := by
  unfold Record.farReceipt
  split
  · rfl
  · split
    · split
      · rfl
      · rfl
    · rfl

section
variable (r : Record) (turn : Bool) (res : Pair ReadResult)

@[simp] theorem farReceipt_tag : (r.farReceipt turn res).tag = r.tag := by rw [farReceipt_keeps]
@[simp] theorem farReceipt_copy : (r.farReceipt turn res).copy = r.copy := by rw [farReceipt_keeps]
@[simp] theorem farReceipt_selected : (r.farReceipt turn res).selected = r.selected := by rw [farReceipt_keeps]
@[simp] theorem farReceipt_lastPath : (r.farReceipt turn res).lastPath = r.lastPath := by rw [farReceipt_keeps]
@[simp] theorem farReceipt_switches : (r.farReceipt turn res).switches = r.switches := by rw [farReceipt_keeps]
@[simp] theorem farReceipt_misroutes : (r.farReceipt turn res).misroutes = r.misroutes := by rw [farReceipt_keeps]
@[simp] theorem farReceipt_fields : (r.farReceipt turn res).fields = r.fields := by rw [farReceipt_keeps]
@[simp] theorem farReceipt_ends : (r.farReceipt turn res).ends = r.ends := by rw [farReceipt_keeps]
@[simp] theorem farReceipt_health : (r.farReceipt turn res).health = r.health := by rw [farReceipt_keeps]
@[simp] theorem farReceipt_failed : (r.farReceipt turn res).failed = r.failed := by rw [farReceipt_keeps]

end

theorem farReceipt_unselected (h : r.selected = .none) (turn : Bool) :
    r.farReceipt turn res = { r with far := .unknown, farCand := none } := if_pos h

theorem farReceipt_received {f : DFrame} (h : r.trunkFrame res = some f) : r.farReceipt true res =
    if r.farCand = some f.status then { r with far := f.status } else { r with farCand := some f.status } := by
  obtain ⟨k, hk, -, -⟩ := trunkFrame_eq_some.1 h
  have selected : r.selected ≠ .none := by rw [hk]; cases k <;> decide
  unfold Record.farReceipt
  rw [if_neg selected, h]

/-- A status is accepted at its second receipt in a row, and the first one only kept. -/
theorem farReceipt_cases {f : DFrame} (h : r.trunkFrame res = some f) :
    (r.farCand = some f.status → (r.farReceipt true res).far = f.status ∧ (r.farReceipt true res).farCand = r.farCand) ∧
      (r.farCand ≠ some f.status → (r.farReceipt true res).far = r.far ∧ (r.farReceipt true res).farCand = some f.status) := by
  rw [farReceipt_received h]
  refine ⟨fun hc => ?_, fun hc => ?_⟩
  · rw [if_pos hc]
    exact ⟨rfl, rfl⟩
  · rw [if_neg hc]
    exact ⟨rfl, rfl⟩

theorem farReceipt_waits (hs : r.selected ≠ .none) {turn : Bool} (h : turn = true → r.trunkFrame res = none) :
    r.farReceipt turn res = r := by
  unfold Record.farReceipt
  rw [if_neg hs]
  split
  · next f hf => exact absurd (hf.symm.trans (h rfl)) nofun
  · rfl

/-! ### The record as a whole (R111, R116) -/

theorem refresh_keeps (old new : Record) : old.refresh new = { new with health := (old.refresh new).health } := by
  unfold Record.refresh
  split <;> rfl

section
variable (old new : Record)

@[simp] theorem refresh_tag : (old.refresh new).tag = new.tag := by rw [refresh_keeps]
@[simp] theorem refresh_copy : (old.refresh new).copy = new.copy := by rw [refresh_keeps]
@[simp] theorem refresh_selected : (old.refresh new).selected = new.selected := by rw [refresh_keeps]
@[simp] theorem refresh_lastPath : (old.refresh new).lastPath = new.lastPath := by rw [refresh_keeps]
@[simp] theorem refresh_switches : (old.refresh new).switches = new.switches := by rw [refresh_keeps]
@[simp] theorem refresh_misroutes : (old.refresh new).misroutes = new.misroutes := by rw [refresh_keeps]
@[simp] theorem refresh_fields : (old.refresh new).fields = new.fields := by rw [refresh_keeps]
@[simp] theorem refresh_failed : (old.refresh new).failed = new.failed := by rw [refresh_keeps]
@[simp] theorem refresh_far : (old.refresh new).far = new.far := by rw [refresh_keeps]
@[simp] theorem refresh_farCand : (old.refresh new).farCand = new.farCand := by rw [refresh_keeps]

end

/-- The tag checks of both copies after the read. -/
def Record.tagsRead (r : Record) (cells : List Nat) (pos : Nat) (res : Pair ReadResult) : Pair TagCheck :=
  ⟨r.tag.a.atRead r.fields.expTag (cells.contains pos) (pos == 247) res.a,
    r.tag.b.atRead r.fields.expTag (cells.contains pos) (pos == 247) res.b⟩

/-- The record with its tag checks, its misroute count and its copy statuses brought up to the read. -/
def Record.checked (r : Record) (cells : List Nat) (pos : Nat) (usable : Pair Bool) (res : Pair ReadResult) : Record :=
  { r with
    tag := r.tagsRead cells pos res
    misroutes := misrouteCount (misrouteCount r.misroutes r.tag.a (r.tagsRead cells pos res).a) r.tag.b
      (r.tagsRead cells pos res).b
    copy := ⟨copyStatus usable.a (r.tagsRead cells pos res).a.misroute,
      copyStatus usable.b (r.tagsRead cells pos res).b.misroute⟩ }

/-- The selection made of the copies that are valid at the read. -/
def Record.rerouted (r : Record) (res : Pair ReadResult) (before : PathSel) : Record :=
  r.withPath (selectPath r.fields before fun k => (validFrame (r.copy.get k) (res.get k)).isSome)

theorem readWork_eq (h : r.trunkCells = some cells) : r.readWork pos usable res =
    r.refresh (((r.checked cells pos usable res).rerouted res r.selected).farReceipt (cells.head? == some pos) res) := by
  unfold Record.readWork
  rw [h]
  rfl

theorem validFrame_isSome_iff {c : CopyStatus} {x : ReadResult} :
    (validFrame c x).isSome = true ↔ c = .good ∧ ∃ f, x = .present f := by
  simp [Option.isSome_iff_exists, validFrame_eq_some]

theorem rerouted_selected (r : Record) (res : Pair ReadResult) (before : PathSel) : (r.rerouted res before).selected =
    selectPath r.fields before fun k => (validFrame (r.copy.get k) (res.get k)).isSome := by
  unfold Record.rerouted
  rw [withPath_keeps]

theorem rerouted_keeps (r : Record) (res : Pair ReadResult) (before : PathSel) : r.rerouted res before = { r with
    selected := (r.rerouted res before).selected, lastPath := (r.rerouted res before).lastPath
    switches := (r.rerouted res before).switches } := by
  rw [rerouted_selected]
  exact withPath_keeps ..

section
variable (r : Record) (res : Pair ReadResult) (before : PathSel)

@[simp] theorem rerouted_tag : (r.rerouted res before).tag = r.tag := by rw [rerouted_keeps]
@[simp] theorem rerouted_copy : (r.rerouted res before).copy = r.copy := by rw [rerouted_keeps]
@[simp] theorem rerouted_misroutes : (r.rerouted res before).misroutes = r.misroutes := by rw [rerouted_keeps]
@[simp] theorem rerouted_fields : (r.rerouted res before).fields = r.fields := by rw [rerouted_keeps]
@[simp] theorem rerouted_ends : (r.rerouted res before).ends = r.ends := by rw [rerouted_keeps]
@[simp] theorem rerouted_health : (r.rerouted res before).health = r.health := by rw [rerouted_keeps]
@[simp] theorem rerouted_failed : (r.rerouted res before).failed = r.failed := by rw [rerouted_keeps]
@[simp] theorem rerouted_far : (r.rerouted res before).far = r.far := by rw [rerouted_keeps]
@[simp] theorem rerouted_farCand : (r.rerouted res before).farCand = r.farCand := by rw [rerouted_keeps]

end

theorem rerouted_chosen {before : PathSel} (h : (r.rerouted res before).selected = pathSel k) :
    (r.rerouted res before).lastPath = some k ∧
      (r.rerouted res before).switches = if r.lastPath = some (otherTrunk k) then bump r.switches else r.switches := by
  rw [rerouted_selected] at h
  unfold Record.rerouted
  rw [h, withPath_chosen]
  exact ⟨rfl, rfl⟩

theorem rerouted_unchosen {before : PathSel} (h : (r.rerouted res before).selected = .none) :
    (r.rerouted res before).lastPath = r.lastPath ∧ (r.rerouted res before).switches = r.switches := by
  rw [rerouted_selected] at h
  unfold Record.rerouted
  rw [h]
  exact ⟨rfl, rfl⟩

theorem trunkFrame_congr {q : Record} (hs : q.selected = r.selected) (hc : q.copy = r.copy) :
    q.trunkFrame res = r.trunkFrame res := by
  unfold Record.trunkFrame
  rw [hs, hc]

theorem checked_tag : (r.checked cells pos usable res).tag.get k =
    (r.tag.get k).atRead r.fields.expTag (cells.contains pos) (pos == 247) (res.get k) := by cases k <;> rfl

theorem checked_copy : (r.checked cells pos usable res).copy.get k =
    copyStatus (usable.get k) ((r.checked cells pos usable res).tag.get k).misroute := by cases k <;> rfl

/-- What the read of a station frame makes of a record with a trunk end. -/
structure RecordRead (r q : Record) (cells : List Nat) (pos : Nat) (usable : Pair Bool) (res : Pair ReadResult) : Prop where
  table : q.mapItems = r.mapItems ∧ q.fields = r.fields ∧ q.failed = r.failed
  tags : ∀ k, TagRead (r.tag.get k) (q.tag.get k) r.fields.expTag (pos ∈ cells) (pos = 247) (res.get k)
  copies : ∀ k, q.copy.get k = copyStatus (usable.get k) (q.tag.get k).misroute
  path : PathChosen r.fields r.selected q.selected fun k => q.copy.get k = .good ∧ ∃ f, res.get k = .present f
  chosen : ∀ k, q.selected = pathSel k →
    q.lastPath = some k ∧ q.switches = if r.lastPath = some (otherTrunk k) then bump r.switches else r.switches
  unchosen : q.selected = .none →
    q.lastPath = r.lastPath ∧ q.switches = r.switches ∧ q.far = .unknown ∧ q.farCand = none
  received : ∀ f, cells.head? = some pos → q.trunkFrame res = some f →
    (r.farCand = some f.status → q.far = f.status ∧ q.farCand = r.farCand) ∧
      (r.farCand ≠ some f.status → q.far = r.far ∧ q.farCand = some f.status)
  waited : q.selected ≠ .none → (cells.head? = some pos → q.trunkFrame res = none) →
    q.far = r.far ∧ q.farCand = r.farCand
  misroutes : q.misroutes = misrouteCount (misrouteCount r.misroutes r.tag.a q.tag.a) r.tag.b q.tag.b
  health : r.health = r.healthOf → q.health = q.healthOf

theorem readWork_read (h : r.trunkCells = some cells) :
    RecordRead r (r.readWork pos usable res) cells pos usable res := by
  have table := readWork_mapItems r pos usable res
  rw [readWork_eq h] at table ⊢
  have frame (old p : Record) (turn : Bool) : (old.refresh (p.farReceipt turn res)).trunkFrame res = p.trunkFrame res :=
    trunkFrame_congr (by simp) (by simp)
  refine ⟨⟨table, ?_, ?_⟩, fun k => ?_, fun k => ?_, ?_, fun k hk => ?_, fun hn => ?_, fun f ht hf => ?_, fun hs hw => ?_, ?_,
    fun judged => ?_⟩
  · simp [Record.checked]
  · simp [Record.checked]
  · simp only [refresh_tag, farReceipt_tag, rerouted_tag, checked_tag]
    exact atRead_tagRead _ _ _ (by simp) beq_iff_eq
  · simp only [refresh_copy, refresh_tag, farReceipt_copy, farReceipt_tag, rerouted_copy, rerouted_tag]
    exact checked_copy
  · simp only [refresh_copy, refresh_selected, farReceipt_copy, farReceipt_selected, rerouted_copy, rerouted_selected,
      ← validFrame_isSome_iff]
    exact selectPath_chosen ..
  · simp only [refresh_selected, refresh_lastPath, refresh_switches, farReceipt_selected, farReceipt_lastPath,
      farReceipt_switches] at hk ⊢
    exact rerouted_chosen hk
  · simp only [refresh_selected, farReceipt_selected] at hn
    obtain ⟨lastPath, switches⟩ := rerouted_unchosen hn
    simp only [refresh_lastPath, refresh_switches, refresh_far, refresh_farCand, farReceipt_unselected hn]
    exact ⟨lastPath, switches, trivial, trivial⟩
  · rw [frame] at hf
    have cases := farReceipt_cases hf
    simp only [refresh_far, refresh_farCand, beq_iff_eq.2 ht]
    simp only [rerouted_farCand, rerouted_far] at cases
    exact cases
  · rw [frame] at hw
    simp only [refresh_selected, farReceipt_selected] at hs
    simp only [refresh_far, refresh_farCand, farReceipt_waits hs fun ht => hw (beq_iff_eq.1 ht)]
    exact ⟨rerouted_far .., rerouted_farCand ..⟩
  · simp only [refresh_misroutes, refresh_tag, farReceipt_misroutes, farReceipt_tag, rerouted_misroutes, rerouted_tag]
    rfl
  · exact refresh_health r _ (by simp [Record.checked]) (by simp [Record.checked]) judged

end Sys2Proof.Machine
end

section
/-! The read of a station frame: its records, the received trunk signalling, and what the frame leaves of both (R104 to R118). -/

namespace Sys2Proof.Machine

variable {s t u v : State} {k : Trunk} {id : RecId} {res : Pair ReadResult} {n : Fin 248}

/-! ### What the stores' part of a read leaves of a record (R104 to R107) -/

/-- Two states whose records differ in their slips alone. -/
structure SlipsApart (s t : State) : Prop where
  record : ∀ id, t.record id = { s.record id with slips := (t.record id).slips }

theorem SlipsApart.trans (h : SlipsApart s t) (g : SlipsApart t u) : SlipsApart s u :=
  ⟨fun id => by rw [g.record id, h.record id]⟩

theorem SlipsApart.of_ct (h : t.ct = s.ct) : SlipsApart s t := ⟨fun id => by
  have record : t.record id = s.record id := by rw [State.record, h]; rfl
  rw [record]⟩

theorem SlipsApart.ite {c : Prop} [Decidable c] (h : SlipsApart s t) (g : SlipsApart s u) :
    SlipsApart s (if c then t else u) := by
  split
  · exact h
  · exact g

/-- What follows an update that leaves the circuit table alone. -/
theorem SlipsApart.after (g : SlipsApart t u) (h : t.ct = s.ct) : SlipsApart s u := .trans (.of_ct h) g

theorem anchor_slipsApart (s : State) (k : Trunk) : SlipsApart s (s.anchor k) := by
  have jumped : SlipsApart (s.setDeskew k .anchored) ((s.setDeskew k .anchored).jump k) :=
    .after ⟨(slipNotice_only _ .trunk).record⟩ rfl
  unfold State.anchor
  exact .ite (jumped.after rfl) (.of_ct rfl)

theorem loseWindow_slipsApart (s : State) (k : Trunk) : SlipsApart s (s.loseWindow k) := by
  have lost : SlipsApart s (if s.usable (otherTrunk k) then s.windowLost k else (s.windowLost k).anchor k) :=
    .ite (.of_ct rfl) ((anchor_slipsApart _ k).after rfl)
  rw [loseWindow_eq]
  exact lost.trans (.of_ct rfl)

theorem applyRead_slipsApart (s : State) (k : Trunk) (found : ReadResult) : SlipsApart s (s.applyRead k found) := by
  unfold State.applyRead
  exact .ite ((loseWindow_slipsApart _ k).after rfl) (.ite (.of_ct rfl) (.of_ct rfl))

theorem applyReads_slipsApart (s : State) (res : Pair ReadResult) : SlipsApart s (s.applyReads res) := by
  obtain ⟨k, order⟩ := applyReads_order s res
  rw [order]
  exact (applyRead_slipsApart ..).trans (applyRead_slipsApart ..)

/-! ### The read as a whole (R104) -/

/-- Which trunks are usable. -/
def State.usables (s : State) : Pair Bool := ⟨s.usable .a, s.usable .b⟩

theorem usables_get (s : State) (k : Trunk) : s.usables.get k = s.usable k := by cases k <;> rfl

theorem psRead_usable (s : State) (res : Pair ReadResult) (k : Trunk) :
    (s.psRead res).usable k = (s.applyReads res).usable k := rfl

theorem psRead_record (s : State) (res : Pair ReadResult) (id : RecId) : (s.psRead res).record id =
    ((s.applyReads res).record id).readWork s.ps.readPos (s.applyReads res).usables res :=
  record_updateRecords (s.applyReads res) (fun _ r => r.readWork s.ps.readPos (s.applyReads res).usables res) id

/-- What the read makes of a record with a trunk end, from the record ahead of it. -/
theorem psRead_read {r : Record} {cells : List Nat} (hr : r = u.record id) (h : r.trunkCells = some cells) :
    RecordRead r ((u.psRead res).record id) cells u.ps.readPos (u.applyReads res).usables res := by
  have apart := (applyReads_slipsApart u res).record id
  rw [← hr] at apart
  have cells' : ((u.applyReads res).record id).trunkCells = some cells := by rw [apart]; exact h
  have read := readWork_read (pos := u.ps.readPos) (usable := (u.applyReads res).usables) (res := res) cells'
  rw [psRead_record]
  generalize ((u.applyReads res).record id).readWork u.ps.readPos (u.applyReads res).usables res = q at *
  rw [apart] at read
  obtain ⟨table, tags, copies, path, chosen, unchosen, received, waited, misroutes, health⟩ := read
  exact ⟨table, tags, copies, path, chosen, unchosen, received, waited, misroutes, health⟩

/-- A record whose items shown change at the read is posted (R10). -/
theorem psRead_posts {r : Record} (hr : r = u.record id) (ha : r.fields.attention = true)
    (hs : r.sameShown ((u.psRead res).record id) = false) : id ∈ (u.psRead res).au.queue := by
  have apart := (applyReads_slipsApart u res).record id
  have queue := mem_updateRecords_queue (u.applyReads res)
    (fun _ r => r.readWork u.ps.readPos (u.applyReads res).usables res) id
  rw [psRead_record] at hs
  rw [apart, ← hr] at hs queue
  exact queue.2 (.inr ⟨ha, hs⟩)

/-! ### Received trunk signalling (R118) -/

theorem psRead_activeMap (u : State) (res : Pair ReadResult) : (u.psRead res).ct.activeMap = u.ct.activeMap := by
  rw [(psRead_work u res).table]

/-- The received entry of a cell after the read: the nibble of its turn, if the selected copy brings one. -/
theorem psRead_sig (u : State) (res : Pair ReadResult) (n : Fin 248) : (u.psRead res).ps.sig.get n =
    if sigTurn u.ps.readPos n.val = true then (((u.psRead res).sigReceipt res n.val).map (u.ps.sig.get n).receive).getD (u.ps.sig.get n)
    else u.ps.sig.get n := by
  have path := (applyReads_path u res).path
  have sig : (u.applyReads res).ps.sig = u.ps.sig := by rw [path]
  have pos : (u.applyReads res).ps.readPos = u.ps.readPos := by rw [path]
  rw [← sig, ← pos]
  exact mapVec_get _ (u.applyReads res).ps.sig n

theorem sigReceipt_eq {cell : Nat} {x : Entry} (h : s.ct.activeMap.entry .trunk cell = some x) : s.sigReceipt res cell =
    ((s.record x.owner).trunkFrame res).bind (·.nibbles[cell % 4]?) := by
  unfold State.sigReceipt
  rw [h]
  rfl

theorem sigReceipt_vacant {cell : Nat} (h : s.ct.activeMap.entry .trunk cell = none) : s.sigReceipt res cell = none := by
  unfold State.sigReceipt
  rw [h]
  rfl

theorem sigTurn_iff {r cell : Nat} : sigTurn r cell = true ↔ 4 * (r % 62) ≤ cell ∧ cell < 4 * (r % 62) + 4 := decide_eq_true_iff

/-- A nibble received in the cell's turn is accepted at its second appearance in a row. -/
theorem psRead_sig_received {x : Entry} {f : DFrame} {nib : Nibble} (turn : sigTurn u.ps.readPos n.val = true)
    (hx : u.ct.activeMap.entry .trunk n.val = some x) (hs : ((u.psRead res).record x.owner).selected = pathSel k)
    (hc : ((u.psRead res).record x.owner).copy.get k = .good) (hf : res.get k = .present f)
    (hn : f.nibbles[n.val % 4]? = some nib) :
    ((u.ps.sig.get n).cand = some nib → (u.psRead res).ps.sig.get n = ⟨nib, some nib⟩) ∧
      ((u.ps.sig.get n).cand ≠ some nib → (u.psRead res).ps.sig.get n = ⟨(u.ps.sig.get n).nib, some nib⟩) := by
  rw [← psRead_activeMap u res] at hx
  have receipt : (u.psRead res).sigReceipt res n.val = some nib := by
    rw [sigReceipt_eq hx, trunkFrame_eq_some.2 ⟨k, hs, hc, hf⟩]
    exact hn
  rw [psRead_sig, if_pos turn, receipt]
  exact ⟨fun h => if_pos h, fun h => if_neg h⟩

/-- Out of its turn, or without a valid selected copy, a cell's entry stays. -/
theorem psRead_sig_kept (h : ¬ sigTurn u.ps.readPos n.val = true ∨ ∀ x, u.ct.activeMap.entry .trunk n.val = some x →
      ¬ ∃ k f, ((u.psRead res).record x.owner).selected = pathSel k ∧
        ((u.psRead res).record x.owner).copy.get k = .good ∧ res.get k = .present f) :
    (u.psRead res).ps.sig.get n = u.ps.sig.get n := by
  rw [psRead_sig]
  obtain turn | unread := h
  · exact if_neg turn
  have receipt : (u.psRead res).sigReceipt res n.val = none := by
    rw [← psRead_activeMap u res] at unread
    cases hx : (u.psRead res).ct.activeMap.entry .trunk n.val with
    | none => exact sigReceipt_vacant hx
    | some x => rw [sigReceipt_eq hx, trunkFrame_eq_none (unread x hx), Option.bind_none]
  rw [receipt]
  exact ite_self _

/-! ### What a station frame leaves of the read (log 6) -/

theorem filled_queue (u : State) (inp : FrameIn) : (u.psRead u.reads).au.queue <+: (u.filled inp).au.queue := by
  have written : u.supplied.au.queue <+: (u.supplied.writeSources u.reads).au.queue := prefix_updateRecords ..
  rw [(filled_slips u inp).eq, (engineDone_rest u).2.2.2.2.2]
  exact written

/-- What a whole station frame keeps of the items of the read. -/
structure ReadKept (v t : State) : Prop where
  sig : t.ps.sig = v.ps.sig
  readPos : t.ps.readPos = v.ps.readPos
  queue : v.au.queue <+: t.au.queue
  record : ∀ id, t.record id = { v.record id with
    failed := (t.record id).failed, health := (t.record id).health, slips := (t.record id).slips
    tag := (t.record id).tag, copy := (t.record id).copy }

theorem stationFrame_readKept (u : State) (inp : FrameIn) :
    ReadKept (u.psRead u.reads) ((u.traffic inp).judge inp) := by
  have filled := filled_filled u inp
  have queue := filled_queue u inp
  have sent := traffic_sent u inp
  generalize u.filled inp = w at *
  generalize u.traffic inp = m at *
  have judged := judge_judged m inp
  generalize m.judge inp = t at *
  have path : t.ps = { (u.psRead u.reads).ps with deskew := t.ps.deskew, anchored := t.ps.anchored } := by
    rw [judged.path, sent.path, filled.path]
  refine ⟨by rw [path], by rw [path], (queue.trans sent.queue).trans judged.queue, fun id => ?_⟩
  have record : m.record id = w.record id := by rw [State.record, sent.ct]; rfl
  rw [judged.record, record, filled.record]

end Sys2Proof.Machine
end

section
/-! SUPPORT. What keeps the path law: health and copy statuses as their rules give them (R7, R111, R116). -/

namespace Sys2Proof.Machine

variable {s t u : State} {r q : Record} {k : Trunk} {id : RecId} {usable : Pair Bool}

/-! ### The law, record by record -/

/-- Health is as its rule gives it, and a record without a trunk end in the map holds the values of R7. -/
structure Record.HealthOk (r : Record) : Prop where
  inMap : r.inMap = true → r.health = r.healthOf
  outside : r.inMap = false → r.health = .normal
  absent : r.trunkCells = none → r.selected = .notApplicable ∧ r.copy = ⟨.down, .down⟩ ∧ r.far = .unknown

/-- Copy statuses follow the trunks and the misroute markers too (R111). -/
structure Record.PathOk (r : Record) (usable : Pair Bool) : Prop extends r.HealthOk where
  copies : r.trunkCells.isSome = true → ∀ k, r.copy.get k = copyStatus (usable.get k) (r.tag.get k).misroute

theorem pathLaw_iff : PathLaw s ↔ ∀ id, (s.record id).PathOk s.usables := by
  simp only [PathLaw, forall_eq]
  refine forall_congr' fun id => ⟨fun ⟨inMap, outside, copies, absent⟩ => ⟨⟨inMap, outside, absent⟩, fun h k => ?_⟩,
    fun ⟨⟨inMap, outside, absent⟩, copies⟩ => ⟨inMap, outside, fun h k => ?_, absent⟩⟩
  · rw [usables_get]
    exact copies h k
  · rw [← usables_get]
    exact copies h k

/-- The health of every record, with the copy statuses as they stand. -/
def HealthLaw (s : State) : Prop := ∀ id, (s.record id).HealthOk

theorem healthLaw_of_pathLaw (h : PathLaw s) : HealthLaw s := fun id => (pathLaw_iff.1 h id).toHealthOk

theorem trunkCells_isSome_iff : r.trunkCells.isSome = true ↔ r.inMap = true ∧ r.trunkSide.isSome = true := by
  unfold Record.trunkCells
  cases r.inMap with
  | false => simp
  | true =>
    rw [if_pos rfl]
    unfold Record.trunkSide
    split
    · next h =>
      obtain ⟨e, he, -⟩ := Option.map_eq_some_iff.1 h
      simp [Both.get, he]
    split
    · next h =>
      obtain ⟨e, he, -⟩ := Option.map_eq_some_iff.1 h
      simp [Both.get, he]
    · simp

theorem trunkCells_of_not_inMap (h : r.inMap = false) : r.trunkCells = none := by simp [Record.trunkCells, h]

/-- The items that the law speaks of. -/
structure PathItems where
  state : RecState
  ends : Both (Option End)
  health : Health
  failed : Both Bool
  selected : PathSel
  copy : Pair CopyStatus
  far : FarStatus
  misroute : Pair Bool

def Record.pathItems (r : Record) : PathItems :=
  ⟨r.state, r.ends, r.health, r.failed, r.selected, r.copy, r.far, ⟨r.tag.a.misroute, r.tag.b.misroute⟩⟩

/-- The law speaks of these items alone. -/
theorem Record.PathOk.of_items (h : q.pathItems = r.pathItems) (ok : r.PathOk usable) : q.PathOk usable := by
  have state : q.state = r.state := congrArg PathItems.state h
  have ends : q.ends = r.ends := congrArg PathItems.ends h
  have health : q.health = r.health := congrArg PathItems.health h
  have failed : q.failed = r.failed := congrArg PathItems.failed h
  have selected : q.selected = r.selected := congrArg PathItems.selected h
  have copy : q.copy = r.copy := congrArg PathItems.copy h
  have far : q.far = r.far := congrArg PathItems.far h
  have misroute (k : Trunk) : (q.tag.get k).misroute = (r.tag.get k).misroute := by
    cases k
    · exact congrArg (fun i => i.misroute.a) h
    · exact congrArg (fun i => i.misroute.b) h
  have inMap : q.inMap = r.inMap := by rw [Record.inMap, state]; rfl
  have side : q.trunkSide = r.trunkSide := by rw [Record.trunkSide, ends]; rfl
  have cells : q.trunkCells = r.trunkCells := by rw [Record.trunkCells, inMap, side, ends]; rfl
  have judged : q.healthOf = r.healthOf := by simp only [Record.healthOf, copy, side, failed]
  refine ⟨⟨?_, ?_, ?_⟩, ?_⟩
  · rw [inMap, health, judged]
    exact ok.inMap
  · rw [inMap, health]
    exact ok.outside
  · rw [cells, selected, copy, far]
    exact ok.absent
  · simp only [cells, copy, misroute]
    exact ok.copies

/-! ### Steps that keep the law -/

/-- The items of every record, and the trunks that are usable. -/
structure PathView where
  items : RecId → PathItems
  usable : Pair Bool

def State.pathView (s : State) : PathView := ⟨fun id => (s.record id).pathItems, s.usables⟩

/-- A change that keeps the law. -/
structure PathKept (s t : State) : Prop where
  law : PathLaw s → PathLaw t

theorem PathKept.refl : PathKept s s := ⟨id⟩

theorem PathKept.trans (h : PathKept s t) (g : PathKept t u) : PathKept s u := ⟨g.law ∘ h.law⟩

theorem PathKept.of_view (h : t.pathView = s.pathView) : PathKept s t := ⟨fun law => pathLaw_iff.2 fun id => by
  have items : (t.record id).pathItems = (s.record id).pathItems := congrFun (congrArg PathView.items h) id
  have usable : t.usables = s.usables := congrArg PathView.usable h
  rw [usable]
  exact .of_items items (pathLaw_iff.1 law id)⟩

/-- A change that leaves the records and both trunks alone. -/
theorem pathView_of_same (hr : t.ct.records = s.ct.records) (ht : t.trunks = s.trunks) (hp : t.ps = s.ps) :
    t.pathView = s.pathView := by
  unfold State.pathView State.usables State.usable State.record State.port State.deskew
  rw [hr, ht, hp]

/-- What follows, or goes before, a change that leaves the items alone. -/
theorem PathKept.after (g : PathKept t u) (h : t.pathView = s.pathView) : PathKept s u := (of_view h).trans g

theorem PathKept.then (g : PathKept s t) (h : u.pathView = t.pathView) : PathKept s u := g.trans (of_view h)

theorem PathKept.ite {c : Prop} [Decidable c] (h : PathKept s t) (g : PathKept s u) : PathKept s (if c then t else u) := by
  split
  · exact h
  · exact g

/-- An event that is due or changes nothing. -/
theorem PathKept.due {c : Prop} [Decidable c] (h : PathKept s t) : PathKept s (if c then t else s) := h.ite .refl

theorem PathKept.foldl {α : Type} {g : State → α → State} (h : ∀ s a, PathKept s (g s a)) (l : List α) (s : State) :
    PathKept s (l.foldl g s) := by
  induction l generalizing s with
  | nil => exact .refl
  | cons a as ih => exact (h s a).trans (ih _)

theorem StuOnly.pathView (h : StuOnly s t) : t.pathView = s.pathView :=
  pathView_of_same (by rw [h.eq]) (by rw [h.eq]) (by rw [h.eq])

/-! ### Records written -/

/-- Records that the law holds of still, with the trunks as they were. -/
theorem PathKept.of_records (hu : t.usables = s.usables)
    (h : ∀ id, (s.record id).PathOk s.usables → (t.record id).PathOk s.usables) : PathKept s t :=
  ⟨fun law => pathLaw_iff.2 fun id => by
    rw [hu]
    exact h id (pathLaw_iff.1 law id)⟩

theorem setRecord_path (h : (s.record id).PathOk s.usables → r.PathOk s.usables) : PathKept s (s.setRecord id r) :=
  .of_records rfl fun j ok => by
    rw [record_setRecord]
    split
    · next e => exact h (e ▸ ok)
    · exact ok

theorem setRecord_items (h : r.pathItems = (s.record id).pathItems) : PathKept s (s.setRecord id r) :=
  setRecord_path (.of_items h)

theorem mapRecords_items {f : RecId → Record → Record} (h : ∀ id r, (f id r).pathItems = r.pathItems) :
    PathKept s (s.mapRecords f) := .of_records rfl fun id ok => by
  rw [record_mapRecords]
  exact .of_items (h id _) ok

theorem freeRecord_pathOk (usable : Pair Bool) : Record.freeRecord.PathOk usable :=
  ⟨⟨nofun, fun _ => rfl, fun _ => ⟨rfl, rfl, rfl⟩⟩, nofun⟩

theorem freeRecords_path (gone : RecId → Bool) : PathKept s (s.freeRecords gone) := .of_records rfl fun id ok => by
  rw [record_freeRecords]
  split
  · exact freeRecord_pathOk _
  · exact ok

/-! ### Copy statuses and health (R111, R116) -/

/-- A record whose copy statuses are brought up to the trunks. -/
theorem syncCopies_law (h : HealthLaw s) : PathLaw s.syncCopies := by
  refine pathLaw_iff.2 fun id => ?_
  have ok := h id
  have usables : s.syncCopies.usables = s.usables := rfl
  rw [usables]
  unfold State.syncCopies
  rw [record_updateRecords]
  generalize s.record id = r at *
  split
  · next hc =>
    obtain ⟨inMap, side⟩ := Bool.and_eq_true_iff.1 hc
    have cells : r.trunkCells.isSome = true := trunkCells_isSome_iff.2 ⟨inMap, side⟩
    rw [refresh_keeps]
    refine ⟨⟨fun _ => ?_, fun out => Bool.noConfusion (inMap.symm.trans out), fun none => ?_⟩, fun _ k => by cases k <;> rfl⟩
    · rw [← refresh_keeps]
      exact refresh_health r _ rfl rfl (ok.inMap inMap)
    · exact Bool.noConfusion ((congrArg Option.isSome none).symm.trans cells)
  · next hc =>
    refine ⟨ok, fun cells => absurd ?_ hc⟩
    exact Bool.and_eq_true_iff.2 (trunkCells_isSome_iff.1 cells)

theorem PathWork.healthLaw (h : PathWork s t) (law : HealthLaw s) : HealthLaw t := fun id => by
  obtain ⟨inMap, outside, absent⟩ := law id
  rw [h.record id]
  exact ⟨inMap, outside, absent⟩

theorem healthLaw_of_records (h : t.ct.records = s.ct.records) (law : HealthLaw s) : HealthLaw t := fun id => by
  have record : t.record id = s.record id := by rw [State.record, h]; rfl
  rw [record]
  exact law id

/-- What follows an event of a trunk brings the copy statuses up to it (R111). -/
theorem trunkSettle_law (old : State) (h : HealthLaw s) : PathLaw (s.trunkSettle old) := by
  have records : (s.trunkFlags old).ct.records = s.ct.records := by rw [trunkFlags_ct]
  exact (PathKept.of_view (stuReact_only _).pathView).law (syncCopies_law (healthLaw_of_records records h))

end Sys2Proof.Machine
end

section
/-! SUPPORT. The operations of the state, one after another, keep the path law (R111, R116, R123). -/

namespace Sys2Proof.Machine

variable {s t u : State} {r q : Record} {k : Trunk} {id : RecId} {usable : Pair Bool}

/-! ### Work that leaves the path items alone -/

theorem usables_of_ports (hp : ∀ k, (t.port k).align = (s.port k).align) (hd : ∀ k, (t.deskew k).state = (s.deskew k).state) :
    t.usables = s.usables := by
  simp only [State.usables, State.usable, hp, hd]

/-- A change that leaves the records alone, and of the trunks whether they are usable. -/
theorem pathView_of_ports (hr : t.ct.records = s.ct.records) (hp : ∀ k, (t.port k).align = (s.port k).align)
    (hd : ∀ k, (t.deskew k).state = (s.deskew k).state) : t.pathView = s.pathView := by
  unfold State.pathView State.record
  rw [hr, usables_of_ports hp hd]

theorem setPort_view {p : TrunkPort} (h : p.align = (s.port k).align) : (s.setPort k p).pathView = s.pathView := by
  refine pathView_of_ports rfl (fun j => ?_) fun _ => rfl
  by_cases hj : j = k
  · subst hj
    rw [port_setPort_self, h]
  · rw [eq_otherTrunk hj, port_setPort_other]

theorem setDeskew_view {d : Deskew} (h : d.state = (s.deskew k).state) : (s.setDeskew k d).pathView = s.pathView := by
  refine pathView_of_ports rfl (fun _ => rfl) fun j => ?_
  by_cases hj : j = k
  · subst hj
    rw [deskew_setDeskew_self, h]
  · rw [eq_otherTrunk hj, deskew_setDeskew_other]

theorem changeTrib_view (s : State) (n : Idx8) (p : Trib) : (s.changeTrib n p).pathView = s.pathView := by
  have eq := changeTrib_eq s n p
  exact pathView_of_same (by rw [eq]) (by rw [eq]) (by rw [eq])

theorem DetsOnly.pathView (h : DetsOnly s t) : t.pathView = s.pathView :=
  pathView_of_same (by rw [h.eq]) (by rw [h.eq]) (by rw [h.eq])

theorem RefWork.pathView (h : RefWork s t) : t.pathView = s.pathView :=
  pathView_of_same (by rw [h.eq]) (by rw [h.eq]) (by rw [h.eq])

theorem stuStart_view (s : State) : s.stuStart.pathView = s.pathView := by
  have rest := stuStart_rest s
  exact pathView_of_same (by rw [rest]) (by rw [rest]) (by rw [rest])

theorem refSilent_view (s : State) : s.refSilent.pathView = s.pathView := (judgeRef_work s false).pathView

theorem SlipsApart.pathOk (h : SlipsApart s t) (ok : (s.record id).PathOk usable) : (t.record id).PathOk usable := by
  refine .of_items ?_ ok
  rw [h.record id]
  rfl

theorem SlipsOnly.path (h : SlipsOnly s t) : PathKept s t :=
  .of_records (by rw [h.eq]; rfl) fun _ => SlipsApart.pathOk ⟨h.record⟩

theorem arrive_view (s : State) (k : Trunk) (f : DFrame) (b : Bool) : (s.arrive k f b).pathView = s.pathView := by
  unfold State.arrive
  dsimp only
  split
  · exact setDeskew_view (d := { (s.deskew k).push f with hold := .until f.seq }) rfl
  · exact setDeskew_view rfl

theorem handOn_view (s : State) (k : Trunk) (seq : Nat) (header payload : List Byte) (b : Bool) :
    (s.handOn k seq header payload b).pathView = s.pathView := (arrive_view ..).trans (setPort_view rfl)

/-! ### Trunk events (R99, R111) -/

/-- A trunk event is one whose copy statuses are brought up to the trunks at its end. -/
theorem settled_path (h : HealthLaw s → HealthLaw u) : PathKept s (u.trunkSettle s) :=
  ⟨fun law => trunkSettle_law s (h (healthLaw_of_pathLaw law))⟩

theorem synced_path (h : PathWork s u) : PathKept s u.syncCopies :=
  ⟨fun law => syncCopies_law (h.healthLaw (healthLaw_of_pathLaw law))⟩

theorem changePort_path (s : State) (k : Trunk) (p : TrunkPort) : PathKept s (s.changePort k p) := by
  rw [changePort_eq]
  exact settled_path fun law => (moved_path s k p).healthLaw (healthLaw_of_records rfl law)

theorem configureTrunks_path (s : State) (ea eb : Bool) (skew : Nat) (code : Byte) :
    PathKept s (s.configureTrunks ea eb skew code) := by
  rw [configureTrunks_eq]
  exact settled_path fun law => rewired_path.healthLaw (healthLaw_of_records rfl law)

theorem entered_path (s : State) (k : Trunk) (p : TrunkPort) :
    PathKept s (((s.setPort k p).deskewEnter k).trunkSettle s) :=
  settled_path fun law => (deskewEnter_path _ k).healthLaw (healthLaw_of_records rfl law)

theorem recentred_path (s : State) (k : Trunk) : PathKept s (((s.setDeskew k .anchored).jump k).trunkSettle s) :=
  settled_path fun law => ((setDeskew_path s k _).trans (jump_path _ k)).healthLaw law

theorem regainWindow_path (s : State) (k : Trunk) : PathWork s (s.regainWindow k) :=
  (setDeskew_path s k _).trans (raise_path _ _)

/-! ### The read (R104, R111, R116) -/

theorem Record.HealthOk.pathOk (h : r.HealthOk) (hc : r.trunkCells = none) : r.PathOk usable := ⟨h, by simp [hc]⟩

theorem readWork_absent (h : r.trunkCells = none) (pos : Nat) (usable : Pair Bool) (res : Pair ReadResult) :
    r.readWork pos usable res = r := by
  unfold Record.readWork
  rw [h]

theorem trunkCells_of_mapItems (h : q.mapItems = r.mapItems) : q.inMap = r.inMap ∧ q.trunkCells = r.trunkCells := by
  have state : q.state = r.state := congrArg MapItems.state h
  have ends : q.ends = r.ends := congrArg MapItems.ends h
  have inMap : q.inMap = r.inMap := by rw [Record.inMap, state]; rfl
  have side : q.trunkSide = r.trunkSide := by rw [Record.trunkSide, ends]; rfl
  exact ⟨inMap, by rw [Record.trunkCells, inMap, side, ends]; rfl⟩

/-- A record with a trunk end in the map, in order with its health and its copy statuses. -/
theorem pathOk_of_cells (hc : r.trunkCells.isSome = true) (health : r.health = r.healthOf)
    (copies : ∀ k, r.copy.get k = copyStatus (usable.get k) (r.tag.get k).misroute) : r.PathOk usable where
  inMap _ := health
  outside out := by
    rw [trunkCells_of_not_inMap out] at hc
    cases hc
  absent none := by
    rw [none] at hc
    cases hc
  copies _ := copies

theorem psRead_path (s : State) (res : Pair ReadResult) : PathKept s (s.psRead res) := ⟨fun law => pathLaw_iff.2 fun id => by
  have ok := (pathLaw_iff.1 law id).toHealthOk
  cases h : (s.record id).trunkCells with
  | none =>
    have apart := applyReads_slipsApart s res
    have cells : ((s.applyReads res).record id).trunkCells = none := by
      rw [apart.record id]
      exact h
    rw [psRead_record, readWork_absent cells]
    exact apart.pathOk (ok.pathOk h)
  | some cells =>
    obtain ⟨inMap, same⟩ := trunkCells_of_mapItems (psRead_read (res := res) rfl h).table.1
    have cells : ((s.psRead res).record id).trunkCells.isSome = true := by rw [same, h]; rfl
    have mapped := (trunkCells_isSome_iff.1 cells).1
    exact pathOk_of_cells cells ((psRead_read rfl h).health (ok.inMap (inMap ▸ mapped))) (psRead_read rfl h).copies⟩

/-! ### The map flip (R38, R112) -/

theorem applyStaged_failed (h : r.freedByFlip = false) : r.applyStaged.failed = r.failed := by
  cases hs : r.staged with
  | none => rw [applyStaged_unstaged hs]
  | some op =>
    cases op with
    | activate => rw [applyStaged_active (.inl hs)]
    | resume => rw [applyStaged_active (.inr hs)]
    | suspend => rw [applyStaged_suspend hs]
    | remap => rw [applyStaged_remap hs]
    | retire =>
      have hh : r.fields.hold ≠ 0 := fun hh => Bool.noConfusion (h.symm.trans (freedByFlip_iff.2 ⟨hs, hh⟩))
      rw [applyStaged_retire hs hh]

/-- A staged operation that frees no record takes none out of the map. -/
theorem applyStaged_inMap (h : r.freedByFlip = false) (hm : r.inMap = true) : r.applyStaged.inMap = true := by
  cases hs : r.staged with
  | none => rwa [applyStaged_unstaged hs]
  | some op =>
    cases op with
    | activate => rw [applyStaged_active (.inl hs)]; rfl
    | resume => rw [applyStaged_active (.inr hs)]; rfl
    | suspend => rw [applyStaged_suspend hs]; rfl
    | remap => rw [applyStaged_remap hs]; exact hm
    | retire =>
      have hh : r.fields.hold ≠ 0 := fun hh => Bool.noConfusion (h.symm.trans (freedByFlip_iff.2 ⟨hs, hh⟩))
      rw [applyStaged_retire hs hh]
      rfl

/-- With the trunk end that it had, a record has the health that it had. -/
theorem healthOf_of_samePath (path : SamePath r q) (failed : q.failed = r.failed)
    (side : q.trunkSide.isSome = r.trunkSide.isSome) : q.healthOf = r.healthOf := by
  simp only [Record.healthOf, path.copy, failed, side]

theorem restartPath_outside (s : State) (old : Record) (h : q.inMap = false) : (s.restartPath old q).health = q.health := by
  have cells := trunkCells_of_not_inMap h
  have out : ¬ q.inMap = true := by simp [h]
  unfold State.restartPath
  rw [if_neg (by simp [trunkEndChanged, cells]), if_pos (by simp [cells])]
  dsimp only
  rw [if_neg out]

/-- A record whose path selection starts afresh is in order. -/
theorem PathFresh.pathOk (h : PathFresh s q) (hc : q.trunkCells.isSome = true) : q.PathOk s.usables := by
  obtain ⟨-, -, copy, tag, -, -, health⟩ := h
  refine pathOk_of_cells hc health fun k => ?_
  rw [copy, tag, usables_get]
  cases s.usable k with
  | true => rfl
  | false => rfl

theorem flipRecord_path (ok : r.PathOk s.usables) : (s.flipRecord r).PathOk s.usables := by
  cases hs : r.staged.isSome with
  | false =>
    rw [flipRecord_unstaged s (Option.isNone_iff_eq_none.1 (by simpa using hs))]
    exact ok
  | true =>
    cases hf : r.freedByFlip with
    | true =>
      rw [flipRecord_freed s hf]
      exact freeRecord_pathOk _
    | false =>
      have table := flipRecord_sameTable s (r := r)
      have staged := flipRecord_staged s hs
      cases hc : (s.flipRecord r).trunkCells with
      | none =>
        obtain ⟨selected, copy, far, judged⟩ := flipRecord_absent s hs hc
        refine Record.HealthOk.pathOk ⟨judged, fun out => ?_, fun _ => ⟨selected, copy, far⟩⟩ hc
        have now : r.applyStaged.inMap = false := table.inMap ▸ out
        have before : r.inMap = false := Bool.eq_false_iff.2 fun hm =>
          Bool.noConfusion (now.symm.trans (applyStaged_inMap hf hm))
        rw [staged, restartPath_outside s r now, (applyStaged_samePath hf).health]
        exact ok.outside before
      | some cells =>
        have mapped : (s.flipRecord r).trunkCells.isSome = true := by rw [hc]; rfl
        by_cases same : (s.flipRecord r).trunkCells = r.trunkCells
        · have path := flipRecord_samePath s hs mapped same
          have failed : (s.flipRecord r).failed = r.failed := by
            rw [staged, restartPath_same s (table.trunkCells ▸ mapped) (table.trunkCells.symm.trans same)]
            exact applyStaged_failed hf
          have was : r.trunkCells.isSome = true := same ▸ mapped
          have side : (s.flipRecord r).trunkSide.isSome = r.trunkSide.isSome :=
            (trunkCells_isSome_iff.1 mapped).2.trans (trunkCells_isSome_iff.1 was).2.symm
          refine pathOk_of_cells mapped ?_ fun k => ?_
          · rw [path.health, healthOf_of_samePath path failed side]
            exact ok.inMap (trunkCells_isSome_iff.1 was).1
          · rw [path.copy, path.tag]
            exact ok.copies was k
        · exact (flipRecord_changed s hs mapped same).1.pathOk mapped

theorem flip_path (s : State) : PathKept s s.flip := .of_records rfl fun id ok => by
  rw [record_flip]
  exact flipRecord_path ok

/-! ### The station multiframe start and the station frame (R36 to R44, R68, log 6) -/

theorem countdown_path (s : State) : PathKept s s.countdown := by
  refine (mapRecords_items fun id r => ?_).trans (freeRecords_path _)
  split
  · rfl
  · rfl

theorem expire_path (s : State) (id : RecId) : PathKept s (s.expire id) := (freeRecords_path _).then rfl

theorem multiframeStart_path (s : State) : PathKept s s.multiframeStart :=
  ((countdown_path _).after (stuStart_view s)).then rfl

theorem newFrame_path (s : State) : PathKept s s.newFrame := by
  unfold State.newFrame
  split
  · extract_lets s1 s2
    have start : PathKept s s1 := PathKept.refl.ite (multiframeStart_path s)
    have flipped : PathKept s s2 := start.trans (flip_path s1).due
    exact flipped.then rfl
  · exact .of_view rfl

theorem flush_path (s : State) : PathKept s s.flush := .of_view rfl

theorem opening_path (s : State) (inp : FrameIn) : PathKept s (s.opening inp) := by
  rw [opening_eq]
  exact ((flush_path s).trans (settledFor_only s inp).path).trans (newFrame_path _)

theorem sourced_path (failed : Both Bool) (ok : r.PathOk usable) : (r.sourced failed).PathOk usable := by
  cases h : r.inMap with
  | false =>
    rw [Record.sourced, if_neg (by simp [h])]
    exact ok
  | true =>
    have judged : (r.sourced failed).health = (r.sourced failed).healthOf := by
      rw [Record.sourced, if_pos h]
      exact refresh_health r _ rfl rfl (ok.inMap h)
    rw [sourced_keeps] at judged ⊢
    exact ⟨⟨fun _ => judged, fun out => Bool.noConfusion (h.symm.trans out), ok.absent⟩, ok.copies⟩

theorem writeSources_path (s : State) (res : Pair ReadResult) : PathKept s (s.writeSources res) :=
  .of_records rfl fun id ok => by
    rw [writeSources_record]
    exact sourced_path _ ok

theorem sendTrunks_view (s : State) (res : Pair ReadResult) : (s.sendTrunks res).pathView = s.pathView :=
  pathView_of_ports rfl (fun k => by cases k <;> rfl) fun _ => rfl

theorem filled_path (s : State) (inp : FrameIn) : PathKept s (s.filled inp) := by
  have supplied : PathKept s s.supplied := (psRead_path s s.reads).then rfl
  have sourced := supplied.trans (writeSources_path s.supplied s.reads)
  have ported : PathKept s ((s.supplied.writeSources s.reads).portsFilled s.reads) := sourced.then rfl
  exact (ported.then (sendTrunks_view _ _)).trans (filled_slips s inp).path

theorem traffic_path (s : State) (inp : FrameIn) : PathKept s (s.traffic inp) :=
  ((filled_path s inp).then (unitWork_only ..).pathView).then rfl

theorem judge_path (s : State) (inp : FrameIn) : PathKept s (s.judge inp) := by
  have tribs : PathKept s (s.judgeTribs inp) := .foldl (fun s t => .of_view (changeTrib_view s t _)) _ _
  rw [judge_eq]
  exact ((tribs.trans (changePort_path _ .a _)).trans (changePort_path _ .b _)).then (judgeRef_work ..).pathView

end Sys2Proof.Machine
end

section
/-! SUPPORT. The commands keep the path law: one lemma for each command's own work, one arm for each command. -/

namespace Sys2Proof.Machine

variable {s : State} {r : Record} {id : RecId} {usable : Pair Bool}

/-! ### Transactions -/

/-- A command's own work keeps the path law in every state. -/
def BodyPath (f : State → Code × State) : Prop := ∀ s, PathKept s (f s).2

theorem transact_path {ps : List Byte} {exempt responds : Bool} {own : Option (State → Code × State)}
    (h : ∀ f, own = some f → BodyPath f) : PathKept s (transact ps exempt responds own s) := by
  obtain e | ⟨c, e⟩ | ⟨f, hf, e⟩ := transact_cases ps exempt responds own s
  · rw [e]
    exact .of_view rfl
  · rw [e]
    exact .of_view rfl
  · rw [e]
    exact (h f hf s).then rfl

theorem ranged_path {α : Type} (a : Option α) {f : α → State → Code × State} (h : ∀ v, BodyPath (f v)) :
    BodyPath (ranged a f) := by
  intro s
  unfold ranged
  split
  · exact .refl
  · exact h _ s

theorem answering_path (r : State → List Byte) : BodyPath (answering r) := fun _ => .of_view rfl

/-! ### The command port, the counters and the lines -/

theorem nextAttentionBody_path : BodyPath nextAttentionBody := by
  intro s
  unfold nextAttentionBody
  split
  · exact .refl
  · exact .of_view rfl

theorem setMaskBody_path (a b c : Byte) : BodyPath (setMaskBody a b c) := by
  intro s
  unfold setMaskBody
  split
  · exact .of_view rfl
  · exact .refl

theorem clearAll_path (s : State) : PathKept s s.clearAll := by
  have records : PathKept s (s.mapRecords fun _ r => r.clearCounters) := mapRecords_items fun _ _ => rfl
  exact records.then (pathView_of_ports rfl (fun k => by cases k <;> rfl) fun _ => rfl)

/-- The six kinds of CLEAR COUNTERS (R174). -/
theorem clearCountersBody_path (kind index : Byte) : BodyPath (clearCountersBody kind index) := by
  intro s
  unfold clearCountersBody
  split
  · exact ranged_path _ (fun _ _ => .of_view rfl) s
  · exact ranged_path _ (fun k s => .of_view (setPort_view (p := (s.port k).clearCounters) rfl)) s
  · exact setRecord_items rfl
  · exact ranged_path _ (fun _ _ => .of_view rfl) s
  · exact ranged_path _ (fun _ _ => .of_view rfl) s
  · split
    · exact clearAll_path s
    · exact .refl
  · exact .refl

theorem lineConfigBody_path (a b c d : Byte) : BodyPath (lineConfigBody a b c d) := by
  intro s
  unfold lineConfigBody
  split
  · split
    · exact .refl
    · exact .ite (.of_view rfl) (.of_view rfl)
  · exact .refl

/-! ### The circuit table -/

theorem writeRecord_path {attention : Bool} (h : (s.record id).PathOk s.usables → r.PathOk s.usables) :
    PathKept s (s.writeRecord id r attention) := (setRecord_path h).then rfl

theorem openBody_path (a b : Byte) : BodyPath (openBody a b) := by
  intro s
  unfold openBody
  dsimp only
  split
  · exact .refl
  · refine ranged_path _ (fun c s => writeRecord_path fun _ => ?_) s
    exact ⟨⟨nofun, fun _ => rfl, fun _ => ⟨rfl, rfl, rfl⟩⟩, nofun⟩

theorem discardBody_path (a : Byte) : BodyPath (discardBody a) := by
  intro s
  unfold discardBody
  dsimp only
  split
  · exact .refl
  · exact freeRecords_path _

/-- Outside the map a record's ends do not bear on the law. -/
theorem setEnds_pathOk {ends : Both (Option End)} (h : r.inMap = false) (ok : r.PathOk usable) :
    { r with ends := ends }.PathOk usable :=
  have cells : { r with ends := ends }.trunkCells = none := trunkCells_of_not_inMap h
  Record.HealthOk.pathOk ⟨fun hm => Bool.noConfusion (h.symm.trans hm), ok.outside,
    fun _ => ok.absent (trunkCells_of_not_inMap h)⟩ cells

theorem setEndBody_path (a b c : Byte) (l : List Byte) : BodyPath (setEndBody a b c l) := by
  intro s
  unfold setEndBody
  dsimp only
  split
  · exact .refl
  split
  · split
    · exact .refl
    split
    · next draft => exact writeRecord_path (setEnds_pathOk (by rw [Record.inMap, draft]))
    split
    · exact .refl
    · exact setRecord_items rfl
  · exact .refl

/-- A new expected tag restarts the checks and leaves the misroute markers as they were (R19). -/
theorem withFields_items (r : Record) (f : Fields) : (r.withFields f).pathItems = r.pathItems := by
  unfold Record.withFields
  split
  · rfl
  · rfl

theorem setFieldBody_path (a b c d : Byte) : BodyPath (setFieldBody a b c d) := by
  intro s
  unfold setFieldBody
  dsimp only
  split
  · exact .refl
  split
  · exact .refl
  split
  · split
    · exact .refl
    split
    · exact .refl
    split
    · exact .refl
    · exact setRecord_items rfl
  · split
    · exact .refl
    · exact setRecord_items (withFields_items _ _)

theorem activateBody_path (a : Byte) : BodyPath (activateBody a) := by
  intro s
  unfold activateBody
  dsimp only
  split
  · exact .refl
  split
  · exact .refl
  split
  · exact .refl
  split
  · exact .refl
  · exact setRecord_items rfl

theorem stageBody_path (op : StagedOp) (allowed : RecState → Bool) (a : Byte) : BodyPath (stageBody op allowed a) := by
  intro s
  unfold stageBody
  dsimp only
  split
  · exact .refl
  split
  · exact .refl
  · exact setRecord_items rfl

theorem revokeBody_path (a : Byte) : BodyPath (revokeBody a) := by
  intro s
  unfold revokeBody
  dsimp only
  split
  · exact .refl
  split
  · exact .refl
  · exact setRecord_items rfl

theorem nextRecordBody_path : BodyPath nextRecordBody := by
  intro s
  unfold nextRecordBody
  dsimp only
  split
  · exact .of_view rfl
  split
  · exact .of_view rfl
  · exact .of_view rfl
  · exact .of_view rfl

theorem commitBody_path : BodyPath commitBody := by
  intro s
  unfold commitBody
  split
  · exact .refl
  split
  · exact .of_view rfl
  · exact .of_view rfl

theorem abortBody_path : BodyPath abortBody := by
  intro s
  unfold abortBody
  split
  · exact .of_view rfl
  · exact .refl

theorem mapQueryBody_path (a b : Byte) : BodyPath (mapQueryBody a b) := by
  intro s
  unfold mapQueryBody
  split
  · exact .refl
  split
  · exact answering_path _ s
  · exact .refl

/-! ### Ports and station timing -/

theorem tribConfigBody_path (t : Byte) (c : Option TribConfig) : BodyPath (tribConfigBody t c) := by
  intro s
  unfold tribConfigBody
  split
  · split
    · exact .refl
    split
    · exact .refl
    · exact .of_view (changeTrib_view s _ _)
  · exact .refl

theorem tribConfigShape_path (ps : List Byte) : ∀ f, tribConfigShape ps = some f → BodyPath f := by
  unfold tribConfigShape
  split
  · rintro _ ⟨⟩
    exact tribConfigBody_path _ _
  · nofun

theorem timingConfigure_path (a b : Byte) (l : List Byte) : BodyPath (timingConfigure a b l) := by
  intro s
  unfold timingConfigure
  split
  · split
    · exact .refl
    · exact .of_view (stuReact_only _).pathView
  · exact .refl

theorem trunkConfigBody_path (a b c d : Byte) : BodyPath (trunkConfigBody a b c d) := by
  intro s
  unfold trunkConfigBody
  split
  · split
    · exact .refl
    · exact configureTrunks_path s _ _ _ _
  · exact .refl

theorem recentreBody_path (b : Byte) : BodyPath (recentreBody b) := ranged_path _ fun k s => by
  split
  · exact .refl
  · exact recentred_path s k

/-! ### Units (R136 to R138, R149) -/

theorem detBindBody_path (a b c : Byte) : BodyPath (detBindBody a b c) := by
  intro s
  unfold detBindBody
  split
  · dsimp only
    split
    · exact .refl
    · exact .of_view rfl
  · exact .refl

theorem detUnbindBody_path (b : Byte) : BodyPath (detUnbindBody b) := ranged_path _ fun d s => by
  split
  · exact .refl
  · exact .refl
  · exact .refl
  · exact .of_view rfl

theorem detConfigBody_path (b : Byte) (c : Option DetConfig) : BodyPath (detConfigBody b c) := by
  intro s
  unfold detConfigBody
  split
  · split
    · exact .refl
    · exact .refl
    · exact .refl
    · exact .of_view rfl
  · exact .refl

theorem detConfigShape_path (ps : List Byte) : ∀ f, detConfigShape ps = some f → BodyPath f := by
  unfold detConfigShape
  split
  · rintro _ ⟨⟩
    exact detConfigBody_path _ _
  · nofun

theorem keyBindBody_path (a b c : Byte) : BodyPath (keyBindBody a b c) := by
  intro s
  unfold keyBindBody
  split
  · dsimp only
    split
    · exact .refl
    · exact .of_view rfl
  · exact .refl

theorem keyUnbindBody_path (b : Byte) : BodyPath (keyUnbindBody b) := ranged_path _ fun k s => by
  split
  · exact .refl
  · exact .refl
  · exact .refl
  · exact .of_view rfl

theorem keyConfigBody_path (b : Byte) (c : Option KeyConfig) : BodyPath (keyConfigBody b c) := by
  intro s
  unfold keyConfigBody
  split
  · split
    · exact .refl
    · exact .refl
    · exact .of_view rfl
  · exact .refl

theorem keyConfigShape_path (ps : List Byte) : ∀ f, keyConfigShape ps = some f → BodyPath f := by
  unfold keyConfigShape
  split
  · rintro _ ⟨⟩
    exact keyConfigBody_path _ _
  · nofun

theorem keyTestBody_path (a b c : Byte) : BodyPath (keyTestBody a b c) := ranged_path _ fun k s => by
  dsimp only
  split
  · exact .refl
  split
  · exact .refl
  split
  · exact .refl
  · exact .of_view rfl

/-! ### Resets (R168, R169) -/

/-- Every record is FREE after a reset. -/
theorem pathLaw_of_ct_reset (h : s.ct = .reset) : PathLaw s := pathLaw_iff.2 fun id => by
  rw [record_of_ct_reset h]
  exact freeRecord_pathOk _

theorem softResetBody_path : BodyPath softResetBody := fun s => ⟨fun _ => pathLaw_of_ct_reset (softResetBody_ct s)⟩

/-! ### Every command -/

theorem frameReceived_path (s : State) (t : Idx8) (bits : List Bool) : PathKept s (s.frameReceived t bits) := by
  unfold State.frameReceived
  extract_lets p frame s1
  have port : PathKept s s1 := .of_view (changeTrib_view s t _)
  exact .ite (port.trans (slipNotice_only s1 _).path) port

theorem exec_path (c : Instr) : ∃ t, exec c s = .next t ∧ PathKept s t := by
  have changed (t : Idx8) (p : Trib) : PathKept s (s.changeTrib t p) := .of_view (changeTrib_view s t p)
  have started : PathKept s s.stuStart := .of_view (stuStart_view s)
  have handed (n : Idx8) : PathKept s (s.takeHanded n) := .of_view rfl
  have keyed (n : Idx8) : PathKept s (s.takeKeyer n) := .of_view rfl
  have handedOn (k : Trunk) (seq : Nat) (header payload : List Byte) (b : Bool) :
      PathKept s (s.handOn k seq header payload b) := .of_view (handOn_view ..)
  cases c with
  | transactionStart =>
    refine ⟨_, rfl, ?_⟩
    split
    · exact .ite (.of_view rfl) (.of_view rfl)
    · exact .refl
  | emptyTransaction => exact ⟨_, rfl, .of_view rfl⟩
  | unknownCommand code ps => exact ⟨_, rfl, .ite .refl (.ite (.of_view rfl) (.of_view rfl))⟩
  | nop ps => exact ⟨_, rfl, transact_path (noParam_all fun _ => .refl)⟩
  | fetch ps => exact ⟨_, rfl, .ite (.of_view rfl) (.of_view rfl)⟩
  | softReset ps =>
    refine ⟨_, rfl, transact_path fun f hf => ?_⟩
    split at hf
    · cases hf
      exact softResetBody_path
    · cases hf
  | readFlags ps => exact ⟨_, rfl, transact_path (noParam_all fun _ => .of_view rfl)⟩
  | nextAttention ps => exact ⟨_, rfl, transact_path (noParam_all nextAttentionBody_path)⟩
  | setMask ps => exact ⟨_, rfl, transact_path (threeParams_all setMaskBody_path)⟩
  | clearCounters ps => exact ⟨_, rfl, transact_path (twoParams_all clearCountersBody_path)⟩
  | openRecord ps => exact ⟨_, rfl, transact_path (twoParams_all openBody_path)⟩
  | discard ps => exact ⟨_, rfl, transact_path (oneParam_all discardBody_path)⟩
  | setEnd ps =>
    refine ⟨_, rfl, transact_path fun f hf => ?_⟩
    obtain ⟨x, -, rfl⟩ := Option.map_eq_some_iff.1 hf
    exact setEndBody_path _ _ _ _
  | setField ps => exact ⟨_, rfl, transact_path (fourParams_all setFieldBody_path)⟩
  | activate ps => exact ⟨_, rfl, transact_path (oneParam_all activateBody_path)⟩
  | suspend ps => exact ⟨_, rfl, transact_path (oneParam_all (stageBody_path _ _))⟩
  | resume ps => exact ⟨_, rfl, transact_path (oneParam_all (stageBody_path _ _))⟩
  | retire ps => exact ⟨_, rfl, transact_path (oneParam_all (stageBody_path _ _))⟩
  | revoke ps => exact ⟨_, rfl, transact_path (oneParam_all revokeBody_path)⟩
  | query ps => exact ⟨_, rfl, transact_path (oneParam_all fun _ => answering_path _)⟩
  | queryStaged ps => exact ⟨_, rfl, transact_path (oneParam_all fun _ => answering_path _)⟩
  | cursor ps => exact ⟨_, rfl, transact_path (oneParam_all fun _ _ => .of_view rfl)⟩
  | nextRecord ps => exact ⟨_, rfl, transact_path (noParam_all nextRecordBody_path)⟩
  | commit ps => exact ⟨_, rfl, transact_path (noParam_all commitBody_path)⟩
  | abortCommit ps => exact ⟨_, rfl, transact_path (noParam_all abortBody_path)⟩
  | mapQuery ps => exact ⟨_, rfl, transact_path (twoParams_all mapQueryBody_path)⟩
  | tribConfig ps => exact ⟨_, rfl, transact_path (tribConfigShape_path ps)⟩
  | tribStatus ps => exact ⟨_, rfl, transact_path (oneParam_all fun _ => ranged_path _ fun _ => answering_path _)⟩
  | timingConfig ps =>
    refine ⟨_, rfl, transact_path fun f hf => ?_⟩
    obtain ⟨x, -, rfl⟩ := Option.map_eq_some_iff.1 hf
    exact timingConfigure_path _ _ _
  | timingStatus ps => exact ⟨_, rfl, transact_path (noParam_all (answering_path _))⟩
  | trunkConfig ps => exact ⟨_, rfl, transact_path (fourParams_all trunkConfigBody_path)⟩
  | trunkStatus ps => exact ⟨_, rfl, transact_path (oneParam_all fun _ => ranged_path _ fun _ => answering_path _)⟩
  | recentre ps => exact ⟨_, rfl, transact_path (oneParam_all recentreBody_path)⟩
  | detBind ps => exact ⟨_, rfl, transact_path (threeParams_all detBindBody_path)⟩
  | detUnbind ps => exact ⟨_, rfl, transact_path (oneParam_all detUnbindBody_path)⟩
  | detConfig ps => exact ⟨_, rfl, transact_path (detConfigShape_path ps)⟩
  | detStatus ps => exact ⟨_, rfl, transact_path (oneParam_all fun _ => ranged_path _ fun _ => answering_path _)⟩
  | keyBind ps => exact ⟨_, rfl, transact_path (threeParams_all keyBindBody_path)⟩
  | keyUnbind ps => exact ⟨_, rfl, transact_path (oneParam_all keyUnbindBody_path)⟩
  | keyConfig ps => exact ⟨_, rfl, transact_path (keyConfigShape_path ps)⟩
  | keyTest ps => exact ⟨_, rfl, transact_path (threeParams_all keyTestBody_path)⟩
  | keyStatus ps => exact ⟨_, rfl, transact_path (oneParam_all fun _ => ranged_path _ fun _ => answering_path _)⟩
  | lineConfig ps => exact ⟨_, rfl, transact_path (fourParams_all lineConfigBody_path)⟩
  | lineWrite ps => exact ⟨_, rfl, transact_path (oneParam_all fun _ _ => .of_view rfl)⟩
  | lineRead ps => exact ⟨_, rfl, transact_path (noParam_all (answering_path _))⟩
  | alarmMask ps => exact ⟨_, rfl, transact_path (oneParam_all fun _ => ranged_path _ fun _ _ => .of_view rfl)⟩
  | hardwareReset => exact ⟨_, rfl, ⟨fun _ => pathLaw_of_ct_reset rfl⟩⟩
  | resetRelease => exact ⟨_, rfl, .of_view rfl⟩
  | stationFrame inp =>
    exact ⟨_, rfl, .ite .refl ((opening_path s inp).trans ((traffic_path _ inp).trans (judge_path _ inp)))⟩
  | stationMultiframeStart => exact ⟨_, rfl, .due (multiframeStart_path s)⟩
  | mapFlip => exact ⟨_, rfl, .due (flip_path s)⟩
  | retireHoldExpiry id => exact ⟨_, rfl, .due (expire_path s id)⟩
  | tribClockLoss t => exact ⟨_, rfl, .due (changed t _)⟩
  | tribCandidateFound t bits =>
    refine ⟨_, rfl, ?_⟩
    split
    · exact .due (changed t _)
    · exact .refl
  | tribAlignmentConfirmed t bits => exact ⟨_, rfl, .due (changed t _)⟩
  | tribConfirmationFailed t bits => exact ⟨_, rfl, .due (changed t _)⟩
  | tribFrameReceived t bits => exact ⟨_, rfl, .due (frameReceived_path s t bits)⟩
  | tribAlignmentLoss t bits => exact ⟨_, rfl, .due (changed t _)⟩
  | aisWindowEnd t bits => exact ⟨_, rfl, .due (changed t _)⟩
  | tribRemoteAlarmChange t bits => exact ⟨_, rfl, .due (frameReceived_path s t bits)⟩
  | mfAlignmentLoss t bits => exact ⟨_, rfl, .due (frameReceived_path s t bits)⟩
  | tribTransmitFrame t => exact ⟨_, rfl, .due (.of_view rfl)⟩
  | refActivityLoss => exact ⟨_, rfl, .due (.of_view (refSilent_view s))⟩
  | acquisitionComplete => exact ⟨_, rfl, .due started⟩
  | holdoverExpiry => exact ⟨_, rfl, .due started⟩
  | wtrExpiry => exact ⟨_, rfl, .due started⟩
  | trunkClockLoss k => exact ⟨_, rfl, .due (changePort_path s k _)⟩
  | trunkCandidateFound k bits =>
    refine ⟨_, rfl, ?_⟩
    split
    · exact .due (changePort_path s k _)
    · exact .refl
  | trunkAlignmentConfirmed k bits overhead => exact ⟨_, rfl, .due (entered_path s k _)⟩
  | trunkConfirmationFailed k bits => exact ⟨_, rfl, .due (changePort_path s k _)⟩
  | trunkFrameJudged k header => exact ⟨_, rfl, .due (changePort_path s k _)⟩
  | trunkAlignmentLoss k word seq => exact ⟨_, rfl, .due (changePort_path s k _)⟩
  | trunkFrameHandedOn k payload b =>
    refine ⟨_, rfl, ?_⟩
    split
    · exact .due (handedOn k _ _ _ _)
    · exact .refl
  | windowLoss k => exact ⟨_, rfl, .due (synced_path (loseWindow_path s k))⟩
  | windowReturn k => exact ⟨_, rfl, .due (synced_path (regainWindow_path s k))⟩
  | anchorFrameArrival k payload b =>
    refine ⟨_, rfl, ?_⟩
    split
    · exact .due (handedOn k _ _ _ _)
    · exact .refl
  | detectorUnblock d => exact ⟨_, rfl, .due (handed d)⟩
  | detectorCommandRecognised d => exact ⟨_, rfl, .due (handed d)⟩
  | detectorRelease d => exact ⟨_, rfl, .due (handed d)⟩
  | trailExpiry d => exact ⟨_, rfl, .due (handed d)⟩
  | detectorUnavailable d => exact ⟨_, rfl, .due (handed d)⟩
  | lineRequestQualified k => exact ⟨_, rfl, .due (keyed k)⟩
  | keyerCommandEnd k => exact ⟨_, rfl, .due (keyed k)⟩
  | lockoutExpiry k => exact ⟨_, rfl, .due (keyed k)⟩
  | testRemainderExpiry k => exact ⟨_, rfl, .due (keyed k)⟩
  | lineLevelChange n w =>
    refine ⟨_, rfl, PathKept.then (t := s.wireLevel n w) (.of_view rfl) ?_⟩
    rw [raiseIf_eq]
    rfl

/-- A step runs one command, or none is waiting. -/
theorem step_path {t : State} (law : PathLaw s) (h : step s = .next t) : PathLaw t := by
  unfold step at h
  split at h
  · obtain rfl := Host.Outcome.next.inj h
    exact law
  · rename_i c rest _
    obtain ⟨u, hu, kept⟩ := exec_path (s := { s with pending := rest }) c
    rw [hu] at h
    obtain rfl := Host.Outcome.next.inj h
    exact (kept.after (s := s) rfl).law law

end Sys2Proof.Machine
end

section
/-! Copies, health, the tag channel and the transmitted end-status (R87, R88, R109 to R118). -/

namespace Sys2Proof.Machine

variable {s u v : State} {r q : Record} {cells : List Nat} {pos : Nat} {usable : Pair Bool} {res : Pair ReadResult}
  {k : Trunk} {id : RecId}

theorem forall_trunk {P : Trunk → Prop} : (∀ k, P k) ↔ P .a ∧ P .b :=
  ⟨fun h => ⟨h _, h _⟩, fun ⟨ha, hb⟩ k => by
    cases k with
    | a => exact ha
    | b => exact hb⟩

theorem exists_trunk {P : Trunk → Prop} : (∃ k, P k) ↔ P .a ∨ P .b := by
  rw [← not_iff_not, not_exists, forall_trunk, not_or]

theorem pathSel_inj {j k : Trunk} (h : pathSel j = pathSel k) : j = k :=
  Option.some.inj ((trunk_pathSel j).symm.trans ((congrArg PathSel.trunk h).trans (trunk_pathSel k)))

theorem pathSel_ne_none (k : Trunk) : pathSel k ≠ .none := by cases k <;> nofun

/-! ### What a read gives (R109 to R117) -/

theorem copyStatus_eq (usable misroute : Bool) : copyStatus usable misroute =
    if usable = true then (if misroute = true then .misrouted else .good) else .down := by
  unfold copyStatus
  cases usable with
  | false => rfl
  | true => rfl

theorem misrouteCount_eq (c : Counter) (old new : TagCheck) : misrouteCount c old new =
    if new.misroute = true ∧ old.misroute = false then bump c else c := by
  simp [misrouteCount]

section
variable (h : RecordRead r q cells pos usable res)
include h

/-- The status of the selected copy is taken in at the record's first cell. -/
theorem RecordRead.farEnd (hs : q.selected = pathSel k) :
    (∀ f, cells.head? = some pos → q.copy.get k = .good → res.get k = .present f →
      (r.farCand = some f.status → q.far = f.status ∧ q.farCand = r.farCand) ∧
      (r.farCand ≠ some f.status → q.far = r.far ∧ q.farCand = some f.status)) ∧
    (¬ (cells.head? = some pos ∧ q.copy.get k = .good ∧ ∃ f, res.get k = .present f) →
      q.far = r.far ∧ q.farCand = r.farCand) := by
  refine ⟨fun f turn good present => h.received f turn (trunkFrame_eq_some.2 ⟨k, hs, good, present⟩), fun silent => ?_⟩
  refine h.waited (hs ▸ pathSel_ne_none k) fun turn => trunkFrame_eq_none fun ⟨j, f, hj, good, present⟩ => ?_
  obtain rfl := pathSel_inj (hs.symm.trans hj)
  exact silent ⟨turn, good, f, present⟩

/-- Each copy whose marker goes on counts one misroute. -/
theorem RecordRead.marked (h1 : (q.tag.get (otherTrunk k)).misroute = true)
    (h0 : (r.tag.get (otherTrunk k)).misroute = false) : q.misroutes =
      if (q.tag.get k).misroute = true ∧ (r.tag.get k).misroute = false then bump (bump r.misroutes) else bump r.misroutes := by
  rw [h.misroutes, misrouteCount_eq, misrouteCount_eq]
  cases k with
  | a =>
    rw [if_pos (show q.tag.b.misroute = true ∧ r.tag.b.misroute = false from ⟨h1, h0⟩), apply_ite bump]
    rfl
  | b =>
    rw [if_pos (show q.tag.a.misroute = true ∧ r.tag.a.misroute = false from ⟨h1, h0⟩)]
    rfl

theorem RecordRead.unmarked (hk : ∀ k, (q.tag.get k).misroute = true → (r.tag.get k).misroute = true) :
    q.misroutes = r.misroutes := by
  have kept (k : Trunk) : ¬ ((q.tag.get k).misroute = true ∧ (r.tag.get k).misroute = false) :=
    fun ⟨now, before⟩ => Bool.noConfusion ((hk k now).symm.trans before)
  rw [h.misroutes, misrouteCount_eq, misrouteCount_eq]
  exact (if_neg (kept .b)).trans (if_neg (kept .a))

end

/-! ### Health (R116) -/

theorem healthOf_faulted : r.healthOf = .faulted ↔
    r.failed.x = true ∨ r.failed.y = true ∨ (r.trunkSide.isSome = true ∧ ∀ k, r.copy.get k ≠ .good) := by
  have condition : (r.failed.x || r.failed.y || (r.trunkSide.isSome && !decide (r.copy.get .a = .good) &&
      !decide (r.copy.get .b = .good))) = true ↔ r.failed.x = true ∨ r.failed.y = true ∨
        (r.trunkSide.isSome = true ∧ ∀ k, r.copy.get k ≠ .good) := by
    simp [forall_trunk, or_assoc, and_assoc]
  rw [← condition]
  unfold Record.healthOf
  dsimp only
  split
  · next faulted => exact iff_of_true rfl faulted
  · next sound =>
    refine iff_of_false ?_ sound
    split <;> nofun

theorem healthOf_unprotected : r.healthOf = .unprotected ↔ r.failed = ⟨false, false⟩ ∧ r.trunkSide.isSome = true ∧
    ∃ k, r.copy.get k = .good ∧ r.copy.get (otherTrunk k) ≠ .good := by
  have single : (r.trunkSide.isSome && (decide (r.copy.get .a = .good) != decide (r.copy.get .b = .good))) = true ↔
      r.trunkSide.isSome = true ∧ ∃ k, r.copy.get k = .good ∧ r.copy.get (otherTrunk k) ≠ .good := by
    rw [exists_trunk]
    by_cases ha : r.copy.get .a = .good <;> by_cases hb : r.copy.get .b = .good <;> simp [ha, hb, otherTrunk]
  have failed : r.failed = ⟨false, false⟩ ↔ r.failed.x = false ∧ r.failed.y = false := by
    cases r.failed
    simp
  by_cases faulted : r.healthOf = .faulted
  · refine iff_of_false (by rw [faulted]; nofun) fun ⟨hf, _, k, good, _⟩ => ?_
    obtain ⟨hx, hy⟩ := failed.1 hf
    obtain fx | fy | ⟨-, none⟩ := healthOf_faulted.1 faulted
    · exact Bool.noConfusion (hx.symm.trans fx)
    · exact Bool.noConfusion (hy.symm.trans fy)
    · exact none k good
  · have sound := mt healthOf_faulted.2 faulted
    simp only [not_or, Bool.not_eq_true] at sound
    rw [failed, ← single, and_iff_right ⟨sound.1, sound.2.1⟩]
    unfold Record.healthOf at faulted ⊢
    dsimp only at faulted ⊢
    split at faulted
    · exact absurd rfl faulted
    · next sound => rw [if_neg sound, ite_eq_left_iff]; simp

/-! ### The tag channel and the end-status (R87, R88) -/

theorem joinNibbles_toNat (hi lo : Nibble) : (joinNibbles hi lo).toNat = hi.toNat * 16 + lo.toNat := by
  have small := lo.isLt
  rw [joinNibbles, BitVec.toNat_append, ← Nat.shiftLeft_add_eq_or_of_lt small, Nat.shiftLeft_eq]

section
variable {n : Nat} {nib : Nat → Nibble} {rdi : Bool}

theorem overhead_tag : (s.overhead n nib rdi).getD 2 0 = (s.tagChannel n).1.extractLsb' 4 8 ∧
    (s.overhead n nib rdi).getD 3 0 = joinNibbles ((s.tagChannel n).1.extractLsb' 0 4) (s.tagChannel n).2 := ⟨rfl, rfl⟩

theorem overhead_vacant (h : s.ct.activeMap.entry .trunk n = none) :
    (s.overhead n nib rdi).getD 2 0 = 0 ∧ (s.overhead n nib rdi).getD 3 0 = 0x0F := by
  have channel : s.tagChannel n = (0, endStatusVacant) := by
    unfold State.tagChannel
    rw [h]
  obtain ⟨high, low⟩ := overhead_tag (s := s) (n := n) (nib := nib) (rdi := rdi)
  rw [high, low, channel]
  exact ⟨rfl, rfl⟩

theorem overhead_owned {e : Entry} (h : s.ct.activeMap.entry .trunk n = some e) :
    ((s.overhead n nib rdi).getD 2 0).toNat = (s.record e.owner).fields.txTag.toNat / 16 ∧
      ((s.overhead n nib rdi).getD 3 0).toNat = (s.record e.owner).fields.txTag.toNat % 16 * 16 +
        (s.endStatus (s.record e.owner) e.side).toNat := by
  have channel : s.tagChannel n = ((s.record e.owner).fields.txTag, s.endStatus (s.record e.owner) e.side) := by
    unfold State.tagChannel
    rw [h]
  obtain ⟨high, low⟩ := overhead_tag (s := s) (n := n) (nib := nib) (rdi := rdi)
  have small := (s.record e.owner).fields.txTag.isLt
  rw [high, low, channel, joinNibbles_toNat]
  simp only [BitVec.extractLsb'_toNat, Nat.shiftRight_eq_div_pow, Nat.pow_zero, Nat.div_one]
  exact ⟨Nat.mod_eq_of_lt (by omega), trivial⟩

end

theorem remoteAt_iff {p : Option Port} : s.remoteAt p = true ↔ ∃ n, p = some (.trib n) ∧ (s.trib n).rx.remote = true := by
  unfold State.remoteAt
  split
  · simp
  · next other => simpa using fun n hn => (other n hn).elim

/-- The end-status of an ACTIVE record: a test first, then a failed source, then the far port's remote alarm. -/
theorem endStatus_active (h : r.state = .active) (e : Side) : s.endStatus r e =
    if r.fields.loopback ≠ .none ∨ r.fields.inject ≠ .none then 4 else if r.failed.get e then 1
    else if s.remoteAt (r.portOf (otherSide e)) then 2 else 0 := if_neg (by simp [h])

/-- Settles O49: a read by `psRead_read`, the received signalling by `psRead_sig`, the path law of a step by `step_path`. -/
theorem tagChannelAndEndStatus : Obligations.TagChannelAndEndStatus := by
  refine ⟨fun u v res id r q cells hv hr hq hc => ?_, fun u v res n turn hv ht => ?_, fun s v inp hreset hv => ?_,
    fun r => ⟨healthOf_faulted, healthOf_unprotected⟩, fun s t => step_path,
    fun s n nib rdi => ⟨overhead_vacant, fun e => overhead_owned⟩, fun s r e test fail remote htest hfail hremote => ?_⟩
  · subst hv hq
    have read := psRead_read (res := res) hr hc
    refine ⟨read.tags, fun k => ?_, read.path, read.chosen, read.unchosen, fun k => read.farEnd, fun k => read.marked,
      read.unmarked, psRead_posts hr⟩
    rw [read.copies, copyStatus_eq, usables_get, ← psRead_usable]
  · subst hv ht
    refine ⟨fun x k f nib turn hx hs hg hf hn => psRead_sig_received (sigTurn_iff.2 turn) hx hs hg hf hn, fun h => ?_⟩
    exact psRead_sig_kept (h.imp_left (mt sigTurn_iff.1))
  · subst hv
    have kept := stationFrame_readKept (s.opening inp) inp
    refine ⟨_, exec_stationFrame s inp hreset, kept.sig, kept.readPos, fun id => (kept.queue.subset ·), fun id => ?_⟩
    rw [kept.record id]
    exact ⟨rfl, rfl, rfl, rfl, rfl, rfl⟩
  · subst htest hfail hremote
    refine ⟨fun h => if_pos h, fun h => ?_⟩
    rw [endStatus_active h, ← remoteAt_iff]
    refine ⟨fun ht => if_pos ht, fun ht hf => ?_, fun ht hf hr => ?_, fun ht hf hr => ?_⟩
    · rw [if_neg ht, if_pos hf]
    · rw [if_neg ht, if_neg hf, if_pos hr]
    · rw [if_neg ht, if_neg hf, if_neg hr]

end Sys2Proof.Machine
end

section
/-! RECENTRE, the loss of a trunk's window and the return to it (R105 to R108). -/

namespace Sys2Proof.Machine

variable {s t u : State} {k : Trunk} {b : Byte}

/-! ### The deskew jump (R106, R107) -/

theorem jump_port_self (s : State) (k : Trunk) :
    (s.jump k).port k = { s.port k with jumps := bump (s.port k).jumps } := port_setPort_self ..

theorem jump_port_other (s : State) (k : Trunk) : (s.jump k).port (otherTrunk k) = s.port (otherTrunk k) :=
  port_setPort_other ..

/-- The jump counts a slip in every ACTIVE or SUSPENDED record that owns a trunk cell. -/
theorem record_jump_slips (s : State) (k : Trunk) (id : RecId) : ((s.jump k).record id).slips =
    if ((s.record id).state = .active ∨ (s.record id).state = .suspended) ∧ id ∈ s.ownersOn .trunk
      then bump (s.record id).slips else (s.record id).slips :=
  congrArg Record.slips (record_countSlips (s.setPort k _) .trunk id)

/-! ### RECENTRE (R108) -/

theorem exec_recentre (h : Clear s) (b : Byte) : exec (.recentre [b]) s = .next (ran [b] (recentreBody b) s) :=
  congrArg Host.Outcome.next (transact_clear1 h ..)

theorem recentreBody_range (h : 1 < b.toNat) : recentreBody b s = (.range, s) := by
  unfold recentreBody
  rw [readTrunk_eq_none h]
  rfl

theorem recentreBody_state (hk : readTrunk b.toNat = some k) (ha : (s.port k).align ≠ .aligned) :
    recentreBody b s = (.state, s) := by
  unfold recentreBody
  rw [hk]
  exact if_pos ha

/-- The state ahead of what follows RECENTRE: the trunk under a new hold, and the jump counted. -/
def State.recentred (s : State) (k : Trunk) : State := (s.setDeskew k .anchored).jump k

theorem recentreBody_ok (hk : readTrunk b.toNat = some k) (ha : (s.port k).align = .aligned) :
    recentreBody b s = (.ok, (s.recentred k).trunkSettle s) := by
  unfold recentreBody
  rw [hk]
  exact if_neg (not_not.2 ha)

theorem recentred_work (s : State) (k : Trunk) : PathWork s (s.recentred k) := (setDeskew_path ..).trans (jump_path ..)

/-- The rise of SEL writes the command port alone, of which no trunk event speaks. -/
theorem TrunkEvent.rise (h : TrunkEvent s u) (sdo : List Byte) (c : Code) : TrunkEvent s (u.rise sdo c) := h

/-- A taken RECENTRE: an event of a trunk, with the stores, the ports and the slips of `recentred`. -/
theorem recentre_taken (hk : readTrunk b.toNat = some k) (ha : (s.port k).align = .aligned)
    (ht : t = ran [b] (recentreBody b) s) : Ended s t 1 .ok s.cp.response ∧ TrunkEvent s t ∧
      (∀ j, t.deskew j = (s.recentred k).deskew j) ∧ (∀ j, t.port j = (s.recentred k).port j) ∧
      ∀ id, (t.record id).slips = ((s.recentred k).record id).slips := by
  have work := recentred_work s k
  have settled := trunkSettle_settled s (s.recentred k)
  have cp := settled.cp_of_work (s := s) rfl work
  have slips (id : RecId) : (((s.recentred k).trunkSettle s).record id).slips = ((s.recentred k).record id).slips := by
    rw [settled.record id]
  rw [ran_of (recentreBody_ok hk ha)] at ht
  subst ht
  refine ⟨?_, (settled.event_of_work (s := s) rfl work rfl).rise _ _, settled.deskew, settled.port, slips⟩
  rw [← cp]
  rfl

/-! ### A change of window, and the copy statuses that follow it (R99, R105, R111) -/

theorem PathWork.qualified (h : PathWork s u) (src : Source) : u.qualified src = s.qualified src := by
  cases src with
  | ref => exact congrArg Stu.refActive h.stu
  | trib t => exact congrArg Trib.good (trib_of_tribs h.tribs t)
  | trunk k =>
    simp only [State.qualified]
    rw [h.port k]

theorem trunkFlag_cases (k : Trunk) : trunkFlag k = 8 ∨ trunkFlag k = 9 := by cases k <;> decide

theorem raise_au_congr (h : u.au = s.au) (n : Nat) : (u.raise n).au = (s.raise n).au := by
  unfold State.raise
  rw [h]

theorem raise_trunkFlag (s : State) (k : Trunk) (i : Nat) :
    (s.raise (trunkFlag k)).au.flags.getLsbD i = (s.au.flags.getLsbD i || decide (i = trunkFlag k)) :=
  raise_flag s i (by cases k <;> decide)

/-- Deskew work that raises the trunk's flag alone, with the copy statuses brought up to it, is an event of a trunk that leaves the
STU alone. -/
theorem PathWork.event_of_sync (work : PathWork s u) (raised : u.au = (s.raise (trunkFlag k)).au) :
    TrunkEvent s u.syncCopies := by
  have flag (i : Nat) : u.au.flags.getLsbD i = (s.au.flags.getLsbD i || decide (i = trunkFlag k)) := by
    rw [raised, raise_trunkFlag]
  have other (i : Nat) (hi : i ≠ trunkFlag k) : u.au.flags.getLsbD i = s.au.flags.getLsbD i := by simp [flag, hi]
  have number := trunkFlag_cases k
  have table : u.syncCopies.ct = { u.ct with records := u.syncCopies.ct.records } := rfl
  have sig : u.ps.sig = s.ps.sig := by rw [work.path]
  have mask : u.au.mask = s.au.mask := by rw [work.au]
  have queueEnable : u.au.queueEnable = s.au.queueEnable := by rw [work.au]
  refine ⟨work.tribs, work.keyers, work.clu, work.inReset, work.pending, by rw [table, work.table], fun id => ?_, sig, mask,
    queueEnable, .inr ⟨work.stu, other 10 (by omega), work.qualified⟩, fun i h8 h9 _ => other i (by omega)⟩
  rw [record_syncCopies, work.record id]
  exact ⟨rfl, rfl, rfl, rfl⟩

theorem syncCopies_flag_of_raised (raised : u.au = (s.raise (trunkFlag k)).au) :
    u.syncCopies.au.flags.getLsbD (trunkFlag k) = true := by
  have flags : u.syncCopies.au.flags = u.au.flags := rfl
  rw [flags, raised, raise_trunkFlag]
  simp

/-! ### The read due next (R104) -/

section
variable (ha : (s.port k).align = .aligned) (hh : (s.deskew k).hold = .none)
include ha hh

theorem readOf_eq_missing (h : ∀ f ∈ (s.deskew k).frames, f.seq ≠ s.ps.readPos) : s.readOf k = .missing := by
  have none : (s.deskew k).frames.find? (fun f => f.seq == s.ps.readPos) = Option.none :=
    List.find?_eq_none.2 fun f hf => by simpa using h f hf
  simp [State.readOf, ha, hh, none]

theorem readOf_eq_present (h : ∃ f ∈ (s.deskew k).frames, f.seq = s.ps.readPos) : ∃ f, s.readOf k = .present f := by
  have found : ((s.deskew k).frames.find? fun f => f.seq == s.ps.readPos).isSome = true := by simpa using h
  obtain ⟨f, hf⟩ := Option.isSome_iff_exists.1 found
  exact ⟨f, by simp [State.readOf, ha, hh, hf]⟩

/-! ### The rows (R105, log 2) -/

theorem exec_windowLoss (hr : s.inReset = false) (hw : (s.deskew k).state = .inWindow) (hm : (s.deskew k).missing = 2)
    (h : ∀ f ∈ (s.deskew k).frames, f.seq ≠ s.ps.readPos) :
    exec (.windowLoss k) s = .next (s.loseWindow k).syncCopies := by
  have third : s.losesWindow k .missing = true := decide_eq_true ⟨rfl, hw, by rw [hm]; decide⟩
  refine congrArg Host.Outcome.next (if_pos ?_)
  rw [hr, readOf_eq_missing ha hh h, third]
  rfl

theorem exec_windowReturn (hr : s.inReset = false) (hw : (s.deskew k).state = .outOfWindow) (hp : (s.deskew k).present = 7)
    (h : ∃ f ∈ (s.deskew k).frames, f.seq = s.ps.readPos) :
    exec (.windowReturn k) s = .next (s.regainWindow k).syncCopies := by
  obtain ⟨f, hf⟩ := readOf_eq_present ha hh h
  have eighth : s.regainsWindow k (.present f) = true := decide_eq_true ⟨hw, by rw [hp]; decide⟩
  refine congrArg Host.Outcome.next (if_pos ?_)
  rw [hr, hf, eighth]
  rfl

end

/-! ### What a change of window makes of the trunk (R105, R106) -/

theorem loseWindow_raised (s : State) (k : Trunk) : (s.loseWindow k).au = (s.raise (trunkFlag k)).au := by
  rw [loseWindow_eq]
  split
  · rfl
  · exact raise_au_congr (anchor_au (s.windowLost k) k) _

theorem loseWindow_windowLosses (s : State) (k : Trunk) :
    ((s.loseWindow k).port k).windowLosses = bump (s.port k).windowLosses := by
  have lost : ((s.windowLost k).port k).windowLosses = bump (s.port k).windowLosses :=
    congrArg TrunkPort.windowLosses (port_setPort_self s k _)
  rw [loseWindow_eq]
  split
  · exact lost
  · exact (congrArg TrunkPort.windowLosses (anchor_port_self (s.windowLost k) k)).trans lost

theorem loseWindow_deskew_beside (h : s.usable (otherTrunk k) = true) : (s.loseWindow k).deskew k =
    { s.deskew k with state := .outOfWindow, missing := 0, present := 0 } := by
  rw [loseWindow_eq, if_pos h]
  exact deskew_setDeskew_self ..

theorem loseWindow_deskew_alone (h : s.usable (otherTrunk k) = false) :
    (s.loseWindow k).deskew k = ⟨[], .inWindow, 0, 0, .awaiting⟩ := by
  rw [loseWindow_eq, if_neg (by simp [h])]
  exact anchor_deskew_self ..

theorem regainWindow_deskew (s : State) (k : Trunk) : (s.regainWindow k).deskew k =
    { s.deskew k with state := .inWindow, missing := 0, present := 0 } := deskew_setDeskew_self ..

theorem regainWindow_usable (ha : (s.port k).align = .aligned) : (s.regainWindow k).usable k = true :=
  decide_eq_true ⟨ha, congrArg Deskew.state (regainWindow_deskew s k)⟩

/-- Settles O46: RECENTRE by the state it makes ahead of what follows it, each change of window by its deskew work. -/
theorem recentreAndWindowChanges : Obligations.RecentreAndWindowChanges := by
  refine ⟨fun s b hc => ⟨_, exec_recentre hc b, fun h => ran_refusal (recentreBody_range h), fun k hk =>
    ⟨fun ha => ran_refusal (recentreBody_state hk ha), fun ha => ?_⟩⟩, fun s k hr ha hh =>
    ⟨fun hw hm h => ⟨_, exec_windowLoss ha hh hr hw hm h, ?_⟩, fun hw hp h => ⟨_, exec_windowReturn ha hh hr hw hp h, ?_⟩⟩⟩
  · obtain ⟨ended, event, deskew, port, slips⟩ := recentre_taken hk ha rfl
    refine ⟨ended, event, ?_, ?_, ?_, ?_, fun id => (slips id).trans (record_jump_slips (s.setDeskew k .anchored) k id)⟩
    · exact (deskew k).trans (deskew_setDeskew_self s k .anchored)
    · exact (deskew _).trans (deskew_setDeskew_other s k .anchored)
    · exact (port k).trans (jump_port_self (s.setDeskew k .anchored) k)
    · exact (port _).trans (jump_port_other (s.setDeskew k .anchored) k)
  · have work := loseWindow_path s k
    have raised := loseWindow_raised s k
    exact ⟨work.event_of_sync raised, work.cp, loseWindow_windowLosses s k, syncCopies_flag_of_raised raised,
      loseWindow_deskew_beside, loseWindow_deskew_alone⟩
  · have work := regainWindow_path s k
    have raised : (s.regainWindow k).au = (s.raise (trunkFlag k)).au := rfl
    exact ⟨work.event_of_sync raised, work.cp, rfl, syncCopies_flag_of_raised raised, regainWindow_deskew s k,
      regainWindow_usable ha⟩

end Sys2Proof.Machine
end

section
/-! SUPPORT. The outcomes of a keyer's frame event (R151, R152, R157). -/

namespace Sys2Proof.Machine

variable {k : Keyer} {level : Option Bool}

/-- What every frame event of a bound keyer leaves: the run, and the record of the line's level, the request and the byte
(R148, R151). -/
def Keyer.sending (k : Keyer) (level : Option Bool) (b : Byte) : Keyer :=
  { k with qual := k.qualify level, last := ⟨level.getD false, k.request level, some b, false⟩, gained := false }

/-! ### The run and the request (R151) -/

theorem qualify_asserted (h : level = some true) : k.qualify level = min (k.run + 1) (k.cfg.q + 1) :=
  if_pos h

theorem qualify_released (h : level ≠ some true) : k.qualify level = 0 := if_neg h

/-- An asserted level makes a request when the run had reached Q before it. -/
theorem qualified_iff : k.cfg.q + 1 ≤ k.qualify level ↔ level = some true ∧ k.cfg.q ≤ k.run := by
  by_cases h : level = some true
  · rw [qualify_asserted h]
    simp only [h, true_and]
    omega
  · rw [qualify_released h]
    simp [h]

theorem request_eq (k : Keyer) (level : Option Bool) :
    k.request level = (decide (level = some true ∧ k.cfg.q ≤ k.run) || decide (0 < k.test)) := by
  unfold Keyer.request
  simp only [qualified_iff]

theorem request_of_qualified (h : level = some true) (hq : k.cfg.q ≤ k.run) : k.request level = true := by
  simp [request_eq, h, hq]

theorem request_of_test (h : 0 < k.test) : k.request level = true := by simp [request_eq, h]

theorem request_none (h : level ≠ some true) (ht : k.test = 0) : k.request level = false := by simp [request_eq, h, ht]

/-- The run that stood at Q reaches Q + 1. -/
theorem qualify_reaches (h : k.run = k.cfg.q) : k.qualify (some true) = k.cfg.q + 1 := by
  rw [qualify_asserted rfl, h, min_self]

/-! ### The outcomes (R152) -/

/-- GUARD, or a LOCKOUT that has run its G frames. -/
abbrev Keyer.idle (k : Keyer) : Prop := k.state = .guard ∨ k.state = .lockout ∧ k.lockout = 0

/-- A request in GUARD, or at the end of LOCKOUT, starts a COMMAND. -/
theorem keyerFrame_starts (hs : k.idle) (hr : k.request level = true) : k.frame level = { k.sending level k.cfg.c1 with
    state := .command, duration := 1, sent := bump k.sent, oddFrame := true, test := k.test - 1 } := by
  obtain hs | ⟨hs, h0⟩ := hs
  · simp [Keyer.frame, Keyer.inGuard, Keyer.sendCommand, Keyer.sending, hs, hr]
  · simp [Keyer.frame, Keyer.inLockout, Keyer.inGuard, Keyer.sendCommand, Keyer.sending, hs, h0, hr]

theorem keyerFrame_rests (hs : k.idle) (hr : k.request level = false) :
    k.frame level = { k.sending level k.cfg.guard with state := .guard } := by
  obtain hs | ⟨hs, h0⟩ := hs
  · simp [Keyer.frame, Keyer.inGuard, Keyer.sendGuard, Keyer.sending, hs, hr]
  · simp [Keyer.frame, Keyer.inLockout, Keyer.inGuard, Keyer.sendGuard, Keyer.sending, hs, h0, hr]

/-- A COMMAND of at least Kmin frames ends without a request. -/
theorem keyerFrame_ends (hs : k.state = .command) (hd : k.cfg.kmin ≤ k.duration) (hr : k.request level = false) :
    k.frame level = { k.sending level k.cfg.guard with
      state := if k.cfg.g = 0 then .guard else .lockout, lockout := if k.cfg.g = 0 then k.lockout else k.cfg.g - 1 } := by
  by_cases hg : k.cfg.g = 0
  · simp [Keyer.frame, Keyer.inCommand, Keyer.sendGuard, Keyer.sending, hs, hd, hr, hg]
  · simp [Keyer.frame, Keyer.inCommand, Keyer.sendGuard, Keyer.sending, hs, hd, hr, hg]

/-- A COMMAND goes on by a request, or until Kmin frames have been sent. -/
theorem keyerFrame_goes_on (hs : k.state = .command) (h : k.duration < k.cfg.kmin ∨ k.request level = true) :
    k.frame level = { k.sending level (if k.cfg.dual = true ∧ k.oddFrame = true then k.cfg.c2 else k.cfg.c1) with
      duration := min (k.duration + 1) k.cfg.kmin, oddFrame := !k.oddFrame, test := k.test - 1 } := by
  have on : (decide (k.cfg.kmin ≤ k.duration) && !k.request level) = false := by
    obtain hd | hr := h
    · simp [hd]
    · simp [hr]
  simp [Keyer.frame, Keyer.inCommand, Keyer.sendCommand, Keyer.sending, hs, on]

theorem keyerFrame_locked (hs : k.state = .lockout) (hl : 0 < k.lockout) :
    k.frame level = { k.sending level k.cfg.guard with lockout := k.lockout - 1 } := by
  simp [Keyer.frame, Keyer.inLockout, Keyer.sendGuard, Keyer.sending, hs, hl]

theorem keyerFrame_unbound (hs : k.state = .unbound) : k.frame level = k := by simp [Keyer.frame, hs]

/-- In GUARD and in COMMAND a test in progress sends a command byte (R152, R153). -/
theorem keyerFrame_test (hs : k.state = .guard ∨ k.state = .command) (ht : 0 < k.test) (level : Option Bool) :
    (k.frame level).state = .command ∧ (k.frame level).test = k.test - 1 := by
  have hr : k.request level = true := request_of_test ht
  obtain hg | hc := hs
  · rw [keyerFrame_starts (.inl hg) hr]
    exact ⟨rfl, rfl⟩
  · rw [keyerFrame_goes_on hc (.inr hr)]
    exact ⟨hc, rfl⟩

/-- In SINGLE mode every command byte is C1 (R152). -/
theorem keyerFrame_single (hs : k.state = .guard ∨ k.state = .command) (hr : k.request level = true)
    (hd : k.cfg.dual = false) : (k.frame level).last.byte = some k.cfg.c1 := by
  obtain hg | hc := hs
  · rw [keyerFrame_starts (.inl hg) hr]
    rfl
  · rw [keyerFrame_goes_on hc (.inr hr)]
    exact congrArg some (if_neg (by simp [hd]))

/-- What every frame event keeps of the keyer, and what it records of the line (R148, R151, R157). -/
structure KeyerRecorded (k e : Keyer) (level : Option Bool) : Prop where
  binding : e.binding = k.binding
  cfg : e.cfg = k.cfg
  taken : e.taken = k.taken
  qual : e.qual = k.qualify level
  gained : e.gained = false
  lineLevel : e.last.level = level.getD false
  request : e.last.request = k.request level

/-- The counts and the state that an outcome writes are not of that record. -/
theorem sending_recorded {b : Byte} {state : KeyState} {duration lockout test : Nat} {sent : Counter} {odd : Bool} :
    KeyerRecorded k { k.sending level b with
      state := state, duration := duration, lockout := lockout, test := test, sent := sent, oddFrame := odd } level :=
  ⟨rfl, rfl, rfl, rfl, rfl, rfl, rfl⟩

theorem keyerFrame_recorded_idle (hs : k.idle) : KeyerRecorded k (k.frame level) level := by
  cases hr : k.request level with
  | true => exact keyerFrame_starts hs hr ▸ sending_recorded
  | false => exact keyerFrame_rests hs hr ▸ sending_recorded

theorem keyerFrame_recorded (hs : k.state ≠ .unbound) (level : Option Bool) : KeyerRecorded k (k.frame level) level := by
  cases h : k.state with
  | unbound => exact absurd h hs
  | guard => exact keyerFrame_recorded_idle (.inl h)
  | command =>
    by_cases on : k.duration < k.cfg.kmin ∨ k.request level = true
    · exact keyerFrame_goes_on h on ▸ sending_recorded
    · rw [not_or, Nat.not_lt, Bool.not_eq_true] at on
      exact keyerFrame_ends h on.1 on.2 ▸ sending_recorded
  | lockout =>
    by_cases hl : 0 < k.lockout
    · exact keyerFrame_locked h hl ▸ sending_recorded
    · exact keyerFrame_recorded_idle (.inr ⟨h, by omega⟩)

theorem keyerFrame_taken (k : Keyer) (level : Option Bool) : (k.frame level).taken = k.taken := by
  by_cases hs : k.state = .unbound
  · rw [keyerFrame_unbound hs]
  · exact (keyerFrame_recorded hs level).taken

end Sys2Proof.Machine
end

section
/-! SUPPORT. The keyers at a station frame: the level read, the event taken or kept, and the byte's delivery (R127, R151, R152,
R154). -/

namespace Sys2Proof.Machine

variable {s t u : State} {n : Idx8} {inp : FrameIn}

/-! ### The level of a KEY_IN line (R151, R156) -/

/-- A KEY_IN line drives nothing, so it presents the level of its wiring. -/
theorem presented_keyIn (h : (s.line n).function = .keyIn) : s.presented n = ((s.line n).wire != (s.line n).activeLow) := by
  have undriven : s.driven n = none := by simp [State.driven, h, LineFunction.drives]
  simp [State.presented, State.pinLevel, undriven, h]

theorem keyLine_function {l : Idx8} (h : s.keyLine n = some l) : (s.line l).function = .keyIn := by
  have found := List.find?_some h
  exact (of_decide_eq_true found).1

/-- The level that a keyer reads is of the contact lines alone. -/
theorem keyLevel_of_clu (h : t.clu = s.clu) (n : Idx8) : t.keyLevel n = s.keyLevel n := by
  have line (l : Idx8) : t.line l = s.line l := by
    unfold State.line
    rw [h]
  have keyLine : t.keyLine n = s.keyLine n := by
    unfold State.keyLine
    simp only [line]
  unfold State.keyLevel
  rw [keyLine]
  cases hl : s.keyLine n with
  | none => rfl
  | some l =>
    have keyIn := keyLine_function hl
    rw [Option.map_some, Option.map_some, presented_keyIn keyIn, presented_keyIn (line l ▸ keyIn), line]

/-! ### The keyers of one frame (R152, R154, log 4) -/

/-- A keyer's part of a station frame, ahead of the delivery of its byte: its frame event, or nothing more if that has been taken
ahead of the frame. -/
def State.keyerFramed (s : State) (n : Idx8) : Keyer :=
  if (s.keyer n).taken then { s.keyer n with taken := false } else s.keyerAfter n

theorem keyerFramed_taken (h : (s.keyer n).taken = true) : s.keyerFramed n = { s.keyer n with taken := false } := if_pos h

theorem keyerFramed_due (h : (s.keyer n).taken = false) : s.keyerFramed n = (s.keyer n).frame (s.keyLevel n) :=
  if_neg (by simp [h])

theorem keyerFramed_takes (s : State) (n : Idx8) : (s.keyerFramed n).taken = false := by
  cases h : (s.keyer n).taken with
  | true => rw [keyerFramed_taken h]
  | false => rw [keyerFramed_due h, keyerFrame_taken, h]

theorem keyerFramed_binding (s : State) (n : Idx8) : (s.keyerFramed n).binding = (s.keyer n).binding := by
  cases h : (s.keyer n).taken with
  | true => rw [keyerFramed_taken h]
  | false => rw [keyerFramed_due h, keyerFrame_binding]

theorem keyerFramed_unbound (h : (s.keyer n).state = .unbound) : s.keyerFramed n = { s.keyer n with taken := false } := by
  cases ht : (s.keyer n).taken with
  | true => rw [keyerFramed_taken ht]
  | false => rw [keyerFramed_due ht, keyerFrame_unbound h, ← ht]

theorem keyer_of_keyers (h : t.keyers = s.keyers) (n : Idx8) : t.keyer n = s.keyer n := congrArg (fun v => v.get n) h

theorem keyer_keyerFrames (s : State) (n : Idx8) : s.keyerFrames.keyer n = s.keyerFramed n := by
  have read : s.keyerFrames.keyer n =
      if (s.keyer n).taken then { s.keyer n with taken := false } else s.keyerAfter (unitAt n.val) := mapVec_get ..
  rw [read, unitAt_val]
  rfl

/-- The read of the trunks leaves the keyers and the lines that they read. -/
theorem keyer_supplied (u : State) (n : Idx8) : u.supplied.keyer n = u.keyerFramed n := by
  have read := psRead_work u u.reads
  have stores : u.supplied.keyers = (u.psRead u.reads).keyerFrames.keyers := rfl
  rw [keyer_of_keyers stores, keyer_keyerFrames]
  unfold State.keyerFramed State.keyerAfter
  rw [keyer_of_keyers read.keyers, keyLevel_of_clu read.clu]

theorem keyer_engineDone (u : State) (n : Idx8) :
    u.engineDone.keyer n = (u.supplied.writeSources u.reads).markDelivered (u.keyerFramed n) := by
  have marked : u.engineDone.keyer n =
      (u.supplied.writeSources u.reads).markDelivered ((u.supplied.writeSources u.reads).keyer n) := mapVec_get ..
  have sourced : (u.supplied.writeSources u.reads).keyers = u.supplied.keyers := rfl
  rw [marked, keyer_of_keyers sourced, keyer_supplied]

/-- The works after the engine's leave the keyers as they are. -/
theorem stationFrame_keyers (u : State) (inp : FrameIn) : ((u.traffic inp).judge inp).keyers = u.engineDone.keyers := by
  have units : ((u.filled inp).unitWork u u.reads (u.repeatsNow inp) inp).keyers = (u.filled inp).keyers := by
    rw [(unitWork_only ..).eq]
  have paced : (u.traffic inp).keyers = ((u.filled inp).unitWork u u.reads (u.repeatsNow inp) inp).keyers := rfl
  have slips : (u.filled inp).keyers = u.engineDone.keyers := by rw [(filled_slips u inp).eq]
  rw [(judge_judged (u.traffic inp) inp).keyers, paced, units, slips]

/-- The works after the engine's leave of a record all that lets a keyer's byte through. -/
theorem stationFrame_passesKeyer (u : State) (inp : FrameIn) (id : RecId) (dir : Side) :
    (((u.traffic inp).judge inp).record id).passesKeyer dir =
      ((u.supplied.writeSources u.reads).record id).passesKeyer dir := by
  have judged := (judge_judged (u.traffic inp) inp).record id
  have sent : (u.traffic inp).record id = (u.filled inp).record id := by
    unfold State.record
    rw [(traffic_sent u inp).ct]
  rw [judged, sent, (filled_sources u inp).record id]
  rfl

theorem markDelivered_bound {k : Keyer} {id : RecId} {dir : Side} (h : k.binding = some (id, dir)) :
    s.markDelivered k = { k with last := { k.last with delivered := (s.record id).passesKeyer dir } } := by
  rw [State.markDelivered, h]

theorem markDelivered_unbound {k : Keyer} (h : k.binding = none) : s.markDelivered k = k := by rw [State.markDelivered, h]

theorem passesKeyer_iff {r : Record} {dir : Side} : r.passesKeyer dir = true ↔
    r.state = .active ∧ r.fields.loopback = .none ∧ r.failed.get dir = false := by simp [Record.passesKeyer, and_assoc]

section
variable (ht : t = (u.traffic inp).judge inp)
include ht

theorem stationFrame_keyer (n : Idx8) : t.keyer n = (u.supplied.writeSources u.reads).markDelivered (u.keyerFramed n) := by
  rw [ht, keyer_of_keyers (stationFrame_keyers u inp), keyer_engineDone]

theorem stationFrame_keyer_taken (n : Idx8) : (t.keyer n).taken = false := by
  rw [stationFrame_keyer ht]
  unfold State.markDelivered
  split
  · exact keyerFramed_takes u n
  · exact keyerFramed_takes u n

theorem stationFrame_keyer_unbound (hs : (u.keyer n).state = .unbound) (hb : (u.keyer n).binding = none) :
    t.keyer n = { u.keyer n with taken := false } := by
  rw [stationFrame_keyer ht, markDelivered_unbound ((keyerFramed_binding u n).trans hb), keyerFramed_unbound hs]

/-- The delivery of a bound keyer's byte is judged by the record as the frame leaves it. -/
theorem stationFrame_keyer_bound {id : RecId} {dir : Side} (hb : (u.keyer n).binding = some (id, dir)) :
    t.keyer n = { u.keyerFramed n with
      last := { (u.keyerFramed n).last with delivered := (t.record id).passesKeyer dir } } := by
  rw [stationFrame_keyer ht, markDelivered_bound ((keyerFramed_binding u n).trans hb), ht, stationFrame_passesKeyer]

end

end Sys2Proof.Machine
end

section
/-! The rows of a keyer's frame event, and the station frame's (R127, R151 to R154, R157). -/

namespace Sys2Proof.Machine

variable {s : State} {n : Idx8}

/-! ### The rows (R151 to R153, log 4) -/

/-- A row that is due takes the keyer's frame event, and touches no other keyer. -/
theorem takeKeyer_row (s : State) (n : Idx8) : s.takeKeyer n = { s with keyers := (s.takeKeyer n).keyers } ∧
    (∀ m, m ≠ n → (s.takeKeyer n).keyer m = s.keyer m) ∧
    (s.takeKeyer n).keyer n = { s.keyerAfter n with taken := true } :=
  ⟨rfl, fun m hm => (keyer_setKeyer s n m _).trans (if_neg (Ne.symm hm)), keyer_setKeyer_self s n _⟩

theorem keyerAfter_recorded (hs : (s.keyer n).state ≠ .unbound) :
    KeyerRecorded (s.keyer n) (s.keyerAfter n) (s.keyLevel n) := keyerFrame_recorded hs _

section
variable (hr : s.inReset = false) (hs : (s.keyer n).state ≠ .unbound) (ht : (s.keyer n).taken = false)
include hr hs ht

theorem keyDue_of_outcome {outcome : Keyer → Keyer → Bool} (ho : outcome (s.keyer n) (s.keyerAfter n) = true) :
    s.keyDue n outcome = true := by simp [State.keyDue, hr, hs, ht, ho]

/-- The run that reaches Q + 1 is due. -/
theorem exec_lineRequestQualified (hl : s.keyLevel n = some true) (hq : (s.keyer n).run = (s.keyer n).cfg.q) :
    exec (.lineRequestQualified n) s = .next (s.takeKeyer n) := by
  have reached : (s.keyerAfter n).qual = (s.keyer n).cfg.q + 1 := by rw [(keyerAfter_recorded hs).qual, hl, qualify_reaches hq]
  exact congrArg Host.Outcome.next (if_pos (keyDue_of_outcome hr hs ht (decide_eq_true ⟨by omega, reached⟩)))

/-- A COMMAND of at least Kmin frames without a request is due to end. -/
theorem exec_keyerCommandEnd (hc : (s.keyer n).state = .command) (hd : (s.keyer n).cfg.kmin ≤ (s.keyer n).duration)
    (hq : (s.keyer n).request (s.keyLevel n) = false) : exec (.keyerCommandEnd n) s = .next (s.takeKeyer n) := by
  have ended : (s.keyerAfter n).state ≠ .command := by
    rw [State.keyerAfter, keyerFrame_ends hc hd hq]
    dsimp only
    split
    · nofun
    · nofun
  exact congrArg Host.Outcome.next (if_pos (keyDue_of_outcome hr hs ht (decide_eq_true ⟨hc, ended⟩)))

/-- A LOCKOUT that has run its G frames is due to end, by a request or without one. -/
theorem exec_lockoutExpiry (hl : (s.keyer n).state = .lockout) (h0 : (s.keyer n).lockout = 0) :
    exec (.lockoutExpiry n) s = .next (s.takeKeyer n) := by
  have expired : (s.keyerAfter n).state ≠ .lockout := by
    cases hq : (s.keyer n).request (s.keyLevel n) with
    | true =>
      rw [State.keyerAfter, keyerFrame_starts (.inr ⟨hl, h0⟩) hq]
      nofun
    | false =>
      rw [State.keyerAfter, keyerFrame_rests (.inr ⟨hl, h0⟩) hq]
      nofun
  exact congrArg Host.Outcome.next (if_pos (keyDue_of_outcome hr hs ht (decide_eq_true ⟨hl, expired⟩)))

/-- The last command byte of a test is due. -/
theorem exec_testRemainderExpiry (h1 : (s.keyer n).test = 1)
    (hgc : (s.keyer n).state = .guard ∨ (s.keyer n).state = .command) :
    exec (.testRemainderExpiry n) s = .next (s.takeKeyer n) := by
  have last : (s.keyerAfter n).test = 0 := (keyerFrame_test hgc (by omega) _).2.trans (by omega)
  exact congrArg Host.Outcome.next (if_pos (keyDue_of_outcome hr hs ht (decide_eq_true ⟨by omega, last⟩)))

end

/-- Settles O53: the outcomes of a frame event, its place in a station frame, and the four rows by the outcome that makes each
of them due. -/
theorem keyerFrameEvents : Obligations.KeyerFrameEvents := by
  refine ⟨fun k e level req hs he hreq => ?outcomes, fun s u inp n hr hu => ?stationFrame, fun s n k hr hk hs ht => ?rows⟩
  case outcomes =>
    obtain rfl : req = k.request level := hreq.trans (request_eq k level).symm
    subst he
    have recorded := keyerFrame_recorded hs level
    refine ⟨rfl, recorded.gained, recorded.binding, recorded.cfg, recorded.qual, recorded.lineLevel, recorded.request,
      fun idle => ⟨fun hq => ?starts, fun hq => ?rests⟩, fun hc hd hq => ?ends, fun hc on => ?goesOn, fun hl h0 => ?locked⟩
    case starts =>
      rw [keyerFrame_starts idle hq]
      exact ⟨rfl, rfl, rfl, rfl, rfl, rfl⟩
    case rests =>
      rw [keyerFrame_rests idle hq]
      exact ⟨rfl, rfl, rfl, rfl, rfl⟩
    case ends =>
      rw [keyerFrame_ends hc hd hq]
      exact ⟨rfl, rfl, rfl, fun hg => if_pos hg, fun hg => ⟨if_neg hg, if_neg hg⟩⟩
    case goesOn =>
      rw [keyerFrame_goes_on hc on]
      exact ⟨hc, rfl, rfl, rfl, rfl, rfl⟩
    case locked =>
      rw [keyerFrame_locked hl h0]
      exact ⟨hl, rfl, rfl, rfl, rfl⟩
  case stationFrame =>
    refine ⟨_, exec_stationFrame s inp hr, ?_⟩
    rw [← hu]
    exact ⟨stationFrame_keyer_taken rfl n, stationFrame_keyer_unbound rfl, fun id dir hb => ⟨u.keyerFramed n,
      keyerFramed_taken, keyerFramed_due, _, stationFrame_keyer_bound rfl hb, passesKeyer_iff⟩⟩
  case rows =>
    subst hk
    obtain ⟨eq, others, self⟩ := takeKeyer_row s n
    have recorded := keyerAfter_recorded hs
    refine ⟨fun hl hq => ⟨_, exec_lineRequestQualified hr hs ht hl hq, eq, others, ?qualified⟩,
      fun hc hd hl h0 => ⟨_, exec_keyerCommandEnd hr hs ht hc hd (request_none hl h0), eq, others, ?ended⟩,
      fun hl h0 => ⟨_, exec_lockoutExpiry hr hs ht hl h0, eq, others, fun hn hk => ?released, fun hk => ?requested⟩,
      fun h1 hgc => ⟨_, exec_testRemainderExpiry hr hs ht h1 hgc, eq, others, ?tested⟩⟩
    case qualified =>
      have request := request_of_qualified hl hq.ge
      rw [self]
      refine ⟨recorded.qual.trans (by rw [hl, qualify_reaches hq]), recorded.request.trans request,
        recorded.lineLevel.trans (by rw [hl]; rfl), rfl, fun hg => ?_⟩
      rw [State.keyerAfter, keyerFrame_starts (.inl hg) request]
      exact ⟨rfl, rfl, rfl, rfl⟩
    case ended =>
      have silent := request_none hl h0
      rw [self, State.keyerAfter, keyerFrame_ends hc hd silent]
      refine ⟨rfl, silent, qualify_released hl, rfl, fun hg => if_pos hg, fun hg => ⟨if_neg hg, ?_⟩⟩
      dsimp only
      rw [if_neg hg]
      omega
    case released =>
      rw [self, State.keyerAfter, keyerFrame_rests (.inr ⟨hl, h0⟩) (request_none hn hk)]
      exact ⟨rfl, rfl, rfl⟩
    case requested =>
      rw [self, State.keyerAfter, keyerFrame_starts (.inr ⟨hl, h0⟩) (request_of_test hk)]
      exact ⟨rfl, rfl, rfl⟩
    case tested =>
      have pending : 0 < (s.keyer n).test := by omega
      obtain ⟨state, test⟩ := keyerFrame_test hgc pending (s.keyLevel n)
      rw [self]
      refine ⟨test.trans (by omega), state, fun hg => ?_, fun hd => ?_⟩
      · rw [State.keyerAfter, keyerFrame_starts (.inl hg) (request_of_test pending)]
        rfl
      · exact keyerFrame_single hgc (request_of_test pending) hd

end Sys2Proof.Machine
end

section
/-! SUPPORT. What keeps the detectors' law: changes that leave what it speaks of alone, frame events, sweeps and the freeing of
records (R135, R140). -/

namespace Sys2Proof.Machine

variable {s t u v w : State} {d e : Detector} {id : RecId}

/-! ### The law, detector by detector -/

/-- What the law asks of one detector, by the records of a state. -/
structure State.DetSound (s : State) (d : Detector) : Prop where
  bound : d.binding = none ↔ d.state = .unbound
  watches : d.armed →
    ∃ id dir, d.binding = some (id, dir) ∧ (s.record id).state = .active ∧ (s.record id).failed.get dir = false

theorem detectorLaw_iff : DetectorLaw s ↔ ∀ n, s.DetSound (s.det n) :=
  ⟨fun law n => ⟨(law n).1, (law n).2⟩, fun sound n => ⟨(sound n).bound, (sound n).watches⟩⟩

theorem not_armed_of_unbound (h : d.state = .unbound) : ¬ d.armed := by simp [Detector.armed, h]

theorem not_armed_of_blocked (h : d.state = .blocked) : ¬ d.armed := by simp [Detector.armed, h]

theorem State.DetSound.of_unbound (hb : d.binding = none) (hs : d.state = .unbound) : s.DetSound d :=
  ⟨iff_of_true hb hs, fun armed => absurd armed (not_armed_of_unbound hs)⟩

theorem State.DetSound.of_blocked (hb : d.binding ≠ none) (hs : d.state = .blocked) : s.DetSound d :=
  ⟨iff_of_false hb (by simp [hs]), fun armed => absurd armed (not_armed_of_blocked hs)⟩

theorem freed_sound (s : State) (d : Detector) : s.DetSound d.freed := .of_unbound rfl rfl

/-- An armed detector's record is ACTIVE. -/
theorem State.DetSound.active_of_armed {dir : Side} (ok : s.DetSound d) (hb : d.binding = some (id, dir)) (armed : d.armed) :
    (s.record id).state = .active := by
  obtain ⟨id', dir', bound, active, -⟩ := ok.watches armed
  rw [hb] at bound
  cases bound
  exact active

/-! ### Changes that leave alone what the law speaks of -/

/-- The same states and source states of the records, the same bindings and states of the detectors. -/
structure WatchSame (s t : State) : Prop where
  dets : DetsRestarted s t
  record : ∀ id, (t.record id).state = (s.record id).state ∧ (t.record id).failed = (s.record id).failed

theorem record_watched (h : t.ct.records = s.ct.records) (id : RecId) :
    (t.record id).state = (s.record id).state ∧ (t.record id).failed = (s.record id).failed := by
  have same : t.record id = s.record id := by rw [State.record, h]; rfl
  rw [same]
  exact ⟨rfl, rfl⟩

theorem WatchSame.of_blocks (hr : t.ct.records = s.ct.records) (hd : t.dets = s.dets) : WatchSame s t :=
  ⟨.of_dets hd, record_watched hr⟩

theorem WatchSame.refl : WatchSame s s := .of_blocks rfl rfl

theorem WatchSame.trans (h : WatchSame s t) (g : WatchSame t u) : WatchSame s u where
  dets := h.dets.trans g.dets
  record id := ⟨(g.record id).1.trans (h.record id).1, (g.record id).2.trans (h.record id).2⟩

theorem WatchSame.foldl {α : Type} {f : State → α → State} (hf : ∀ s a, WatchSame s (f s a)) (l : List α) (s : State) :
    WatchSame s (l.foldl f s) := by
  induction l generalizing s with
  | nil => exact .refl
  | cons a as ih => exact (hf s a).trans (ih _)

theorem State.DetSound.congr (ok : s.DetSound d) (hb : e.binding = d.binding) (hs : e.state = d.state) : s.DetSound e where
  bound := by
    rw [hb, hs]
    exact ok.bound
  watches := by
    unfold Detector.armed
    rw [hb, hs]
    exact ok.watches

theorem State.DetSound.of_records (ok : s.DetSound d)
    (h : ∀ id, (t.record id).state = (s.record id).state ∧ (t.record id).failed = (s.record id).failed) : t.DetSound d where
  bound := ok.bound
  watches armed := by
    obtain ⟨id, dir, bound, active, sourced⟩ := ok.watches armed
    exact ⟨id, dir, bound, (h id).1.trans active, (h id).2 ▸ sourced⟩

/-- A change that keeps the law. -/
structure DetectorsKept (s t : State) : Prop where
  law : DetectorLaw s → DetectorLaw t

theorem DetectorsKept.of_sound (h : (∀ n, s.DetSound (s.det n)) → ∀ n, t.DetSound (t.det n)) : DetectorsKept s t :=
  ⟨fun law => detectorLaw_iff.2 (h (detectorLaw_iff.1 law))⟩

theorem DetectorsKept.of_same (h : WatchSame s t) : DetectorsKept s t :=
  .of_sound fun law n => ((law n).of_records h.record).congr (h.dets n).1 (h.dets n).2

theorem DetectorsKept.of_blocks (hr : t.ct.records = s.ct.records) (hd : t.dets = s.dets) : DetectorsKept s t :=
  .of_same (.of_blocks hr hd)

/-- Detectors that are changed, with the records as they were. -/
theorem DetectorsKept.of_dets (hr : t.ct.records = s.ct.records) (h : (∀ n, s.DetSound (s.det n)) → ∀ n, s.DetSound (t.det n)) :
    DetectorsKept s t := .of_sound fun law n => (h law n).of_records (record_watched hr)

theorem DetectorsKept.refl : DetectorsKept s s := ⟨id⟩

theorem DetectorsKept.trans (h : DetectorsKept s t) (g : DetectorsKept t u) : DetectorsKept s u := ⟨g.law ∘ h.law⟩

theorem DetectorsKept.ite {c : Prop} [Decidable c] (h : DetectorsKept s t) (g : DetectorsKept s u) :
    DetectorsKept s (if c then t else u) := by
  split
  · exact h
  · exact g

/-- An event that is due or changes nothing. -/
theorem DetectorsKept.due {c : Prop} [Decidable c] (h : DetectorsKept s t) : DetectorsKept s (if c then t else s) := h.ite .refl

/-! ### Records (R9, R44) -/

theorem mapRecords_same {f : RecId → Record → Record} (h : ∀ id r, (f id r).state = r.state ∧ (f id r).failed = r.failed) :
    WatchSame s (s.mapRecords f) where
  dets := .of_dets rfl
  record id := by
    rw [record_mapRecords]
    exact h id _

theorem setRecord_same {r : Record} (hs : r.state = (s.record id).state) (hf : r.failed = (s.record id).failed) :
    WatchSame s (s.setRecord id r) where
  dets := .of_dets rfl
  record j := by
    rw [record_setRecord]
    split
    · next e => exact e ▸ ⟨hs, hf⟩
    · exact ⟨rfl, rfl⟩

/-- A record that is not ACTIVE has no armed detector, and may be written. -/
theorem setRecord_detectors {r : Record} (h : (s.record id).state ≠ .active) : DetectorsKept s (s.setRecord id r) :=
  .of_sound fun law n => by
    have ok := law n
    refine ⟨ok.bound, fun armed => ?_⟩
    obtain ⟨j, dir, bound, active, sourced⟩ := ok.watches armed
    have other : id ≠ j := fun e => h (e ▸ active)
    refine ⟨j, dir, bound, ?_⟩
    rw [record_setRecord, if_neg other]
    exact ⟨active, sourced⟩

theorem writeRecord_detectors {r : Record} {attention : Bool} (h : (s.record id).state ≠ .active) :
    DetectorsKept s (s.writeRecord id r attention) := (setRecord_detectors h).trans (.of_blocks rfl rfl)

/-- The detectors of records that return to FREE are unbound with them. -/
theorem freeRecords_detectors (s : State) (gone : RecId → Bool) : DetectorsKept s (s.freeRecords gone) :=
  .of_sound fun law n => by
    have ok := law n
    rw [det_freeRecords]
    split
    · exact freed_sound _ _
    · next kept =>
      refine ⟨ok.bound, fun armed => ?_⟩
      obtain ⟨id, dir, bound, active, sourced⟩ := ok.watches armed
      refine ⟨id, dir, bound, ?_⟩
      rw [record_freeRecords, if_neg (by simpa [bound] using kept)]
      exact ⟨active, sourced⟩

/-! ### Frame events and sweeps (R139, R140) -/

/-- A frame event arms a detector only with no blocking condition. -/
theorem State.DetSound.frame (ok : s.DetSound d) {blocked : Bool} (b : Byte) (h : blocked = false →
    ∀ id dir, d.binding = some (id, dir) → (t.record id).state = .active ∧ (t.record id).failed.get dir = false) :
    t.DetSound (d.frame blocked b) := by
  have same := frame_binding d blocked b
  by_cases hs : d.state = .unbound
  · have stays : d.frame blocked b = d := if_pos hs
    rw [stays]
    exact .of_unbound (ok.bound.2 hs) hs
  have hb : d.binding ≠ none := mt ok.bound.1 hs
  cases blocked with
  | true => exact .of_blocked (same ▸ hb) (frame_blocking_state hs)
  | false =>
    obtain ⟨⟨id, dir⟩, bound⟩ := Option.ne_none_iff_exists'.1 hb
    exact ⟨iff_of_false (same ▸ hb) (frame_ne hs _), fun _ => ⟨id, dir, same.trans bound, h rfl id dir bound⟩⟩

theorem afterHanded_sound {n : Idx8} (ok : s.DetSound (s.det n)) : s.DetSound (s.afterHanded n) := by
  unfold State.afterHanded
  dsimp only
  split
  · exact ok
  · refine ok.frame _ fun clear id dir bound => ?_
    simp only [State.detBlocked, bound, Bool.or_eq_false_iff] at clear
    exact ⟨(circuitBlocks_eq_false.1 clear.1).1, clear.2⟩

theorem takeHanded_detectors (s : State) (n : Idx8) : DetectorsKept s (s.takeHanded n) := .of_dets rfl fun law m => by
  unfold State.takeHanded
  rw [det_updateDets]
  split
  · exact afterHanded_sound (law n)
  · exact law m

theorem flush_detectors (s : State) : DetectorsKept s s.flush := .of_dets rfl fun law m => by
  have taken : s.flush.det m = if (s.det m).handed.isSome then s.afterHanded m else s.det m :=
    det_updateDets s (fun n d => if d.handed.isSome then s.afterHanded n else d) m
  rw [taken]
  split
  · exact afterHanded_sound (law m)
  · exact law m

/-- A sweep arms no detector. -/
theorem State.DetSound.swept (ok : s.DetSound d) (w : State) : s.DetSound (w.sweptDet d) := by
  cases hb : d.binding with
  | none =>
    rw [sweptDet_of_unbound hb]
    exact ok
  | some x =>
    cases hc : w.circuitBlocks x.1 with
    | false =>
      rw [sweptDet_open hb hc]
      exact ok
    | true => exact .of_blocked (by simp [sweptDet_binding, hb]) (sweptDet_blocked hb hc)

/-- The frame event of a station frame, whose work writes the source states but not the states of the records. -/
theorem detFrame_sound (ok : u.DetSound d) (state : ∀ id, (w.record id).state = (u.record id).state) (res : Pair ReadResult)
    (defer : BitVec 8) (far : RecId → FarStatus) (n : Idx8) : w.DetSound (w.detFrame res defer far n d) := by
  cases hb : d.binding with
  | none =>
    have stays : w.detFrame res defer far n d = d := by rw [State.detFrame, hb]
    rw [stays]
    exact .of_unbound hb (ok.bound.1 hb)
  | some x =>
    have active (armed : d.armed) : (w.record x.1).state = .active := (state x.1).trans (ok.active_of_armed hb armed)
    cases hm : (w.record x.1).inMap with
    | false =>
      rw [detFrame_unmapped hb hm]
      exact ⟨ok.bound, fun armed => Bool.noConfusion (hm.symm.trans (inMap_of_active (active armed)))⟩
    | true =>
      rw [detFrame_mapped hb hm]
      split
      · next left =>
        obtain ⟨-, sourced⟩ := Bool.and_eq_true_iff.1 left
        exact ⟨ok.bound, fun armed => ⟨x.1, x.2, hb, active armed, by simpa using sourced⟩⟩
      · refine ok.frame _ fun clear id dir bound => ?_
        rw [hb] at bound
        cases bound
        simp only [Bool.or_eq_false_iff, decide_eq_false_iff_not, not_not] at clear
        exact ⟨clear.1.1, clear.2⟩

end Sys2Proof.Machine
end

section
/-! SUPPORT. The operations of the state, one after another, keep the detectors' law (R38, R43, R105, R123, R140, log 6). -/

namespace Sys2Proof.Machine

variable {s t u v w : State} {k : Trunk} {r : Record} {inp : FrameIn}

/-! ### The station timing unit and the tributary ports -/

theorem StuOnly.watched (h : StuOnly s t) : WatchSame s t := .of_blocks (by rw [h.eq]) (by rw [h.eq])

theorem stuStart_watched (s : State) : WatchSame s s.stuStart :=
  .of_blocks (by rw [stuStart_rest s]) (by rw [stuStart_rest s])

theorem refSilent_watched (s : State) : WatchSame s s.refSilent := by
  have eq : s.refSilent = _ := (judgeRef_work s false).eq
  exact .of_blocks (by rw [eq]) (by rw [eq])

theorem changeTrib_watched (s : State) (n : Idx8) (p : Trib) : WatchSame s (s.changeTrib n p) := by
  have eq := changeTrib_eq s n p
  exact .of_blocks (by rw [eq]) (by rw [eq])

theorem slipNotice_watched (s : State) (p : Port) : WatchSame s (s.slipNotice p) where
  dets := slipNotice_restarted s p
  record id := by
    rw [(slipNotice_only s p).record id]
    exact ⟨rfl, rfl⟩

theorem frameReceived_detectors (s : State) (n : Idx8) (bits : List Bool) : DetectorsKept s (s.frameReceived n bits) := by
  unfold State.frameReceived
  extract_lets p frame s1
  have port : WatchSame s s1 := changeTrib_watched s n _
  exact .ite (.of_same (port.trans (slipNotice_watched s1 _))) (.of_same port)

/-! ### Trunk events (R99, R105, R106, R111) -/

/-- Work on the deskew stores touches of a record the slips and the tag checks alone. -/
theorem PathWork.watched (h : PathWork s t) (dets : DetsRestarted s t) : WatchSame s t where
  dets := dets
  record id := by
    rw [h.record id]
    exact ⟨rfl, rfl⟩

/-- What follows it touches the copy statuses and the health. -/
theorem trunkSettle_watched (old s : State) : WatchSame s (s.trunkSettle old) := by
  have settled := trunkSettle_settled old s
  refine ⟨.of_dets (by rw [settled.eq]), fun id => ?_⟩
  rw [settled.record id]
  exact ⟨rfl, rfl⟩

theorem syncCopies_watched (s : State) : WatchSame s s.syncCopies where
  dets := .of_dets rfl
  record id := by
    rw [record_syncCopies]
    exact ⟨rfl, rfl⟩

theorem changePort_watched (s : State) (k : Trunk) (q : TrunkPort) : WatchSame s (s.changePort k q) where
  dets := changePort_restarted s k q
  record id := by
    rw [(changePort_changed s k q).record id]
    exact ⟨rfl, rfl⟩

theorem rewired_restarted (s : State) (p : TrunkPorts) : DetsRestarted { s with trunks := p } (s.rewired p) := by
  have leave (v : State) (b : Bool) (k : Trunk) : DetsRestarted v (v.leaveIf b k) := .ite (.of_dets rfl) (.of_dets rfl)
  have left : DetsRestarted { s with trunks := p } (s.left p) := (leave _ _ _).trans (leave _ _ _)
  exact .ite (left.trans (reanchor_restarted _)) left

theorem configureTrunks_watched (s : State) (ea eb : Bool) (skew : Nat) (code : Byte) :
    WatchSame s (s.configureTrunks ea eb skew code) := by
  rw [configureTrunks_eq]
  generalize (⟨⟨(s.port .a).configure ea, (s.port .b).configure eb⟩, skew, code⟩ : TrunkPorts) = p
  have written : WatchSame s { s with trunks := p } := .of_blocks rfl rfl
  exact (written.trans (rewired_path.watched (rewired_restarted s p))).trans (trunkSettle_watched s _)

theorem deskewEnter_watched (s : State) (k : Trunk) : WatchSame s (s.deskewEnter k) := by
  refine (deskewEnter_path s k).watched ?_
  unfold State.deskewEnter
  exact .ite (.of_dets rfl) (anchor_restarted s k)

/-- A trunk enters ALIGNED. -/
theorem entered_watched (s : State) (k : Trunk) (p : TrunkPort) :
    WatchSame s (((s.setPort k p).deskewEnter k).trunkSettle s) := by
  have written : WatchSame s (s.setPort k p) := .of_blocks rfl rfl
  exact (written.trans (deskewEnter_watched _ k)).trans (trunkSettle_watched s _)

theorem recentred_watched (s : State) (k : Trunk) : WatchSame s ((s.recentred k).trunkSettle s) := by
  have jumped : DetsRestarted s (s.recentred k) :=
    DetsRestarted.trans (.of_dets rfl) (slipNotice_restarted ((s.setDeskew k .anchored).setPort k _) .trunk)
  exact ((recentred_work s k).watched jumped).trans (trunkSettle_watched s _)

theorem loseWindow_watched (s : State) (k : Trunk) : WatchSame s (s.loseWindow k).syncCopies :=
  ((loseWindow_path s k).watched (loseWindow_restarted s k)).trans (syncCopies_watched _)

theorem regainWindow_watched (s : State) (k : Trunk) : WatchSame s (s.regainWindow k).syncCopies := by
  have regained : WatchSame s (s.regainWindow k) := .of_blocks rfl rfl
  exact regained.trans (syncCopies_watched _)

theorem arrive_watched (s : State) (k : Trunk) (f : DFrame) (b : Bool) : WatchSame s (s.arrive k f b) := by
  unfold State.arrive
  dsimp only
  split
  · exact .of_blocks rfl rfl
  · exact .of_blocks rfl rfl

theorem handOn_watched (s : State) (k : Trunk) (seq : Nat) (header payload : List Byte) (b : Bool) :
    WatchSame s (s.handOn k seq header payload b) := by
  have taken : WatchSame s (s.setPort k { s.port k with inRx := none }) := .of_blocks rfl rfl
  exact taken.trans (arrive_watched _ k _ b)

/-! ### The map flip (R38, R39, R140) -/

theorem restartPath_failed (s : State) (old new : Record) : (s.restartPath old new).failed = new.failed := by
  unfold State.restartPath
  split
  · rfl
  split
  · dsimp only
    split
    · rfl
    · rfl
  · rfl

theorem flipRecord_failed (s : State) (h : r.freedByFlip = false) : (s.flipRecord r).failed = r.failed := by
  unfold State.flipRecord
  split
  · rw [restartPath_failed, applyStaged_failed h]
  · rfl

/-- The sweep that ends the flip leaves no detector armed but of an ACTIVE record, with the source state that it had. -/
theorem flip_detectors (s : State) : DetectorsKept s s.flip := .of_sound fun law n => by
  have ok := law n
  cases hb : (s.det n).binding with
  | none =>
    rw [det_flip_of_unbound hb]
    exact .of_unbound hb (ok.bound.1 hb)
  | some x =>
    cases hf : (s.record x.1).freedByFlip with
    | true =>
      rw [det_flip_of_freed hb hf]
      exact freed_sound _ _
    | false =>
      rw [det_flip, det_installed_of_kept hb hf]
      cases hc : s.installed.circuitBlocks x.1 with
      | true => exact .of_blocked (by simp [sweptDet_binding, hb]) (sweptDet_blocked hb hc)
      | false =>
        rw [sweptDet_open hb hc]
        refine ⟨ok.bound, fun armed => ⟨x.1, x.2, hb, (circuitBlocks_eq_false.1 hc).1, ?_⟩⟩
        obtain ⟨id, dir, bound, -, sourced⟩ := ok.watches armed
        rw [hb] at bound
        cases bound
        rw [record_flip, flipRecord_failed s hf]
        exact sourced

/-! ### The station multiframe start (R42 to R44, R68) -/

theorem countdown_detectors (s : State) : DetectorsKept s s.countdown := by
  refine (DetectorsKept.of_same (mapRecords_same fun id r => ?_)).trans (freeRecords_detectors _ _)
  split
  · exact ⟨rfl, rfl⟩
  · exact ⟨rfl, rfl⟩

theorem expire_detectors (s : State) (id : RecId) : DetectorsKept s (s.expire id) :=
  (freeRecords_detectors s _).trans (.of_blocks rfl rfl)

theorem multiframeStart_detectors (s : State) : DetectorsKept s s.multiframeStart :=
  ((DetectorsKept.of_same (stuStart_watched s)).trans (countdown_detectors _)).trans (.of_blocks rfl rfl)

/-! ### The station frame (log 6) -/

theorem newFrame_detectors (s : State) : DetectorsKept s s.newFrame := by
  unfold State.newFrame
  split
  · extract_lets s1 s2
    have start : DetectorsKept s s1 := DetectorsKept.refl.ite (multiframeStart_detectors s)
    have flipped : DetectorsKept s s2 := start.trans (flip_detectors s1).due
    exact flipped.trans (.of_blocks rfl rfl)
  · exact .of_blocks rfl rfl

theorem settledFor_watched (s : State) (inp : FrameIn) : WatchSame s.flush (s.settledFor inp) := by
  unfold State.settledFor
  split
  · exact .foldl (fun s m => slipNotice_watched s (.trib m)) _ _
  · exact .refl

theorem opening_detectors (s : State) (inp : FrameIn) : DetectorsKept s (s.opening inp) := by
  rw [opening_eq]
  exact ((flush_detectors s).trans (.of_same (settledFor_watched s inp))).trans (newFrame_detectors _)

theorem filled_record_state (u : State) (inp : FrameIn) (id : RecId) :
    ((u.filled inp).record id).state = (u.record id).state := (congrArg MapItems.state (filled_mapItems u inp id) :)

/-- Frame events ahead of the notices: the restarts and the sweep arm no detector. -/
theorem traffic_sound_first (law : ∀ n, u.DetSound (u.det n)) (h : inp.unitsFirst = true) (n : Idx8) :
    (u.filled inp).DetSound ((u.traffic inp).det n) := by
  have framed : ({ u.filled inp with dets := u.dets }.detFrames u.reads inp.deferDet fun id => (u.record id).far).det n =
      (u.filled inp).detFrame u.reads inp.deferDet (fun id => (u.record id).far) n (u.det n) := det_updateDets ..
  have sound := detFrame_sound (law n) (filled_record_state u inp) u.reads inp.deferDet
    (fun id => (u.record id).far) n
  rw [← framed] at sound
  obtain ⟨binding, state⟩ := DetsRestarted.foldl restartDets_restarted (u.notices (u.filled inp) (u.repeatsNow inp))
    ({ u.filled inp with dets := u.dets }.detFrames u.reads inp.deferDet fun id => (u.record id).far) n
  rw [traffic_det, unitWork_first h, det_sweep]
  exact (sound.congr binding state).swept _

/-- Frame events last, of detectors restarted and swept. -/
theorem traffic_sound_last (law : ∀ n, u.DetSound (u.det n)) (h : inp.unitsFirst = false) (n : Idx8) :
    (u.filled inp).DetSound ((u.traffic inp).det n) := by
  have noticed : DetsRestarted u ((u.repeatsNow inp).foldl (fun s m => s.restartDets (.trib m)) (u.filled inp)) :=
    (filled_restarted u inp).trans (.foldl (fun s m => restartDets_restarted s (.trib m)) _ _)
  have swept : u.DetSound (((u.filled inp).restarted (u.repeatsNow inp)).det n) := by
    rw [State.restarted, det_sweep]
    exact ((law n).congr (noticed n).1 (noticed n).2).swept _
  rw [traffic_det, unitWork_last h, State.detFrames, det_updateDets, (restarted_only _ _).detFrame]
  exact detFrame_sound swept (filled_record_state u inp) _ _ _ n

theorem traffic_detectors (u : State) (inp : FrameIn) : DetectorsKept u (u.traffic inp) := .of_sound fun law n => by
  have sound : (u.filled inp).DetSound ((u.traffic inp).det n) := by
    cases h : inp.unitsFirst with
    | true => exact traffic_sound_first law h n
    | false => exact traffic_sound_last law h n
  exact sound.of_records (record_watched (by rw [(traffic_sent u inp).ct]))

theorem judge_watched (s : State) (inp : FrameIn) : WatchSame s (s.judge inp) where
  dets := judge_restarted s inp
  record id := by
    rw [(judge_judged s inp).record id]
    exact ⟨rfl, rfl⟩

end Sys2Proof.Machine
end

section
/-! The commands keep the detectors' law: one lemma for each command's own work, one arm for each command (R135, R140). -/

namespace Sys2Proof.Machine

variable {s : State} {d : Detector}

/-! ### Transactions -/

/-- A command's own work keeps the detectors' law in every state. -/
def BodyDetectors (f : State → Code × State) : Prop := ∀ s, DetectorsKept s (f s).2

theorem transact_detectors {ps : List Byte} {exempt responds : Bool} {own : Option (State → Code × State)}
    (h : ∀ f, own = some f → BodyDetectors f) : DetectorsKept s (transact ps exempt responds own s) := by
  obtain e | ⟨c, e⟩ | ⟨f, hf, e⟩ := transact_cases ps exempt responds own s
  · rw [e]
    exact .of_blocks rfl rfl
  · rw [e]
    exact .of_blocks rfl rfl
  · rw [e]
    exact (h f hf s).trans (.of_blocks rfl rfl)

theorem ranged_detectors {α : Type} (a : Option α) {f : α → State → Code × State} (h : ∀ v, BodyDetectors (f v)) :
    BodyDetectors (ranged a f) := by
  intro s
  unfold ranged
  split
  · exact .refl
  · exact h _ s

theorem answering_detectors (r : State → List Byte) : BodyDetectors (answering r) := fun _ => .of_blocks rfl rfl

/-! ### The command port, the counters and the lines -/

theorem nextAttentionBody_detectors : BodyDetectors nextAttentionBody := by
  intro s
  unfold nextAttentionBody
  split
  · exact .refl
  · exact .of_blocks rfl rfl

theorem setMaskBody_detectors (a b c : Byte) : BodyDetectors (setMaskBody a b c) := by
  intro s
  unfold setMaskBody
  split
  · exact .of_blocks rfl rfl
  · exact .refl

/-- One detector written, with the binding and the state that it had. -/
theorem setDet_detectors (s : State) (n : Idx8) (hb : d.binding = (s.det n).binding) (hs : d.state = (s.det n).state) :
    DetectorsKept s { s with dets := setAt s.dets n d } := .of_dets rfl fun law m => by
  have read : { s with dets := setAt s.dets n d }.det m = if n = m then d else s.det m := setAt_get ..
  rw [read]
  split
  · exact (law n).congr hb hs
  · exact law m

theorem clearAll_watched (s : State) : WatchSame s s.clearAll where
  dets n := by
    have cleared : s.clearAll.det n = (s.det n).clearCounters := mapVec_get ..
    rw [cleared]
    exact ⟨rfl, rfl⟩
  record := (mapRecords_same (f := fun _ r => r.clearCounters) fun _ _ => ⟨rfl, rfl⟩).record

/-- The six kinds of CLEAR COUNTERS (R174). -/
theorem clearCountersBody_detectors (kind index : Byte) : BodyDetectors (clearCountersBody kind index) := by
  intro s
  unfold clearCountersBody
  split
  · exact ranged_detectors _ (fun _ _ => .of_blocks rfl rfl) s
  · exact ranged_detectors _ (fun _ _ => .of_blocks rfl rfl) s
  · exact .of_same (setRecord_same rfl rfl)
  · exact ranged_detectors _ (fun n s => setDet_detectors s n (d := (s.det n).clearCounters) rfl rfl) s
  · exact ranged_detectors _ (fun _ _ => .of_blocks rfl rfl) s
  · split
    · exact .of_same (clearAll_watched s)
    · exact .refl
  · exact .refl

theorem lineConfigBody_detectors (a b c d : Byte) : BodyDetectors (lineConfigBody a b c d) := by
  intro s
  unfold lineConfigBody
  split
  · split
    · exact .refl
    · exact .ite (.of_blocks rfl rfl) (.of_blocks rfl rfl)
  · exact .refl

/-! ### The circuit table -/

theorem openBody_detectors (a b : Byte) : BodyDetectors (openBody a b) := by
  intro s
  unfold openBody
  dsimp only
  split
  · exact .refl
  · next free =>
    unfold ranged
    split
    · exact .refl
    · exact writeRecord_detectors (by simp [not_not.1 free])

theorem discardBody_detectors (a : Byte) : BodyDetectors (discardBody a) := by
  intro s
  unfold discardBody
  dsimp only
  split
  · exact .refl
  · exact freeRecords_detectors s _

theorem setEndBody_detectors (a b c : Byte) (l : List Byte) : BodyDetectors (setEndBody a b c l) := by
  intro s
  unfold setEndBody
  dsimp only
  split
  · exact .refl
  split
  · split
    · exact .refl
    split
    · next draft => exact writeRecord_detectors (by simp [draft])
    split
    · exact .refl
    · exact .of_same (setRecord_same rfl rfl)
  · exact .refl

theorem withFields_watched (r : Record) (f : Fields) :
    (r.withFields f).state = r.state ∧ (r.withFields f).failed = r.failed := by
  unfold Record.withFields
  split
  · exact ⟨rfl, rfl⟩
  · exact ⟨rfl, rfl⟩

theorem setFieldBody_detectors (a b c d : Byte) : BodyDetectors (setFieldBody a b c d) := by
  intro s
  unfold setFieldBody
  dsimp only
  split
  · exact .refl
  split
  · exact .refl
  split
  · split
    · exact .refl
    split
    · exact .refl
    split
    · exact .refl
    · exact .of_same (setRecord_same rfl rfl)
  · split
    · exact .refl
    · next f _ =>
      obtain ⟨state, failed⟩ := withFields_watched (s.record (readId a)) f
      exact .of_same (setRecord_same state failed)

theorem activateBody_detectors (a : Byte) : BodyDetectors (activateBody a) := by
  intro s
  unfold activateBody
  dsimp only
  split
  · exact .refl
  split
  · exact .refl
  split
  · exact .refl
  split
  · exact .refl
  · exact .of_same (setRecord_same rfl rfl)

theorem stageBody_detectors (op : StagedOp) (allowed : RecState → Bool) (a : Byte) :
    BodyDetectors (stageBody op allowed a) := by
  intro s
  unfold stageBody
  dsimp only
  split
  · exact .refl
  split
  · exact .refl
  · exact .of_same (setRecord_same rfl rfl)

theorem revokeBody_detectors (a : Byte) : BodyDetectors (revokeBody a) := by
  intro s
  unfold revokeBody
  dsimp only
  split
  · exact .refl
  split
  · exact .refl
  · exact .of_same (setRecord_same rfl rfl)

theorem nextRecordBody_detectors : BodyDetectors nextRecordBody := by
  intro s
  unfold nextRecordBody
  dsimp only
  split
  · exact .of_blocks rfl rfl
  split
  · exact .of_blocks rfl rfl
  · exact .of_blocks rfl rfl
  · exact .of_blocks rfl rfl

theorem commitBody_detectors : BodyDetectors commitBody := by
  intro s
  unfold commitBody
  split
  · exact .refl
  split
  · exact .of_blocks rfl rfl
  · exact .of_blocks rfl rfl

theorem abortBody_detectors : BodyDetectors abortBody := by
  intro s
  unfold abortBody
  split
  · exact .of_blocks rfl rfl
  · exact .refl

theorem mapQueryBody_detectors (a b : Byte) : BodyDetectors (mapQueryBody a b) := by
  intro s
  unfold mapQueryBody
  split
  · exact .refl
  split
  · exact answering_detectors _ s
  · exact .refl

/-! ### Ports and station timing -/

theorem tribConfigBody_detectors (t : Byte) (c : Option TribConfig) : BodyDetectors (tribConfigBody t c) := by
  intro s
  unfold tribConfigBody
  split
  · split
    · exact .refl
    split
    · exact .refl
    · exact .of_same (changeTrib_watched s _ _)
  · exact .refl

theorem tribConfigShape_detectors (ps : List Byte) : ∀ f, tribConfigShape ps = some f → BodyDetectors f := by
  unfold tribConfigShape
  split
  · rintro _ ⟨⟩
    exact tribConfigBody_detectors _ _
  · nofun

theorem timingConfigure_detectors (a b : Byte) (l : List Byte) : BodyDetectors (timingConfigure a b l) := by
  intro s
  unfold timingConfigure
  split
  · next revertive list _ _ =>
    split
    · exact .refl
    · have timed : DetectorsKept s (s.timed list revertive b.toNat) := .of_blocks rfl rfl
      exact timed.trans (.of_same (stuReact_only _).watched)
  · exact .refl

theorem trunkConfigBody_detectors (a b c d : Byte) : BodyDetectors (trunkConfigBody a b c d) := by
  intro s
  unfold trunkConfigBody
  split
  · split
    · exact .refl
    · exact .of_same (configureTrunks_watched s _ _ _ _)
  · exact .refl

theorem recentreBody_detectors (b : Byte) : BodyDetectors (recentreBody b) := ranged_detectors _ fun k s => by
  split
  · exact .refl
  · exact .of_same (recentred_watched s k)

/-! ### Units (R136 to R138, R149) -/

/-- A detector bound to a record is BLOCKED at first. -/
theorem detBindBody_detectors (a b c : Byte) : BodyDetectors (detBindBody a b c) := by
  intro s
  unfold detBindBody
  split
  · dsimp only
    split
    · exact .refl
    · refine .of_dets rfl fun law n => ?_
      rw [det_updateDets]
      split
      · exact .of_blocked nofun rfl
      · exact law n
  · exact .refl

theorem detUnbindBody_detectors (b : Byte) : BodyDetectors (detUnbindBody b) := ranged_detectors _ fun d s => by
  split
  · exact .refl
  · exact .refl
  · exact .refl
  · refine .of_dets rfl fun law n => ?_
    rw [det_updateDets]
    split
    · exact freed_sound _ _
    · exact law n

theorem detConfigBody_detectors (b : Byte) (c : Option DetConfig) : BodyDetectors (detConfigBody b c) := by
  intro s
  unfold detConfigBody
  split
  · split
    · exact .refl
    · exact .refl
    · exact .refl
    · exact setDet_detectors s _ rfl rfl
  · exact .refl

theorem detConfigShape_detectors (ps : List Byte) : ∀ f, detConfigShape ps = some f → BodyDetectors f := by
  unfold detConfigShape
  split
  · rintro _ ⟨⟩
    exact detConfigBody_detectors _ _
  · nofun

theorem keyBindBody_detectors (a b c : Byte) : BodyDetectors (keyBindBody a b c) := by
  intro s
  unfold keyBindBody
  split
  · dsimp only
    split
    · exact .refl
    · exact .of_blocks rfl rfl
  · exact .refl

theorem keyUnbindBody_detectors (b : Byte) : BodyDetectors (keyUnbindBody b) := ranged_detectors _ fun d s => by
  split
  · exact .refl
  · exact .refl
  · exact .refl
  · exact .of_blocks rfl rfl

theorem keyConfigBody_detectors (b : Byte) (c : Option KeyConfig) : BodyDetectors (keyConfigBody b c) := by
  intro s
  unfold keyConfigBody
  split
  · split
    · exact .refl
    · exact .refl
    · exact .of_blocks rfl rfl
  · exact .refl

theorem keyConfigShape_detectors (ps : List Byte) : ∀ f, keyConfigShape ps = some f → BodyDetectors f := by
  unfold keyConfigShape
  split
  · rintro _ ⟨⟩
    exact keyConfigBody_detectors _ _
  · nofun

theorem keyTestBody_detectors (a b c : Byte) : BodyDetectors (keyTestBody a b c) := ranged_detectors _ fun k s => by
  dsimp only
  split
  · exact .refl
  split
  · exact .refl
  split
  · exact .refl
  · exact .of_blocks rfl rfl

/-! ### Resets (R135, R168, R169) -/

/-- Every record is FREE and every detector UNBOUND after a reset. -/
theorem detectorLaw_of_reset (hr : s.ct.records = State.reset.ct.records) (hd : s.dets = State.reset.dets) : DetectorLaw s :=
  (DetectorsKept.of_blocks hr hd).law detectorLaw_reset

theorem softResetBody_detectors : BodyDetectors softResetBody := fun s => ⟨fun _ => by
  have cleared : DetectorLaw s.softCleared := detectorLaw_of_reset rfl rfl
  exact (DetectorsKept.of_same (stuReact_only s.softCleared).watched).law cleared⟩

/-! ### Every command -/

theorem exec_detectors (c : Instr) : ∃ t, exec c s = .next t ∧ DetectorsKept s t := by
  have changed (n : Idx8) (p : Trib) : DetectorsKept s (s.changeTrib n p) := .of_same (changeTrib_watched s n p)
  have ported (k : Trunk) (p : TrunkPort) : DetectorsKept s (s.changePort k p) := .of_same (changePort_watched s k p)
  have started : DetectorsKept s s.stuStart := .of_same (stuStart_watched s)
  have handedOn (k : Trunk) (seq : Nat) (header payload : List Byte) (b : Bool) :
      DetectorsKept s (s.handOn k seq header payload b) := .of_same (handOn_watched s k seq header payload b)
  have keyed (n : Idx8) : DetectorsKept s (s.takeKeyer n) := .of_blocks rfl rfl
  cases c with
  | transactionStart =>
    refine ⟨_, rfl, ?_⟩
    split
    · exact .ite (.of_blocks rfl rfl) (.of_blocks rfl rfl)
    · exact .refl
  | emptyTransaction => exact ⟨_, rfl, .of_blocks rfl rfl⟩
  | unknownCommand code ps => exact ⟨_, rfl, .ite .refl (.ite (.of_blocks rfl rfl) (.of_blocks rfl rfl))⟩
  | nop ps => exact ⟨_, rfl, transact_detectors (noParam_all fun _ => .refl)⟩
  | fetch ps => exact ⟨_, rfl, .ite (.of_blocks rfl rfl) (.of_blocks rfl rfl)⟩
  | softReset ps =>
    refine ⟨_, rfl, transact_detectors fun f hf => ?_⟩
    split at hf
    · cases hf
      exact softResetBody_detectors
    · cases hf
  | readFlags ps => exact ⟨_, rfl, transact_detectors (noParam_all fun _ => .of_blocks rfl rfl)⟩
  | nextAttention ps => exact ⟨_, rfl, transact_detectors (noParam_all nextAttentionBody_detectors)⟩
  | setMask ps => exact ⟨_, rfl, transact_detectors (threeParams_all setMaskBody_detectors)⟩
  | clearCounters ps => exact ⟨_, rfl, transact_detectors (twoParams_all clearCountersBody_detectors)⟩
  | openRecord ps => exact ⟨_, rfl, transact_detectors (twoParams_all openBody_detectors)⟩
  | discard ps => exact ⟨_, rfl, transact_detectors (oneParam_all discardBody_detectors)⟩
  | setEnd ps =>
    refine ⟨_, rfl, transact_detectors fun f hf => ?_⟩
    obtain ⟨x, -, rfl⟩ := Option.map_eq_some_iff.1 hf
    exact setEndBody_detectors _ _ _ _
  | setField ps => exact ⟨_, rfl, transact_detectors (fourParams_all setFieldBody_detectors)⟩
  | activate ps => exact ⟨_, rfl, transact_detectors (oneParam_all activateBody_detectors)⟩
  | suspend ps => exact ⟨_, rfl, transact_detectors (oneParam_all (stageBody_detectors _ _))⟩
  | resume ps => exact ⟨_, rfl, transact_detectors (oneParam_all (stageBody_detectors _ _))⟩
  | retire ps => exact ⟨_, rfl, transact_detectors (oneParam_all (stageBody_detectors _ _))⟩
  | revoke ps => exact ⟨_, rfl, transact_detectors (oneParam_all revokeBody_detectors)⟩
  | query ps => exact ⟨_, rfl, transact_detectors (oneParam_all fun _ => answering_detectors _)⟩
  | queryStaged ps => exact ⟨_, rfl, transact_detectors (oneParam_all fun _ => answering_detectors _)⟩
  | cursor ps => exact ⟨_, rfl, transact_detectors (oneParam_all fun _ _ => .of_blocks rfl rfl)⟩
  | nextRecord ps => exact ⟨_, rfl, transact_detectors (noParam_all nextRecordBody_detectors)⟩
  | commit ps => exact ⟨_, rfl, transact_detectors (noParam_all commitBody_detectors)⟩
  | abortCommit ps => exact ⟨_, rfl, transact_detectors (noParam_all abortBody_detectors)⟩
  | mapQuery ps => exact ⟨_, rfl, transact_detectors (twoParams_all mapQueryBody_detectors)⟩
  | tribConfig ps => exact ⟨_, rfl, transact_detectors (tribConfigShape_detectors ps)⟩
  | tribStatus ps =>
    exact ⟨_, rfl, transact_detectors (oneParam_all fun _ => ranged_detectors _ fun _ => answering_detectors _)⟩
  | timingConfig ps =>
    refine ⟨_, rfl, transact_detectors fun f hf => ?_⟩
    obtain ⟨x, -, rfl⟩ := Option.map_eq_some_iff.1 hf
    exact timingConfigure_detectors _ _ _
  | timingStatus ps => exact ⟨_, rfl, transact_detectors (noParam_all (answering_detectors _))⟩
  | trunkConfig ps => exact ⟨_, rfl, transact_detectors (fourParams_all trunkConfigBody_detectors)⟩
  | trunkStatus ps =>
    exact ⟨_, rfl, transact_detectors (oneParam_all fun _ => ranged_detectors _ fun _ => answering_detectors _)⟩
  | recentre ps => exact ⟨_, rfl, transact_detectors (oneParam_all recentreBody_detectors)⟩
  | detBind ps => exact ⟨_, rfl, transact_detectors (threeParams_all detBindBody_detectors)⟩
  | detUnbind ps => exact ⟨_, rfl, transact_detectors (oneParam_all detUnbindBody_detectors)⟩
  | detConfig ps => exact ⟨_, rfl, transact_detectors (detConfigShape_detectors ps)⟩
  | detStatus ps =>
    exact ⟨_, rfl, transact_detectors (oneParam_all fun _ => ranged_detectors _ fun _ => answering_detectors _)⟩
  | keyBind ps => exact ⟨_, rfl, transact_detectors (threeParams_all keyBindBody_detectors)⟩
  | keyUnbind ps => exact ⟨_, rfl, transact_detectors (oneParam_all keyUnbindBody_detectors)⟩
  | keyConfig ps => exact ⟨_, rfl, transact_detectors (keyConfigShape_detectors ps)⟩
  | keyTest ps => exact ⟨_, rfl, transact_detectors (threeParams_all keyTestBody_detectors)⟩
  | keyStatus ps =>
    exact ⟨_, rfl, transact_detectors (oneParam_all fun _ => ranged_detectors _ fun _ => answering_detectors _)⟩
  | lineConfig ps => exact ⟨_, rfl, transact_detectors (fourParams_all lineConfigBody_detectors)⟩
  | lineWrite ps => exact ⟨_, rfl, transact_detectors (oneParam_all fun _ _ => .of_blocks rfl rfl)⟩
  | lineRead ps => exact ⟨_, rfl, transact_detectors (noParam_all (answering_detectors _))⟩
  | alarmMask ps =>
    exact ⟨_, rfl, transact_detectors (oneParam_all fun _ => ranged_detectors _ fun _ _ => .of_blocks rfl rfl)⟩
  | hardwareReset => exact ⟨_, rfl, ⟨fun _ => detectorLaw_of_reset rfl rfl⟩⟩
  | resetRelease => exact ⟨_, rfl, .of_blocks rfl rfl⟩
  | stationFrame inp =>
    have judged : DetectorsKept ((s.opening inp).traffic inp) (((s.opening inp).traffic inp).judge inp) :=
      .of_same (judge_watched _ inp)
    exact ⟨_, rfl, .ite .refl ((opening_detectors s inp).trans ((traffic_detectors _ inp).trans judged))⟩
  | stationMultiframeStart => exact ⟨_, rfl, .due (multiframeStart_detectors s)⟩
  | mapFlip => exact ⟨_, rfl, .due (flip_detectors s)⟩
  | retireHoldExpiry id => exact ⟨_, rfl, .due (expire_detectors s id)⟩
  | tribClockLoss t => exact ⟨_, rfl, .due (changed t _)⟩
  | tribCandidateFound t bits =>
    refine ⟨_, rfl, ?_⟩
    split
    · exact .due (changed t _)
    · exact .refl
  | tribAlignmentConfirmed t bits => exact ⟨_, rfl, .due (changed t _)⟩
  | tribConfirmationFailed t bits => exact ⟨_, rfl, .due (changed t _)⟩
  | tribFrameReceived t bits => exact ⟨_, rfl, .due (frameReceived_detectors s t bits)⟩
  | tribAlignmentLoss t bits => exact ⟨_, rfl, .due (changed t _)⟩
  | aisWindowEnd t bits => exact ⟨_, rfl, .due (changed t _)⟩
  | tribRemoteAlarmChange t bits => exact ⟨_, rfl, .due (frameReceived_detectors s t bits)⟩
  | mfAlignmentLoss t bits => exact ⟨_, rfl, .due (frameReceived_detectors s t bits)⟩
  | tribTransmitFrame t => exact ⟨_, rfl, .due (.of_blocks rfl rfl)⟩
  | refActivityLoss => exact ⟨_, rfl, .due (.of_same (refSilent_watched s))⟩
  | acquisitionComplete => exact ⟨_, rfl, .due started⟩
  | holdoverExpiry => exact ⟨_, rfl, .due started⟩
  | wtrExpiry => exact ⟨_, rfl, .due started⟩
  | trunkClockLoss k => exact ⟨_, rfl, .due (ported k _)⟩
  | trunkCandidateFound k bits =>
    refine ⟨_, rfl, ?_⟩
    split
    · exact .due (ported k _)
    · exact .refl
  | trunkAlignmentConfirmed k bits overhead => exact ⟨_, rfl, .due (.of_same (entered_watched s k _))⟩
  | trunkConfirmationFailed k bits => exact ⟨_, rfl, .due (ported k _)⟩
  | trunkFrameJudged k header => exact ⟨_, rfl, .due (ported k _)⟩
  | trunkAlignmentLoss k word seq => exact ⟨_, rfl, .due (ported k _)⟩
  | trunkFrameHandedOn k payload b =>
    refine ⟨_, rfl, ?_⟩
    split
    · exact .due (handedOn k _ _ _ _)
    · exact .refl
  | windowLoss k => exact ⟨_, rfl, .due (.of_same (loseWindow_watched s k))⟩
  | windowReturn k => exact ⟨_, rfl, .due (.of_same (regainWindow_watched s k))⟩
  | anchorFrameArrival k payload b =>
    refine ⟨_, rfl, ?_⟩
    split
    · exact .due (handedOn k _ _ _ _)
    · exact .refl
  | detectorUnblock d => exact ⟨_, rfl, .due (takeHanded_detectors s d)⟩
  | detectorCommandRecognised d => exact ⟨_, rfl, .due (takeHanded_detectors s d)⟩
  | detectorRelease d => exact ⟨_, rfl, .due (takeHanded_detectors s d)⟩
  | trailExpiry d => exact ⟨_, rfl, .due (takeHanded_detectors s d)⟩
  | detectorUnavailable d => exact ⟨_, rfl, .due (takeHanded_detectors s d)⟩
  | lineRequestQualified k => exact ⟨_, rfl, .due (keyed k)⟩
  | keyerCommandEnd k => exact ⟨_, rfl, .due (keyed k)⟩
  | lockoutExpiry k => exact ⟨_, rfl, .due (keyed k)⟩
  | testRemainderExpiry k => exact ⟨_, rfl, .due (keyed k)⟩
  | lineLevelChange n w =>
    have wired : DetectorsKept s (s.wireLevel n w) := .of_blocks rfl rfl
    refine ⟨_, rfl, wired.trans ?_⟩
    rw [raiseIf_eq]
    exact .of_blocks rfl rfl

/-- Settles O57: each command keeps the law, and a step runs one command. -/
theorem stepKeepsDetectorLaw : Obligations.StepKeepsDetectorLaw := by
  intro s t law h
  unfold step at h
  split at h
  · obtain rfl := Host.Outcome.next.inj h
    exact law
  · next c rest _ =>
    obtain ⟨u, hu, kept⟩ := exec_detectors (s := { s with pending := rest }) c
    rw [hu] at h
    obtain rfl := Host.Outcome.next.inj h
    exact kept.law law

end Sys2Proof.Machine
end

section
/-! SUPPORT. What the commands of detectors and keyers share: their parameters, what a binding asks of the record, and what a
taken command leaves (R136, R138, R146, R149, R150). -/

namespace Sys2Proof.Machine

variable {s : State} {n : Idx8} {id : RecId} {r : Record} {ps : List Byte} {f : State → Code × State}

/-! ### Parameters -/

theorem readSide_eq_none {n : Nat} (h : 1 < n) : readSide n = none := by
  unfold readSide
  split
  · omega
  · omega
  · rfl

/-- C2 bears on a clash in DUAL mode only (R138, R150). -/
theorem codesClash_iff {guard c1 c2 : Byte} {dual : Bool} :
    codesClash guard c1 c2 dual = true ↔ guard = c1 ∨ (dual = true ∧ (c2 = c1 ∨ c2 = guard)) := by
  simp [codesClash]

/-! ### What a binding asks of the record (R136, R149) -/

theorem bindRefusal_state {bound : Bool} (h : r.state = .free ∨ r.state = .retiring) : bindRefusal r bound = some .state :=
  if_pos h

section
variable {bound : Bool} (hs : ¬ (r.state = .free ∨ r.state = .retiring))
include hs

theorem bindRefusal_range (hc : r.cls ≠ .protection) : bindRefusal r bound = some .range := (if_neg hs).trans (if_pos hc)

variable (hc : r.cls = .protection)
include hc

theorem bindRefusal_inuse : bindRefusal r true = some .inuse := by
  rw [bindRefusal, if_neg hs, if_neg (not_not.2 hc)]
  rfl

theorem bindRefusal_clear : bindRefusal r false = none := by
  rw [bindRefusal, if_neg hs, if_neg (not_not.2 hc)]
  rfl

end

/-- A record with a unit, or a unit with a record. -/
theorem unit_taken {unit : Option Idx8} {binding : Option (RecId × Side)} (h : unit.isSome = true ∨ binding ≠ none) :
    (unit.isSome || binding.isSome) = true := by
  rwa [Bool.or_eq_true, Option.isSome_iff_ne_none (o := binding)]

/-! ### One detector changed (R146) -/

/-- One detector changed at an event. -/
def State.changeDet (s : State) (n : Idx8) (g : Detector → Detector) : State := s.updateDets fun i u => if i = n then g u else u

theorem changeDet_self (s : State) (n : Idx8) (g : Detector → Detector) : (s.changeDet n g).det n = g (s.det n) :=
  (det_updateDets ..).trans (if_pos rfl)

theorem changeDet_other {m : Idx8} (h : m ≠ n) (g : Detector → Detector) : (s.changeDet n g).det m = s.det m :=
  (det_updateDets ..).trans (if_neg h)

/-- If it changes state, its record is posted by the attention enable. -/
theorem changeDet_posts {g : Detector → Detector} {dir : Side} (hm : (g (s.det n)).state ≠ (s.det n).state)
    (hb : (s.det n).binding.or (g (s.det n)).binding = some (id, dir)) : (s.changeDet n g).au = Posted s id := by
  have moved (j : RecId) : (allUnits.filterMap fun m =>
      if (if m = n then g (s.det m) else s.det m).state = (s.det m).state then none
      else ((s.det m).binding.or (if m = n then g (s.det m) else s.det m).binding).map Prod.fst).contains j = (j == id) := by
    rw [Bool.eq_iff_iff]
    simp only [List.contains_iff_mem, List.mem_filterMap, Option.ite_none_left_eq_some, beq_iff_eq]
    constructor
    · rintro ⟨m, -, hne, hj⟩
      by_cases h : m = n
      · subst h
        rw [if_pos rfl, hb] at hj
        exact (Option.some.inj hj).symm
      · rw [if_neg h] at hne
        exact absurd rfl hne
    · rintro rfl
      exact ⟨n, List.mem_finRange n, by rwa [if_pos rfl], by rw [if_pos rfl, hb]; rfl⟩
  have ids : (allIds.filter fun j => (j == id) && (s.record j).fields.attention) =
      if (s.record id).fields.attention then [id] else [] := by
    rw [filter_allIds_eq (j := id) (by simp +contextual)]
    simp
  unfold State.changeDet State.updateDets
  simp only [moved, ids]
  exact post_if_au s id _

theorem ran_changeDet {g : Detector → Detector} (h : f s = (.ok, s.changeDet n g)) :
    (ran ps f s).cp.last = .ok ∧ (ran ps f s).det n = g (s.det n) ∧ (ran ps f s).au = (s.changeDet n g).au ∧
      (∀ m, m ≠ n → (ran ps f s).det m = s.det m) ∧
      ran ps f s = { s with cp := (ran ps f s).cp, au := (ran ps f s).au, dets := (ran ps f s).dets } := by
  rw [ran_of h]
  exact ⟨rfl, changeDet_self s n g, rfl, fun m hm => changeDet_other hm g, rfl⟩

/-! ### A taken command that writes one unit and posts nothing -/

theorem ran_setDet {d : Detector} (h : f s = (.ok, { s with dets := setAt s.dets n d })) :
    (ran ps f s).cp.last = .ok ∧ (ran ps f s).det n = d ∧ (∀ m, m ≠ n → (ran ps f s).det m = s.det m) ∧
      ran ps f s = { s with cp := (ran ps f s).cp, dets := (ran ps f s).dets } := by
  rw [ran_of h]
  exact ⟨rfl, setAt_get_self _ _ _, fun m hm => setAt_get_ne _ _ hm.symm, rfl⟩

theorem ran_setKeyer {k : Keyer} (h : f s = (.ok, s.setKeyer n k)) :
    (ran ps f s).cp.last = .ok ∧ (ran ps f s).keyer n = k ∧ (∀ m, m ≠ n → (ran ps f s).keyer m = s.keyer m) ∧
      ran ps f s = { s with cp := (ran ps f s).cp, keyers := (ran ps f s).keyers } := by
  rw [ran_of h]
  exact ⟨rfl, keyer_setKeyer_self s n k, fun m hm => (keyer_setKeyer s n m k).trans (if_neg hm.symm), rfl⟩

/-- A command that is refused, with the frame of a refusal. -/
theorem ran_refused_last {c : Code} (h : f s = (c, s)) :
    (ran ps f s).cp.last = c ∧ ran ps f s = { s with cp := (ran ps f s).cp } :=
  (ran_refusal h).imp_left last_of_ended

end Sys2Proof.Machine
end

section
/-! DET BIND, DET UNBIND and DET CONFIG (R136 to R138, R146). -/

namespace Sys2Proof.Machine

variable {s : State} {n : Idx8} {db idb dirb : Byte} {dir : Side}

/-! ### DET BIND (R136) -/

theorem exec_detBind (h : Clear s) (db idb dirb : Byte) :
    exec (.detBind [db, idb, dirb]) s = .next (ran [db, idb, dirb] (detBindBody db idb dirb) s) :=
  congrArg Host.Outcome.next (transact_clear3 h ..)

theorem detBindBody_range (h : 7 < db.toNat ∨ 1 < dirb.toNat) : detBindBody db idb dirb s = (.range, s) := by
  unfold detBindBody
  obtain h | h := h
  · rw [readUnit_of_gt h]
  · rw [readSide_eq_none h]
    cases readUnit db.toNat <;> rfl

/-- A detector newly bound: BLOCKED, with every count at 0. -/
def Detector.bindTo (d : Detector) (id : RecId) (dir : Side) : Detector := { d.freed.block with binding := some (id, dir) }

section
variable (hn : readUnit db.toNat = some n) (hd : readSide dirb.toNat = some dir)
include hn hd

theorem detBindBody_refused {c : Code} (h : bindRefusal (s.record (readId idb))
    ((s.boundDetector (readId idb)).isSome || (s.det n).binding.isSome) = some c) : detBindBody db idb dirb s = (c, s) := by
  unfold detBindBody
  rw [hn, hd]
  dsimp only
  rw [h]

theorem detBindBody_ok (h : bindRefusal (s.record (readId idb))
    ((s.boundDetector (readId idb)).isSome || (s.det n).binding.isSome) = none) :
    detBindBody db idb dirb s = (.ok, s.changeDet n (·.bindTo (readId idb) dir)) := by
  unfold detBindBody
  rw [hn, hd]
  dsimp only
  rw [h]
  rfl

end

theorem detBindBody_okOrRefused : OkOrRefused s (detBindBody db idb dirb s) := by
  unfold detBindBody OkOrRefused
  split
  · dsimp only
    split
    · exact .inr rfl
    · exact .inl rfl
  · exact .inr rfl

theorem detBindBody_cp : (detBindBody db idb dirb s).2.cp = s.cp := by
  unfold detBindBody
  split
  · dsimp only
    split
    · rfl
    · rfl
  · rfl

/-! ### DET UNBIND (R137) -/

theorem exec_detUnbind (h : Clear s) (db : Byte) : exec (.detUnbind [db]) s = .next (ran [db] (detUnbindBody db) s) :=
  congrArg Host.Outcome.next (transact_clear1 h ..)

theorem detUnbindBody_range (h : 7 < db.toNat) : detUnbindBody db s = (.range, s) := by
  rw [detUnbindBody, readUnit_of_gt h]
  rfl

theorem detUnbindBody_state (h : (s.det n).state = .command ∨ (s.det n).state = .trail) :
    detUnbindBody (byte n.val) s = (.state, s) := by
  rw [detUnbindBody, readUnit_byte]
  obtain h | h := h
  · simp only [ranged, h]
  · simp only [ranged, h]

theorem detUnbindBody_unbound (h : (s.det n).state = .unbound) : detUnbindBody (byte n.val) s = (.ok, s) := by
  rw [detUnbindBody, readUnit_byte]
  simp only [ranged, h]

theorem detUnbindBody_ok (h : (s.det n).state = .blocked ∨ (s.det n).state = .guard ∨ (s.det n).state = .pending) :
    detUnbindBody (byte n.val) s = (.ok, s.changeDet n .freed) := by
  rw [detUnbindBody, readUnit_byte]
  obtain h | h | h := h
  · simp only [ranged, h, State.changeDet]
  · simp only [ranged, h, State.changeDet]
  · simp only [ranged, h, State.changeDet]

/-- Everything DET UNBIND can do: nothing but its outcome, or the one detector freed. -/
theorem detUnbindBody_cases (s : State) (n : Idx8) : (∃ c, detUnbindBody (byte n.val) s = (c, s)) ∨
    detUnbindBody (byte n.val) s = (.ok, s.changeDet n .freed) := by
  cases h : (s.det n).state with
  | unbound => exact .inl ⟨_, detUnbindBody_unbound h⟩
  | blocked => exact .inr (detUnbindBody_ok (.inl h))
  | guard => exact .inr (detUnbindBody_ok (.inr (.inl h)))
  | pending => exact .inr (detUnbindBody_ok (.inr (.inr h)))
  | command => exact .inl ⟨_, detUnbindBody_state (.inl h)⟩
  | trail => exact .inl ⟨_, detUnbindBody_state (.inr h)⟩

theorem ran_detUnbind_frame {t : State} (ht : t = ran [byte n.val] (detUnbindBody (byte n.val)) s) :
    (∀ m, m ≠ n → t.det m = s.det m) ∧ t = { s with cp := t.cp, au := t.au, dets := t.dets } := by
  subst ht
  obtain ⟨c, h⟩ | h := detUnbindBody_cases s n
  · rw [ran_of h]
    exact ⟨fun _ _ => rfl, rfl⟩
  · obtain ⟨-, -, -, others, frame⟩ := ran_changeDet (ps := [byte n.val]) h
    exact ⟨others, frame⟩

/-! ### DET CONFIG (R138) -/

section
variable {g c1 c2 mode p r m u : Byte} {c : Option DetConfig}

theorem exec_detConfig (h : Clear s) (db g c1 c2 mode p r m u : Byte) : exec (.detConfig [db, g, c1, c2, mode, p, r, m, u]) s =
    .next (ran [db, g, c1, c2, mode, p, r, m, u] (detConfigBody db (readDetConfig g c1 c2 mode p r m u)) s) :=
  congrArg Host.Outcome.next (transact_clear h)

theorem readDetConfig_of_le (hm : mode.toNat ≤ 1) : readDetConfig g c1 c2 mode p r m u =
    if p = 0 ∨ 32 < p.toNat ∨ r = 0 ∨ 32 < r.toNat ∨ u = 0 ∨ g = c1 ∨ (mode = 1 ∧ (c2 = c1 ∨ c2 = g)) then none
    else some ⟨g, c1, c2, decide (mode = 1), p.toNat, r.toNat, m.toNat, u.toNat⟩ := by
  simp [readDetConfig, readFlag_of_le hm, codesClash_iff]

theorem readDetConfig_eq_none (h : 1 < mode.toNat ∨ p = 0 ∨ 32 < p.toNat ∨ r = 0 ∨ 32 < r.toNat ∨ u = 0 ∨ g = c1 ∨
    (mode = 1 ∧ (c2 = c1 ∨ c2 = g))) : readDetConfig g c1 c2 mode p r m u = none := by
  by_cases hm : 1 < mode.toNat
  · rw [readDetConfig, readFlag_eq_none hm]
    rfl
  · rw [readDetConfig_of_le (Nat.not_lt.1 hm)]
    exact if_pos (h.resolve_left hm)

theorem detConfigBody_range (h : 7 < db.toNat ∨ c = none) : detConfigBody db c s = (.range, s) := by
  unfold detConfigBody
  obtain h | rfl := h
  · rw [readUnit_of_gt h]
  · cases readUnit db.toNat <;> rfl

variable {c : DetConfig} (hn : readUnit db.toNat = some n)
include hn

theorem detConfigBody_state (h : (s.det n).armed) : detConfigBody db (some c) s = (.state, s) := by
  unfold detConfigBody
  rw [hn]
  obtain h | h | h := h
  · simp only [h]
  · simp only [h]
  · simp only [h]

theorem detConfigBody_ok (h : (s.det n).state = .unbound ∨ (s.det n).state = .blocked ∨ (s.det n).state = .guard) :
    detConfigBody db (some c) s = (.ok, { s with dets := setAt s.dets n ((s.det n).configure c) }) := by
  unfold detConfigBody
  rw [hn]
  obtain h | h | h := h
  · simp only [h]
  · simp only [h]
  · simp only [h]

end

theorem detConfigBody_cp (c : Option DetConfig) : (detConfigBody db c s).2.cp = s.cp := by
  unfold detConfigBody
  split
  · split
    · rfl
    · rfl
    · rfl
    · rfl
  · rfl

/-- Settles O50: each command's refusals in order, and what it leaves when it is taken. -/
theorem detectorCommands : Obligations.DetectorCommands := by
  refine ⟨fun s db id dirb r hs hr => ?bind, fun s d hs => ?unbind,
    fun s db hs hd => ⟨_, exec_detUnbind hs db, ran_refusal (detUnbindBody_range hd)⟩,
    fun s db g c1 c2 mode p r m u hs => ?config⟩
  case bind =>
    subst hr
    refine ⟨_, exec_detBind hs db id dirb, ran_response.trans (congrArg CommandPort.response detBindBody_cp),
      fun h => (ran_of_not_ok detBindBody_okOrRefused h).2, fun h => ran_last_of (detBindBody_range h),
      fun d dir hd hdir => ⟨fun h => ?state, fun h hc => ?range, fun h hc hb => ?inuse, fun h hc free unbound => ?taken⟩⟩
    case state => exact ran_last_of (detBindBody_refused hd hdir (bindRefusal_state h))
    case range => exact ran_last_of (detBindBody_refused hd hdir (bindRefusal_range h hc))
    case inuse => exact ran_last_of (detBindBody_refused hd hdir (unit_taken hb ▸ bindRefusal_inuse h hc))
    case taken =>
      have clear : bindRefusal (s.record (readId id))
          ((s.boundDetector (readId id)).isSome || (s.det d).binding.isSome) = none := by
        rw [free, unbound]
        exact bindRefusal_clear h hc
      obtain ⟨last, self, au, others, frame⟩ := ran_changeDet (ps := [db, id, dirb]) (detBindBody_ok hd hdir clear)
      refine ⟨last, self, fun hs => au.trans (changeDet_posts (dir := dir) ?_ ?_), others, frame⟩
      · exact hs ▸ nofun
      · rw [unbound]
        rfl
  case unbind =>
    obtain ⟨others, frame⟩ := ran_detUnbind_frame (s := s) (n := d) rfl
    refine ⟨_, exec_detUnbind hs _, others, frame, fun h => ?armed, fun h => ?unbound, fun h => ?freed⟩
    case armed =>
      rw [ran_of (detUnbindBody_state h)]
      exact ⟨rfl, rfl, rfl⟩
    case unbound =>
      rw [ran_of (detUnbindBody_unbound h)]
      exact ⟨rfl, rfl, rfl⟩
    case freed =>
      obtain ⟨last, self, au, -, -⟩ := ran_changeDet (ps := [byte d.val]) (detUnbindBody_ok h)
      rw [self, au]
      refine ⟨last, fun id dir hb => changeDet_posts ?_ (by rw [hb]; rfl), rfl, rfl, rfl, rfl, rfl, rfl⟩
      obtain h | h | h := h
      · exact h ▸ nofun
      · exact h ▸ nofun
      · exact h ▸ nofun
  case config =>
    refine ⟨_, exec_detConfig hs .., ran_response.trans (congrArg CommandPort.response (detConfigBody_cp _)),
      fun h => ran_refused_last (detConfigBody_range (h.imp id readDetConfig_eq_none)),
      fun d hd hm hp hp' hr hr' hu hg hc => ?_⟩
    have read : readDetConfig g c1 c2 mode p r m u = some ⟨g, c1, c2, decide (mode = 1), p.toNat, r.toNat, m.toNat, u.toNat⟩ := by
      refine (readDetConfig_of_le hm).trans (if_neg ?_)
      rintro (h | h | h | h | h | h | ⟨h, clash⟩)
      · exact hp h
      · exact absurd hp' (Nat.not_le.2 h)
      · exact hr h
      · exact absurd hr' (Nat.not_le.2 h)
      · exact hu h
      · exact hg h
      · exact clash.elim (hc h).1 (hc h).2
    rw [read]
    exact ⟨fun h => ran_refused_last (detConfigBody_state hd h), fun h => ran_setDet (detConfigBody_ok hd h)⟩

end Sys2Proof.Machine
end

section
/-! KEY BIND, KEY UNBIND, KEY CONFIG and KEY TEST (R149, R150, R153). -/

namespace Sys2Proof.Machine

variable {s : State} {n : Idx8} {kb idb dirb hi lo : Byte} {dir : Side} {id : RecId}

/-! ### KEY BIND (R149) -/

theorem exec_keyBind (h : Clear s) (kb idb dirb : Byte) :
    exec (.keyBind [kb, idb, dirb]) s = .next (ran [kb, idb, dirb] (keyBindBody kb idb dirb) s) :=
  congrArg Host.Outcome.next (transact_clear3 h ..)

theorem keyBindBody_range (h : 7 < kb.toNat ∨ 1 < dirb.toNat) : keyBindBody kb idb dirb s = (.range, s) := by
  unfold keyBindBody
  obtain h | h := h
  · rw [readUnit_of_gt h]
  · rw [readSide_eq_none h]
    cases readUnit kb.toNat <;> rfl

section
variable (hn : readUnit kb.toNat = some n) (hd : readSide dirb.toNat = some dir)
include hn hd

theorem keyBindBody_refused {c : Code} (h : bindRefusal (s.record (readId idb))
    ((s.boundKeyer (readId idb)).isSome || (s.keyer n).binding.isSome) = some c) : keyBindBody kb idb dirb s = (c, s) := by
  unfold keyBindBody
  rw [hn, hd]
  dsimp only
  rw [h]

theorem keyBindBody_ok (h : bindRefusal (s.record (readId idb))
    ((s.boundKeyer (readId idb)).isSome || (s.keyer n).binding.isSome) = none) : keyBindBody kb idb dirb s =
    (.ok, s.setKeyer n { (s.keyer n).freed with state := .guard, binding := some (readId idb, dir) }) := by
  unfold keyBindBody
  rw [hn, hd]
  dsimp only
  rw [h]

end

theorem keyBindBody_okOrRefused : OkOrRefused s (keyBindBody kb idb dirb s) := by
  unfold keyBindBody OkOrRefused
  split
  · dsimp only
    split
    · exact .inr rfl
    · exact .inl rfl
  · exact .inr rfl

theorem keyBindBody_cp : (keyBindBody kb idb dirb s).2.cp = s.cp := by
  unfold keyBindBody
  split
  · dsimp only
    split
    · rfl
    · rfl
  · rfl

/-! ### KEY UNBIND (R149) -/

theorem exec_keyUnbind (h : Clear s) (kb : Byte) : exec (.keyUnbind [kb]) s = .next (ran [kb] (keyUnbindBody kb) s) :=
  congrArg Host.Outcome.next (transact_clear1 h ..)

theorem keyUnbindBody_range (h : 7 < kb.toNat) : keyUnbindBody kb s = (.range, s) := by
  rw [keyUnbindBody, readUnit_of_gt h]
  rfl

theorem keyUnbindBody_state (h : (s.keyer n).state = .command ∨ (s.keyer n).state = .lockout) :
    keyUnbindBody (byte n.val) s = (.state, s) := by
  rw [keyUnbindBody, readUnit_byte]
  obtain h | h := h
  · simp only [ranged, h]
  · simp only [ranged, h]

theorem keyUnbindBody_unbound (h : (s.keyer n).state = .unbound) : keyUnbindBody (byte n.val) s = (.ok, s) := by
  rw [keyUnbindBody, readUnit_byte]
  simp only [ranged, h]

theorem keyUnbindBody_ok (h : (s.keyer n).state = .guard) :
    keyUnbindBody (byte n.val) s = (.ok, s.setKeyer n (s.keyer n).freed) := by
  rw [keyUnbindBody, readUnit_byte]
  simp only [ranged, h]

/-- Everything KEY UNBIND can do: nothing but its outcome, or the one keyer freed. -/
theorem keyUnbindBody_cases (s : State) (n : Idx8) : (∃ c, keyUnbindBody (byte n.val) s = (c, s)) ∨
    keyUnbindBody (byte n.val) s = (.ok, s.setKeyer n (s.keyer n).freed) := by
  cases h : (s.keyer n).state with
  | unbound => exact .inl ⟨_, keyUnbindBody_unbound h⟩
  | guard => exact .inr (keyUnbindBody_ok h)
  | command => exact .inl ⟨_, keyUnbindBody_state (.inl h)⟩
  | lockout => exact .inl ⟨_, keyUnbindBody_state (.inr h)⟩

theorem ran_keyUnbind_frame {t : State} (ht : t = ran [byte n.val] (keyUnbindBody (byte n.val)) s) :
    (∀ m, m ≠ n → t.keyer m = s.keyer m) ∧ t = { s with cp := t.cp, keyers := t.keyers } := by
  subst ht
  obtain ⟨c, h⟩ | h := keyUnbindBody_cases s n
  · rw [ran_of h]
    exact ⟨fun _ _ => rfl, rfl⟩
  · obtain ⟨-, -, others, frame⟩ := ran_setKeyer (ps := [byte n.val]) h
    exact ⟨others, frame⟩

/-! ### KEY CONFIG (R150) -/

section
variable {g c1 c2 mode kmin gap q : Byte} {c : Option KeyConfig}

theorem exec_keyConfig (h : Clear s) (kb g c1 c2 mode kmin gap q : Byte) :
    exec (.keyConfig [kb, g, c1, c2, mode, kmin, gap, q]) s =
      .next (ran [kb, g, c1, c2, mode, kmin, gap, q] (keyConfigBody kb (readKeyConfig g c1 c2 mode kmin gap q)) s) :=
  congrArg Host.Outcome.next (transact_clear h)

theorem readKeyConfig_of_le (hm : mode.toNat ≤ 1) : readKeyConfig g c1 c2 mode kmin gap q =
    if kmin = 0 ∨ 15 < q.toNat ∨ g = c1 ∨ (mode = 1 ∧ (c2 = c1 ∨ c2 = g)) then none
    else some ⟨g, c1, c2, decide (mode = 1), kmin.toNat, gap.toNat, q.toNat⟩ := by
  simp [readKeyConfig, readFlag_of_le hm, codesClash_iff]

theorem readKeyConfig_eq_none (h : 1 < mode.toNat ∨ kmin = 0 ∨ 15 < q.toNat ∨ g = c1 ∨
    (mode = 1 ∧ (c2 = c1 ∨ c2 = g))) : readKeyConfig g c1 c2 mode kmin gap q = none := by
  by_cases hm : 1 < mode.toNat
  · rw [readKeyConfig, readFlag_eq_none hm]
    rfl
  · rw [readKeyConfig_of_le (Nat.not_lt.1 hm)]
    exact if_pos (h.resolve_left hm)

theorem keyConfigBody_range (h : 7 < kb.toNat ∨ c = none) : keyConfigBody kb c s = (.range, s) := by
  unfold keyConfigBody
  obtain h | rfl := h
  · rw [readUnit_of_gt h]
  · cases readUnit kb.toNat <;> rfl

theorem keyConfigBody_cp (c : Option KeyConfig) : (keyConfigBody kb c s).2.cp = s.cp := by
  unfold keyConfigBody
  split
  · split
    · rfl
    · rfl
    · rfl
  · rfl

variable {c : KeyConfig} (hn : readUnit kb.toNat = some n)
include hn

theorem keyConfigBody_state (h : (s.keyer n).state = .command ∨ (s.keyer n).state = .lockout) :
    keyConfigBody kb (some c) s = (.state, s) := by
  unfold keyConfigBody
  rw [hn]
  obtain h | h := h
  · simp only [h]
  · simp only [h]

theorem keyConfigBody_ok (h : (s.keyer n).state = .unbound ∨ (s.keyer n).state = .guard) :
    keyConfigBody kb (some c) s = (.ok, s.setKeyer n { s.keyer n with cfg := c }) := by
  unfold keyConfigBody
  rw [hn]
  obtain h | h := h
  · simp only [h]
  · simp only [h]

end

/-! ### KEY TEST (R153) -/

theorem exec_keyTest (h : Clear s) (kb hi lo : Byte) :
    exec (.keyTest [kb, hi, lo]) s = .next (ran [kb, hi, lo] (keyTestBody kb hi lo) s) :=
  congrArg Host.Outcome.next (transact_clear3 h ..)

theorem keyTestBody_range (h : 7 < kb.toNat) : keyTestBody kb hi lo s = (.range, s) := by
  rw [keyTestBody, readUnit_of_gt h]
  rfl

theorem keyTestBody_length (h : word16 hi lo = 0 ∨ 8000 < word16 hi lo) : keyTestBody (byte n.val) hi lo s = (.range, s) := by
  rw [keyTestBody, readUnit_byte]
  exact if_pos h

theorem keyerActive_iff {k : Keyer} :
    s.keyerActive k = true ↔ ∃ id dir, k.binding = some (id, dir) ∧ (s.record id).state = .active := by
  unfold State.keyerActive
  split
  · next h => simp [h]
  · next h => simp [h]

section
variable (hw : 1 ≤ word16 hi lo) (hl : word16 hi lo ≤ 8000)
include hw hl

theorem not_testLength : ¬ (word16 hi lo = 0 ∨ Config.testFrames < word16 hi lo) := by
  unfold Config.testFrames
  omega

theorem keyTestBody_state (h : s.keyerActive (s.keyer n) = false) : keyTestBody (byte n.val) hi lo s = (.state, s) := by
  rw [keyTestBody, readUnit_byte]
  refine (if_neg (not_testLength hw hl)).trans (if_pos ?_)
  rw [h]
  rfl

variable (ha : s.keyerActive (s.keyer n) = true)
include ha

theorem keyTestBody_busy (h : (s.keyer n).test ≠ 0) : keyTestBody (byte n.val) hi lo s = (.busyUnit, s) := by
  rw [keyTestBody, readUnit_byte]
  exact (if_neg (not_testLength hw hl)).trans ((if_neg (by simp [ha])).trans (if_pos (Nat.pos_of_ne_zero h)))

theorem keyTestBody_ok (h : (s.keyer n).test = 0) :
    keyTestBody (byte n.val) hi lo s = (.ok, s.setKeyer n { s.keyer n with test := word16 hi lo }) := by
  rw [keyTestBody, readUnit_byte]
  exact (if_neg (not_testLength hw hl)).trans ((if_neg (by simp [ha])).trans (if_neg (by simp [h])))

end

theorem keyTestBody_cp : (keyTestBody kb hi lo s).2.cp = s.cp := by
  unfold keyTestBody ranged
  split
  · rfl
  dsimp only
  split
  · rfl
  split
  · rfl
  split
  · rfl
  · rfl

/-- Settles O52: each command's refusals in order, and what it leaves when it is taken. -/
theorem keyerCommands : Obligations.KeyerCommands := by
  refine ⟨fun s kb hi lo hs hk => ⟨⟨_, exec_keyUnbind hs kb, ran_refusal (keyUnbindBody_range hk)⟩,
    ⟨_, exec_keyTest hs kb hi lo, ran_refusal (keyTestBody_range hk)⟩⟩,
    fun s kb id dirb r hs hr => ?bind, fun s k hs => ?unbind, fun s kb g c1 c2 mode kmin gap q hs => ?config,
    fun s k hi lo hs => ?test⟩
  case bind =>
    subst hr
    refine ⟨_, exec_keyBind hs kb id dirb, ran_response.trans (congrArg CommandPort.response keyBindBody_cp),
      fun h => (ran_of_not_ok keyBindBody_okOrRefused h).2, fun h => ran_last_of (keyBindBody_range h),
      fun k dir hk hdir => ⟨fun h => ?state, fun h hc => ?range, fun h hc hb => ?inuse, fun h hc free unbound => ?taken⟩⟩
    case state => exact ran_last_of (keyBindBody_refused hk hdir (bindRefusal_state h))
    case range => exact ran_last_of (keyBindBody_refused hk hdir (bindRefusal_range h hc))
    case inuse => exact ran_last_of (keyBindBody_refused hk hdir (unit_taken hb ▸ bindRefusal_inuse h hc))
    case taken =>
      refine ran_setKeyer (keyBindBody_ok hk hdir ?_)
      rw [free, unbound]
      exact bindRefusal_clear h hc
  case unbind =>
    obtain ⟨others, frame⟩ := ran_keyUnbind_frame (s := s) (n := k) rfl
    refine ⟨_, exec_keyUnbind hs _, others, frame, fun h => ?keying, fun h => ?unbound, fun h => ?freed⟩
    case keying =>
      rw [ran_of (keyUnbindBody_state h)]
      exact ⟨rfl, rfl⟩
    case unbound =>
      rw [ran_of (keyUnbindBody_unbound h)]
      exact ⟨rfl, rfl⟩
    case freed =>
      obtain ⟨last, self, -, -⟩ := ran_setKeyer (ps := [byte k.val]) (keyUnbindBody_ok h)
      rw [self]
      exact ⟨last, rfl, rfl, rfl, rfl, rfl⟩
  case config =>
    refine ⟨_, exec_keyConfig hs .., ran_response.trans (congrArg CommandPort.response (keyConfigBody_cp _)),
      fun h => ran_refused_last (keyConfigBody_range (h.imp id readKeyConfig_eq_none)),
      fun k hk hm hkmin hq hg hc => ?_⟩
    have read : readKeyConfig g c1 c2 mode kmin gap q = some ⟨g, c1, c2, decide (mode = 1), kmin.toNat, gap.toNat, q.toNat⟩ := by
      refine (readKeyConfig_of_le hm).trans (if_neg ?_)
      rintro (h | h | h | ⟨h, clash⟩)
      · exact hkmin h
      · exact absurd hq (Nat.not_le.2 h)
      · exact hg h
      · exact clash.elim (hc h).1 (hc h).2
    rw [read]
    exact ⟨fun h => ran_refused_last (keyConfigBody_state hk h), fun h => ran_setKeyer (keyConfigBody_ok hk h)⟩
  case test =>
    refine ⟨_, exec_keyTest hs .., ran_response.trans (congrArg CommandPort.response keyTestBody_cp),
      fun h => ran_refused_last (keyTestBody_length h), fun hw hl => ⟨fun inactive => ?_, fun id dir hb active => ?_⟩⟩
    · exact ran_refused_last (keyTestBody_state hw hl (Bool.eq_false_iff.2 (mt keyerActive_iff.1 inactive)))
    · have active : s.keyerActive (s.keyer k) = true := keyerActive_iff.2 ⟨id, dir, hb, active⟩
      exact ⟨fun h => ran_refused_last (keyTestBody_busy hw hl active h), fun h => ran_setKeyer (keyTestBody_ok hw hl active h)⟩

end Sys2Proof.Machine
end

section
/-! SUPPORT. The levels of a contact line, and what LINE CONFIG and a change of the wiring make of one line (R156, R157, R159). -/

namespace Sys2Proof.Machine

variable {s t : State} {n : Idx8}

/-! ### Lines that drive and lines that do not (R156) -/

theorem drives_eq_false_iff {f : LineFunction} : f.drives = false ↔ f = .input ∨ f = .keyIn := by
  cases f <;> simp [LineFunction.drives]

section
variable (h : (s.line n).function.drives = false)
include h

theorem driven_of_not_drives : s.driven n = none := by simp [State.driven, h]

/-- The wiring sets the level of a line that the part does not drive. -/
theorem pinLevel_of_not_drives : s.pinLevel n = (s.line n).wire := by
  simp [State.pinLevel, driven_of_not_drives h]

theorem presented_of_not_drives : s.presented n = ((s.line n).wire != (s.line n).activeLow) := by
  have pin := pinLevel_of_not_drives h
  obtain input | keyIn := drives_eq_false_iff.1 h
  · simp [State.presented, input, pin]
  · exact presented_keyIn keyIn

end

theorem pinLevel_of_driven {b : Bool} (h : s.driven n = some b) :
    s.pinLevel n = if (s.line n).overpowers = true then (s.line n).wire else b := by
  simp [State.pinLevel, h]

/-! ### One line changed -/

/-- One line changed, and nothing else. -/
def State.changeLine (s : State) (n : Idx8) (g : Line → Line) : State := s.setLine n (g (s.line n))

theorem changeLine_self (s : State) (n : Idx8) (g : Line → Line) : (s.changeLine n g).line n = g (s.line n) :=
  line_setLine_self ..

theorem changeLine_other {m : Idx8} (h : m ≠ n) (g : Line → Line) : (s.changeLine n g).line m = s.line m :=
  (line_setLine ..).trans (if_neg h.symm)

/-- Two changes of lines that commute on one line commute, whichever lines they change. -/
theorem changeLine_comm (s : State) (m n : Idx8) {g h : Line → Line} (comm : ∀ l, g (h l) = h (g l)) :
    (s.changeLine n h).changeLine m g = (s.changeLine m g).changeLine n h := by
  refine congrArg (fun lines => { s with clu := { s.clu with lines := lines } }) (Vector.ext fun i hi => ?_)
  change ((s.changeLine n h).changeLine m g).line ⟨i, hi⟩ = ((s.changeLine m g).changeLine n h).line ⟨i, hi⟩
  generalize (⟨i, hi⟩ : Idx8) = j
  by_cases hm : j = m <;> by_cases hn : j = n
  · subst hm hn
    simp only [changeLine_self, comm]
  · subst hm
    rw [changeLine_self, changeLine_other hn, changeLine_other hn, changeLine_self]
  · subst hn
    rw [changeLine_other hm, changeLine_self, changeLine_self, changeLine_other hm]
  · simp only [changeLine_other hm, changeLine_other hn]

/-! ### A change of the wiring's level (R156, R159, log 12) -/

/-- A line with its share of the wiring written. -/
def Line.wired (w : Wiring) (l : Line) : Line := { l with wire := w.level, overpowers := w.overpowers }

theorem wireLevel_eq (s : State) (n : Idx8) (w : Wiring) : s.wireLevel n w = s.changeLine n (Line.wired w) := rfl

theorem wireLevel_items (s : State) (n m : Idx8) (w : Wiring) : ((s.wireLevel n w).line m).function = (s.line m).function ∧
    ((s.wireLevel n w).line m).unit = (s.line m).unit := by
  rw [wireLevel_eq]
  by_cases h : m = n
  · subst h
    rw [changeLine_self]
    exact ⟨rfl, rfl⟩
  · rw [changeLine_other h]
    exact ⟨rfl, rfl⟩

/-- What LINE_LEVEL_CHANGE makes of the state. -/
def State.levelChange (s : State) (n : Idx8) (w : Wiring) : State :=
  (s.wireLevel n w).raiseIf (s.pinLevel n != w.level && !(s.line n).function.drives && !s.inReset) linesFlag

theorem exec_lineLevelChange (s : State) (n : Idx8) (w : Wiring) : exec (.lineLevelChange n w) s = .next (s.levelChange n w) :=
  rfl

theorem levelChange_eq (s : State) (n : Idx8) (w : Wiring) : s.levelChange n w =
    { s.wireLevel n w with au := { s.au with flags := (s.levelChange n w).au.flags } } := raiseIf_eq ..

theorem levelChange_line (s : State) (n m : Idx8) (w : Wiring) :
    (s.levelChange n w).line m = (s.changeLine n (Line.wired w)).line m := by
  rw [levelChange_eq]
  rfl

theorem levelChange_quiet {w : Wiring} (h : (s.line n).function.drives = true ∨ s.pinLevel n = w.level) :
    s.levelChange n w = s.wireLevel n w := by
  obtain h | h := h
  · simp [State.levelChange, State.raiseIf, h]
  · simp [State.levelChange, State.raiseIf, h]

theorem levelChange_raises {w : Wiring} (hr : s.inReset = false) (hd : (s.line n).function.drives = false)
    (h : s.pinLevel n ≠ w.level) : s.levelChange n w = (s.wireLevel n w).raise linesFlag := by
  simp [State.levelChange, State.raiseIf, hr, hd, h]

/-! ### LINE CONFIG (R157) -/

/-- A line with its three configuration items written. -/
def Line.configured (f : LineFunction) (low : Bool) (u : Idx8) (l : Line) : Line :=
  { l with function := f, activeLow := low, unit := u }

/-- The state after a LINE CONFIG that is taken. -/
def State.configureLine (s : State) (n : Idx8) (f : LineFunction) (low : Bool) (u : Idx8) : State :=
  let s1 := s.changeLine n (Line.configured f low u)
  if f = .keyIn ∧ (s.line n).keys u = false then s1.gainLine u else s1

/-- LINE CONFIG with parameters in range: refused for a keyer that has a line already, or taken. -/
def lineConfigRead (n : Idx8) (f : LineFunction) (low : Bool) (u : Idx8) (s : State) : Code × State :=
  if f = .keyIn ∧ s.keyInTaken n u = true then (.inuse, s) else (.ok, s.configureLine n f low u)

theorem lineConfigBody_cases (nb fb pb ub : Byte) : (∀ s, lineConfigBody nb fb pb ub s = (.range, s)) ∨
    ∃ n f low u, lineConfigBody nb fb pb ub = lineConfigRead n f low u := by
  unfold lineConfigBody
  split
  · exact .inr ⟨_, _, _, _, rfl⟩
  · exact .inl fun _ => rfl

theorem readFunction_eq_none {n : Nat} (h : 4 < n) : readFunction n = none := by
  unfold readFunction
  split
  · omega
  · omega
  · omega
  · omega
  · omega
  · rfl

theorem lineConfigBody_range {nb fb pb ub : Byte} (h : 7 < nb.toNat ∨ 4 < fb.toNat ∨ 1 < pb.toNat ∨ 7 < ub.toNat) :
    lineConfigBody nb fb pb ub s = (.range, s) := by
  unfold lineConfigBody
  split
  · next hn hf hp hu =>
    obtain h | h | h | h := h
    · exact absurd hn (by simp [readUnit_of_gt h])
    · exact absurd hf (by simp [readFunction_eq_none h])
    · exact absurd hp (by simp [readFlag_eq_none h])
    · exact absurd hu (by simp [readUnit_of_gt h])
  · rfl

theorem lineConfigBody_read {nb fb pb ub : Byte} {f : LineFunction} {u : Idx8} (hn : readUnit nb.toNat = some n)
    (hf : readFunction fb.toNat = some f) (hp : pb.toNat ≤ 1) (hu : readUnit ub.toNat = some u) :
    lineConfigBody nb fb pb ub s = lineConfigRead n f (decide (pb = 1)) u s := by
  unfold lineConfigBody
  rw [hn, hf, readFlag_of_le hp, hu]
  rfl

theorem keyInTaken_iff {u : Idx8} :
    s.keyInTaken n u = true ↔ ∃ m, m ≠ n ∧ (s.line m).function = .keyIn ∧ (s.line m).unit = u := by
  simp [State.keyInTaken, allUnits]

theorem keys_eq_false_iff {l : Line} {u : Idx8} : l.keys u = false ↔ ¬ (l.function = .keyIn ∧ l.unit = u) := by
  simp [Line.keys]

section
variable (s n) (f : LineFunction) (low : Bool) (u : Idx8)

/-- LINE CONFIG writes the lines and the keyers alone. -/
theorem configureLine_eq : s.configureLine n f low u =
    { s.changeLine n (Line.configured f low u) with keyers := (s.configureLine n f low u).keyers } := by
  unfold State.configureLine
  dsimp only
  split
  · rfl
  · rfl

theorem configureLine_line (m : Idx8) :
    (s.configureLine n f low u).line m = (s.changeLine n (Line.configured f low u)).line m := by
  rw [configureLine_eq]
  rfl

variable {s n f u}

theorem configureLine_gains (hf : f = .keyIn) (h : ¬ ((s.line n).function = .keyIn ∧ (s.line n).unit = u)) :
    s.configureLine n f low u = (s.changeLine n (Line.configured f low u)).gainLine u :=
  if_pos ⟨hf, keys_eq_false_iff.2 h⟩

theorem configureLine_keeps (h : f ≠ .keyIn ∨ (s.line n).function = .keyIn ∧ (s.line n).unit = u) :
    s.configureLine n f low u = s.changeLine n (Line.configured f low u) :=
  if_neg fun ⟨hf, hk⟩ => keys_eq_false_iff.1 hk (h.resolve_left (not_not.2 hf))

theorem configureLine_keyer_other {k : Idx8} (h : k ≠ u) : (s.configureLine n f low u).keyer k = s.keyer k := by
  unfold State.configureLine
  dsimp only
  split
  · exact (keyer_gainLine ..).trans (if_neg h.symm)
  · rfl

end

/-! ### Both orders of a level change and a LINE CONFIG (R157, R159) -/

section
variable (s n) (m : Idx8) (f : LineFunction) (low : Bool) (u : Idx8) (w : Wiring)

theorem configureLine_wireLevel :
    (s.wireLevel n w).configureLine m f low u = (s.configureLine m f low u).wireLevel n w := by
  have keys : ((s.wireLevel n w).line m).keys u = (s.line m).keys u := by
    obtain ⟨function, unit⟩ := wireLevel_items s n m w
    rw [Line.keys, function, unit, Line.keys]
  have lines : (s.wireLevel n w).changeLine m (Line.configured f low u) =
      (s.changeLine m (Line.configured f low u)).wireLevel n w :=
    changeLine_comm s m n (g := Line.configured f low u) (h := Line.wired w) fun _ => rfl
  unfold State.configureLine
  dsimp only
  rw [keys, lines]
  split
  · rfl
  · rfl

theorem lineConfigRead_wireLevel :
    (lineConfigRead m f low u (s.wireLevel n w)).2 = (lineConfigRead m f low u s).2.wireLevel n w := by
  have taken : (s.wireLevel n w).keyInTaken m u = s.keyInTaken m u := by
    simp only [State.keyInTaken, wireLevel_items]
  unfold lineConfigRead
  rw [taken]
  split
  · rfl
  · exact configureLine_wireLevel ..

end

/-- All but the command port and the attention unit: what every line's level is a function of. -/
def State.board (s : State) : State := { s with cp := .reset, au := .reset }

theorem levels_of_board (h : s.board = t.board) :
    s.clu = t.clu ∧ ∀ m, s.presented m = t.presented m ∧ s.pinLevel m = t.pinLevel m :=
  ⟨(congrArg State.clu h :), fun m => ⟨(congrArg (State.presented · m) h :), (congrArg (State.pinLevel · m) h :)⟩⟩

theorem levelChange_board (s : State) (n : Idx8) (w : Wiring) : (s.levelChange n w).board = s.board.wireLevel n w := by
  rw [levelChange_eq]
  rfl

/-- A command's own work reads and writes the board alone, but for the outcome, and commutes there with a change of the wiring. -/
structure BodyWired (f : State → Code × State) : Prop where
  board : ∀ s, (f s.board).2.board = (f s).2.board
  wires : ∀ s n w, (f (s.wireLevel n w)).2 = (f s).2.wireLevel n w

theorem BodyWired.levelChange {f : State → Code × State} (h : BodyWired f) (s : State) (n : Idx8) (w : Wiring) :
    (f (s.levelChange n w)).2.board = (f s).2.board.wireLevel n w := by
  rw [← h.board, levelChange_board, h.wires, ← h.board s]
  rfl

theorem lineConfigBody_wired (nb fb pb ub : Byte) : BodyWired (lineConfigBody nb fb pb ub) := by
  obtain range | ⟨m, f, low, u, read⟩ := lineConfigBody_cases nb fb pb ub
  · exact ⟨fun s => by rw [range, range]; rfl, fun s n w => by rw [range, range]⟩
  · rw [read]
    refine ⟨fun s => ?_, fun s n w => lineConfigRead_wireLevel s n m f low u w⟩
    have taken : s.board.keyInTaken m u = s.keyInTaken m u := rfl
    have keys : (s.board.line m).keys u = (s.line m).keys u := rfl
    unfold lineConfigRead State.configureLine
    rw [taken]
    split
    · rfl
    · dsimp only
      rw [keys]
      split
      · rfl
      · rfl

section
variable {ps : List Byte} {own : Option (State → Code × State)}

/-- The board after a command that is not BUSY-exempt and leaves no response: as its own work leaves it, or untouched. -/
theorem transact_board : (transact ps false false own s).board =
    if s.executes = true ∧ s.ct.commitPending = false then (own.elim s fun f => (f s).2).board else s.board := by
  cases hx : s.executes with
  | false =>
    rw [transact_released hx, if_neg (by simp)]
    rfl
  | true =>
    have runs := executes_iff_runs.1 hx
    cases own with
    | none =>
      rw [transact_length runs]
      exact (ite_self _).symm
    | some f =>
      cases hp : s.ct.commitPending with
      | false =>
        rw [transact_clear ⟨runs, hp⟩, if_pos ⟨rfl, rfl⟩]
        rfl
      | true =>
        rw [transact_busy runs hp, if_neg (by simp)]
        rfl

/-- A level change and such a command leave the same board in both orders. -/
theorem levelChange_transact_board (h : ∀ f, own = some f → BodyWired f) (w : Wiring) :
    (transact ps false false own (s.levelChange n w)).board = ((transact ps false false own s).levelChange n w).board := by
  have executes : (s.levelChange n w).executes = s.executes := by
    rw [levelChange_eq]
    rfl
  have pending : (s.levelChange n w).ct = s.ct := by
    rw [levelChange_eq]
    rfl
  rw [levelChange_board, transact_board, transact_board, executes, pending]
  split
  · cases own with
    | none => exact levelChange_board ..
    | some f => exact (h f rfl).levelChange s n w
  · exact levelChange_board ..

end

end Sys2Proof.Machine
end

section
/-! LINE CONFIG, LINE WRITE and a change of the wiring's level (R156 to R159). -/

namespace Sys2Proof.Machine

variable {s : State} {n u : Idx8} {f : LineFunction} {low : Bool} {ps : List Byte} {body : State → Code × State}

/-! ### LINE CONFIG (R157) -/

theorem exec_lineConfig (h : Clear s) (nb fb pb ub : Byte) :
    exec (.lineConfig [nb, fb, pb, ub]) s = .next (ran [nb, fb, pb, ub] (lineConfigBody nb fb pb ub) s) :=
  congrArg Host.Outcome.next (transact_clear4 h ..)

theorem lineConfigRead_cp : (lineConfigRead n f low u s).2.cp = s.cp := by
  unfold lineConfigRead
  split
  · rfl
  · rw [configureLine_eq]
    rfl

theorem lineConfigBody_cp (nb fb pb ub : Byte) : (lineConfigBody nb fb pb ub s).2.cp = s.cp := by
  obtain range | ⟨n, f, low, u, read⟩ := lineConfigBody_cases nb fb pb ub
  · rw [range]
  · rw [read, lineConfigRead_cp]

theorem lineConfigRead_inuse (h : f = .keyIn ∧ ∃ m, m ≠ n ∧ (s.line m).function = .keyIn ∧ (s.line m).unit = u) :
    lineConfigRead n f low u s = (.inuse, s) := if_pos (h.imp_right keyInTaken_iff.2)

theorem lineConfigRead_ok (h : ¬ (f = .keyIn ∧ ∃ m, m ≠ n ∧ (s.line m).function = .keyIn ∧ (s.line m).unit = u)) :
    lineConfigRead n f low u s = (.ok, s.configureLine n f low u) := if_neg (mt (And.imp_right keyInTaken_iff.1) h)

/-- What a LINE CONFIG that is taken leaves. -/
theorem ran_configureLine (h : body s = (.ok, s.configureLine n f low u)) :
    (ran ps body s).cp.last = .ok ∧ (∀ m, (ran ps body s).line m = (s.configureLine n f low u).line m) ∧
      (∀ k, (ran ps body s).keyer k = (s.configureLine n f low u).keyer k) ∧
      ran ps body s = { s with
        cp := (ran ps body s).cp
        clu := { s.clu with lines := (ran ps body s).clu.lines }
        keyers := (ran ps body s).keyers } := by
  refine ⟨ran_last_of h, fun m => by rw [ran_of h]; rfl, fun k => by rw [ran_of h]; rfl, ?_⟩
  rw [ran_of h, configureLine_eq]
  rfl

/-! ### LINE WRITE (R158) -/

theorem exec_lineWrite (h : Clear s) (b : Byte) : exec (.lineWrite [b]) s = .next (ran [b] (lineWriteBody b) s) :=
  congrArg Host.Outcome.next (transact_clear1 h ..)

theorem lineWriteBody_line (b : Byte) (n : Idx8) : (lineWriteBody b s).2.line n = { s.line n with latch := b.getLsbD n.val } :=
  mapVec_get ..

/-! ### A change of the wiring's level (R156, R159) -/

theorem levelChange_line_self (s : State) (n : Idx8) (w : Wiring) : (s.levelChange n w).line n = (s.line n).wired w :=
  (levelChange_line ..).trans (changeLine_self ..)

theorem levelChange_line_other {m : Idx8} (h : m ≠ n) (w : Wiring) : (s.levelChange n w).line m = s.line m :=
  (levelChange_line ..).trans (changeLine_other h _)

/-- On a line that is not driven, the new level is presented, and LINES is raised if it is another. -/
theorem levelChange_input {w : Wiring} (hr : s.inReset = false) (h : (s.line n).function.drives = false) :
    (s.levelChange n w).presented n = (w.level != (s.line n).activeLow) ∧
      ((s.line n).wire = w.level → (s.levelChange n w).au = s.au) ∧
      ((s.line n).wire ≠ w.level → (s.levelChange n w).au.flags.getLsbD 11 = true ∧
        (∀ i, i ≠ 11 → (s.levelChange n w).au.flags.getLsbD i = s.au.flags.getLsbD i) ∧
        (s.levelChange n w).au = { s.au with flags := (s.levelChange n w).au.flags }) := by
  have line := levelChange_line_self s n w
  have pin := pinLevel_of_not_drives h
  refine ⟨?_, fun same => ?_, fun other => ?_⟩
  · rw [presented_of_not_drives (by rw [line]; exact h), line]
    rfl
  · rw [levelChange_quiet (.inr (pin.trans same))]
    rfl
  · rw [levelChange_raises hr h (pin ▸ other)]
    have flag (i : Nat) : ((s.wireLevel n w).raise linesFlag).au.flags.getLsbD i = (s.au.flags.getLsbD i || decide (i = 11)) :=
      raise_flag _ i (by decide)
    exact ⟨by simp [flag], fun i hi => by simp [flag, hi], rfl⟩

/-- Settles O54: each command by its own work, the two orders by what both leave of the board. -/
theorem contactLineCommandsAndLevels : Obligations.ContactLineCommandsAndLevels := by
  refine ⟨fun s nb fb pb ub hs => ⟨_, exec_lineConfig hs ..,
    ran_response.trans (congrArg CommandPort.response (lineConfigBody_cp ..)),
    fun h => ran_refused_last (lineConfigBody_range h), fun n f u hn hf hp hu => ?config⟩,
    fun s b hs => ⟨_, exec_lineWrite hs b, ended_ran, lineWriteBody_line b, rfl⟩,
    fun s t1 t2 t3 t4 n w ps h1 h2 h3 h4 => ?orders, fun s n w hr => ?level⟩
  case config =>
    have read := lineConfigBody_read (s := s) hn hf hp hu
    refine ⟨fun h => ran_refused_last (read.trans (lineConfigRead_inuse h)), fun h => ?_⟩
    obtain ⟨last, line, keyer, frame⟩ := ran_configureLine (ps := [nb, fb, pb, ub]) (read.trans (lineConfigRead_ok h))
    have self := (line n).trans ((configureLine_line ..).trans (changeLine_self ..))
    rw [self, keyer u]
    refine ⟨last, rfl, rfl, rfl, rfl, rfl, rfl,
      fun m hm => (line m).trans ((configureLine_line ..).trans (changeLine_other hm _)),
      fun k hk => (keyer k).trans (configureLine_keyer_other _ hk), fun h => ?_, fun hf h => ?_, frame⟩
    · rw [configureLine_keeps _ h]
      rfl
    · rw [configureLine_gains _ hf h]
      exact ⟨keyer_setKeyer_self .., keyer_gainLine_run ..⟩
  case orders =>
    cases h1
    cases h2
    cases h3
    cases h4
    exact levels_of_board (levelChange_transact_board (fourParams_all lineConfigBody_wired) w)
  case level =>
    have line := levelChange_line_self s n w
    refine ⟨_, exec_lineLevelChange s n w, fun m hm => levelChange_line_other hm w, ?_, line, fun b hb => ?_,
      fun h => levelChange_input hr (drives_eq_false_iff.2 h), fun h => ?_⟩
    · rw [levelChange_eq]
      rfl
    · rw [pinLevel_of_driven hb, line]
      rfl
    · rw [levelChange_quiet (.inl (by simpa using mt drives_eq_false_iff.1 h))]
      rfl

end Sys2Proof.Machine
end

section
/-! The alarm mask and the alarm summary (R160, R161). -/

namespace Sys2Proof.Machine

variable {s : State}

/-! ### The five terms (R160) -/

theorem not_good_iff {p : Trib} : p.good = false ↔ p.rx.align ≠ .aligned ∨ p.rx.ais = true := by
  simp [Trib.good, Classical.or_iff_not_imp_left]

theorem not_usable_iff {k : Trunk} :
    s.usable k = false ↔ (s.port k).align ≠ .aligned ∨ (s.deskew k).state ≠ .inWindow := by
  simp [State.usable, Classical.or_iff_not_imp_left]

theorem tribTerm_iff : s.tribTerm = true ↔
    ∃ n, (s.trib n).cfg.enable = true ∧ ((s.trib n).rx.align ≠ .aligned ∨ (s.trib n).rx.ais = true) := by
  simp only [← not_good_iff]
  simp [State.tribTerm, allUnits]

theorem trunkTerm_iff : s.trunkTerm = true ↔
    ∃ k, (s.port k).enable = true ∧ ((s.port k).align ≠ .aligned ∨ (s.deskew k).state ≠ .inWindow) := by
  simp only [← not_usable_iff]
  simp [State.trunkTerm, exists_trunk]

theorem detectorTerm_iff : s.detectorTerm = true ↔ ∃ d, (s.det d).state = .blocked := by
  simp [State.detectorTerm, allUnits]

theorem timingTerm_iff : s.timingTerm = true ↔ s.stu.state ≠ .locked := by
  simp [State.timingTerm]

theorem circuitTerm_iff : s.circuitTerm = true ↔ ∃ id, (s.record id).state = .active ∧ (s.record id).health = .faulted := by
  simp only [State.circuitTerm, List.any_eq_true, mem_records, decide_eq_true_eq]
  constructor
  · rintro ⟨_, ⟨id, rfl⟩, h⟩
    exact ⟨id, h⟩
  · rintro ⟨id, h⟩
    exact ⟨_, ⟨id, rfl⟩, h⟩

/-! ### The summary (R160) -/

theorem alarmSummary_iff : s.alarmSummary = true ↔
    ∃ i, i < 5 ∧ s.clu.alarmMask.getLsbD i = true ∧ s.alarmTerms.getD i false = true := by
  have bit (i : Nat) : (BitVec.ofNat 5 (maskOf s.alarmTerms) &&& s.clu.alarmMask).getLsbD i = true ↔
      i < 5 ∧ s.clu.alarmMask.getLsbD i = true ∧ s.alarmTerms.getD i false = true := by
    rw [BitVec.getLsbD_and, BitVec.getLsbD_ofNat, maskOf_testBit, Bool.and_eq_true, Bool.and_eq_true, decide_eq_true_eq,
      and_assoc, and_comm (a := _ = true)]
  have summary : s.alarmSummary = true ↔
      ¬ ∀ i, (BitVec.ofNat 5 (maskOf s.alarmTerms) &&& s.clu.alarmMask).getLsbD i = false :=
    decide_eq_true_iff.trans (not_congr BitVec.zero_iff_eq_false)
  simp only [summary, not_forall, Bool.not_eq_false, bit]

theorem alarmSummary_of_mask_zero (h : s.clu.alarmMask = 0) : s.alarmSummary = false := by
  refine Bool.eq_false_iff.2 fun summary => ?_
  obtain ⟨i, -, bit, -⟩ := alarmSummary_iff.1 summary
  rw [h] at bit
  exact Bool.false_ne_true (BitVec.getLsbD_zero.symm.trans bit)

/-- An ALARM_OUT line outside reset is driven with the summary, by its polarity (R156). -/
theorem driven_alarmOut {n : Idx8} (hr : s.inReset = false) (h : (s.line n).function = .alarmOut) :
    s.driven n = some (s.alarmSummary != (s.line n).activeLow) := by
  simp [State.driven, State.lineDrive, LineFunction.drives, hr, h]

/-! ### ALARM MASK (R161) -/

theorem exec_alarmMask (h : Clear s) (b : Byte) : exec (.alarmMask [b]) s = .next (ran [b] (alarmMaskBody b) s) :=
  congrArg Host.Outcome.next (transact_clear1 h ..)

theorem alarmMaskBody_range {b : Byte} (h : 0x1F < b.toNat) : alarmMaskBody b s = (.range, s) := by
  rw [alarmMaskBody, readWidth_of_le (w := 5) h]
  rfl

theorem alarmMaskBody_ok {b : Byte} (h : b.toNat ≤ 0x1F) :
    alarmMaskBody b s = (.ok, { s with clu := { s.clu with alarmMask := BitVec.ofNat 5 b.toNat } }) := by
  rw [alarmMaskBody, readWidth_of_lt (w := 5) (Nat.lt_succ_of_le h)]
  rfl

/-- Settles O55: the command by its own work, the summary and its terms one by one. -/
theorem alarmMaskSelectsTerms : Obligations.AlarmMaskSelectsTerms := by
  refine ⟨fun s b hs => ⟨_, exec_alarmMask hs b, fun h => ran_refusal (alarmMaskBody_range h), fun h => ?mask⟩,
    fun s b hr hb => ⟨_, congrArg Host.Outcome.next (transact_busy hr hb), rfl, rfl⟩, fun s => alarmSummary_iff,
    fun s => ⟨rfl, tribTerm_iff, trunkTerm_iff, detectorTerm_iff, timingTerm_iff, circuitTerm_iff⟩,
    fun s => alarmSummary_of_mask_zero, fun s t ht => ?hard, fun s t hs ht => ?soft⟩
  case mask =>
    rw [ran_of (alarmMaskBody_ok h)]
    exact ⟨rfl, rfl, rfl, Nat.mod_eq_of_lt (Nat.lt_succ_of_le h), rfl, fun n => driven_alarmOut hs.1.1⟩
  case hard =>
    cases ht
    rfl
  case soft =>
    rw [exec_softReset s hs] at ht
    cases ht
    rw [softReset_eq hs.1.1 rfl]

end Sys2Proof.Machine
end

section
/-! SUPPORT. Every command of 12.2 but FETCH is one transaction: its exemption from BUSY, its answer and its own work (R162 to
R165). -/

namespace Sys2Proof.Machine

variable {s : State} {c : Instr} {ps : List Byte}

/-- The own work of a command of 12.2 other than FETCH; none where the byte count does not fit (R164). -/
def serialWork : Instr → Option (State → Code × State)
  | .nop ps => noParam ps fun s => (.ok, s)
  | .softReset ps => noParam ps softResetBody
  | .readFlags ps => noParam ps readFlagsBody
  | .nextAttention ps => noParam ps nextAttentionBody
  | .setMask ps => threeParams ps setMaskBody
  | .clearCounters ps => twoParams ps clearCountersBody
  | .openRecord ps => twoParams ps openBody
  | .discard ps => oneParam ps discardBody
  | .setEnd ps => (setEndShape ps).map fun x => setEndBody x.1 x.2.1 x.2.2.1 x.2.2.2
  | .setField ps => fourParams ps setFieldBody
  | .activate ps => oneParam ps activateBody
  | .suspend ps => oneParam ps (stageBody .suspend fun st => decide (st = .active))
  | .resume ps => oneParam ps (stageBody .resume fun st => decide (st = .suspended))
  | .retire ps => oneParam ps (stageBody .retire fun st => decide (st = .active ∨ st = .suspended))
  | .revoke ps => oneParam ps revokeBody
  | .query ps => oneParam ps fun b => answering fun s => s.queryResponse (readId b)
  | .queryStaged ps => oneParam ps fun b => answering fun s => s.stagedResponse (readId b)
  | .cursor ps => oneParam ps fun b s => (.ok, { s with ct := { s.ct with cursor := readId b, endLock := false } })
  | .nextRecord ps => noParam ps nextRecordBody
  | .commit ps => noParam ps commitBody
  | .abortCommit ps => noParam ps abortBody
  | .mapQuery ps => twoParams ps mapQueryBody
  | .tribConfig ps => tribConfigShape ps
  | .tribStatus ps => oneParam ps fun b => ranged (readUnit b.toNat) fun t => answering fun s => s.tribResponse t
  | .timingConfig ps => (timingShape ps).map fun x => timingConfigure x.1 x.2.1 x.2.2
  | .timingStatus ps => noParam ps (answering State.timingResponse)
  | .trunkConfig ps => fourParams ps trunkConfigBody
  | .trunkStatus ps => oneParam ps fun b => ranged (readTrunk b.toNat) fun k => answering fun s => s.trunkResponse k
  | .recentre ps => oneParam ps recentreBody
  | .detBind ps => threeParams ps detBindBody
  | .detUnbind ps => oneParam ps detUnbindBody
  | .detConfig ps => detConfigShape ps
  | .detStatus ps => oneParam ps fun b => ranged (readUnit b.toNat) fun d => answering fun s => s.detResponse d
  | .keyBind ps => threeParams ps keyBindBody
  | .keyUnbind ps => oneParam ps keyUnbindBody
  | .keyConfig ps => keyConfigShape ps
  | .keyTest ps => threeParams ps keyTestBody
  | .keyStatus ps => oneParam ps fun b => ranged (readUnit b.toNat) fun k => answering fun s => s.keyResponse k
  | .lineConfig ps => fourParams ps lineConfigBody
  | .lineWrite ps => oneParam ps lineWriteBody
  | .lineRead ps => noParam ps (answering State.lineResponse)
  | .alarmMask ps => oneParam ps alarmMaskBody
  | _ => none

/-- A command of 12.2 other than FETCH is a transaction with its own work; its exemption and its answer are those of R165. -/
theorem exec_serial (h : serialParams c = some ps) (s : State) :
    exec c s = .next (transact ps (busyExempt c) (leavesResponse c) (serialWork c) s) := by
  cases c <;> cases h <;> rfl

/-! ### The byte counts (R164, 12.2) -/

section
variable {f : State → Code × State}

theorem noParam_isSome : (noParam ps f).isSome = true ↔ ps.length = 0 := by
  unfold noParam
  split
  · simp
  · rename_i other
    exact ⟨nofun, fun hl => match ps, hl with | [], _ => (other rfl).elim⟩

theorem oneParam_isSome {g : Byte → State → Code × State} : (oneParam ps g).isSome = true ↔ ps.length = 1 := by
  unfold oneParam
  split
  · simp
  · rename_i other
    exact ⟨nofun, fun hl => match ps, hl with | [_], _ => (other _ rfl).elim⟩

theorem twoParams_isSome {g : Byte → Byte → State → Code × State} : (twoParams ps g).isSome = true ↔ ps.length = 2 := by
  unfold twoParams
  split
  · simp
  · rename_i other
    exact ⟨nofun, fun hl => match ps, hl with | [_, _], _ => (other _ _ rfl).elim⟩

theorem threeParams_isSome {g : Byte → Byte → Byte → State → Code × State} :
    (threeParams ps g).isSome = true ↔ ps.length = 3 := by
  unfold threeParams
  split
  · simp
  · rename_i other
    exact ⟨nofun, fun hl => match ps, hl with | [_, _, _], _ => (other _ _ _ rfl).elim⟩

theorem fourParams_isSome {g : Byte → Byte → Byte → Byte → State → Code × State} :
    (fourParams ps g).isSome = true ↔ ps.length = 4 := by
  unfold fourParams
  split
  · simp
  · rename_i other
    exact ⟨nofun, fun hl => match ps, hl with | [_, _, _, _], _ => (other _ _ _ _ rfl).elim⟩

theorem tribConfigShape_isSome : (tribConfigShape ps).isSome = true ↔ ps.length = 8 := by
  unfold tribConfigShape
  split
  · simp
  · rename_i other
    exact ⟨nofun, fun hl => match ps, hl with | [_, _, _, _, _, _, _, _], _ => (other _ _ _ _ _ _ _ _ rfl).elim⟩

theorem keyConfigShape_isSome : (keyConfigShape ps).isSome = true ↔ ps.length = 8 := by
  unfold keyConfigShape
  split
  · simp
  · rename_i other
    exact ⟨nofun, fun hl => match ps, hl with | [_, _, _, _, _, _, _, _], _ => (other _ _ _ _ _ _ _ _ rfl).elim⟩

theorem detConfigShape_isSome : (detConfigShape ps).isSome = true ↔ ps.length = 9 := by
  unfold detConfigShape
  split
  · simp
  · rename_i other
    exact ⟨nofun, fun hl => match ps, hl with | [_, _, _, _, _, _, _, _, _], _ => (other _ _ _ _ _ _ _ _ _ rfl).elim⟩

/-- SET END's count byte gives 1 to 31 entries, and they are all there (R14). -/
theorem setEndShape_isSome : (setEndShape ps).isSome = true ↔
    1 ≤ (ps.getD 3 0).toNat ∧ (ps.getD 3 0).toNat ≤ 31 ∧ ps.length = 4 + (ps.getD 3 0).toNat := by
  unfold setEndShape
  split
  · simp [Nat.add_comm 4]
  · rename_i other
    exact ⟨nofun, fun ⟨_, _, hl⟩ => match ps, hl with | _ :: _ :: _ :: _ :: _, _ => (other _ _ _ _ _ rfl).elim⟩

/-- TIMING CONFIG's count byte gives up to 4 sources, and they are all there (R76). -/
theorem timingShape_isSome : (timingShape ps).isSome = true ↔
    (ps.getD 2 0).toNat ≤ 4 ∧ ps.length = 3 + (ps.getD 2 0).toNat := by
  unfold timingShape
  split
  · simp [Nat.add_comm 3]
  · rename_i other
    exact ⟨nofun, fun ⟨_, hl⟩ => match ps, hl with | _ :: _ :: _ :: _, _ => (other _ _ _ _ rfl).elim⟩

end

/-- A command's own work is at hand exactly where its byte count fits (R164). -/
theorem serialWork_isSome (h : serialParams c = some ps) : (serialWork c).isSome = true ↔ countFits c := by
  cases c <;> cases h <;> simp only [serialWork, countFits, Option.isSome_map, noParam_isSome, oneParam_isSome,
    twoParams_isSome, threeParams_isSome, fourParams_isSome, setEndShape_isSome, timingShape_isSome, tribConfigShape_isSome,
    keyConfigShape_isSome, detConfigShape_isSome]

theorem serialWork_of_fits (h : serialParams c = some ps) (hc : countFits c) : ∃ f, serialWork c = some f :=
  Option.isSome_iff_exists.1 ((serialWork_isSome h).2 hc)

theorem serialWork_of_not_fits (h : serialParams c = some ps) (hc : ¬ countFits c) : serialWork c = none :=
  Option.not_isSome_iff_eq_none.1 (mt (serialWork_isSome h).1 hc)

/-- Settles O3: `exec_serial`, and the three refusals that a transaction makes before the command's own work. -/
theorem commonChecksRefuse : Obligations.CommonChecksRefuse := by
  intro c ps s hc hs
  rw [exec_serial hc s]
  refine ⟨fun hf => ⟨_, rfl, ?length⟩, fun hf hx hb => ⟨_, rfl, ?busy⟩, fun hf hb hr ha => ⟨_, rfl, ?unread⟩⟩
  case length =>
    rw [serialWork_of_not_fits hc hf, transact_length hs]
    exact ⟨rfl, rfl⟩
  case busy =>
    obtain ⟨f, work⟩ := serialWork_of_fits hc hf
    rw [work, hx, transact_busy hs hb]
    exact ⟨rfl, rfl⟩
  case unread =>
    obtain ⟨f, work⟩ := serialWork_of_fits hc hf
    rw [work, hr, transact_unread hs hb ha]
    exact ⟨rfl, rfl⟩

end Sys2Proof.Machine
end

section
/-! The queue of commands, the fall of SEL, NOP, UNKNOWN, FETCH and HARDWARE RESET (R162 to R169, R175, log 1). -/

namespace Sys2Proof.Machine

variable {s : State} {ps : List Byte}

/-- Settles O1: the queue's two cases. -/
theorem stepRunsFrontCommand : Obligations.StepRunsFrontCommand := by
  refine ⟨fun c rest s => rfl, fun s empty => ?_⟩
  unfold step
  rw [empty]

/-! ### The status byte (R163, 12.1) -/

theorem code_toNat_lt (c : Code) : c.toNat < 16 := by cases c <;> decide

theorem statusByte_resp (s : State) : s.statusByte.getLsbD 6 = s.cp.response.isSome := by
  unfold State.statusByte
  simp only [BitVec.getLsbD_append]
  simp

theorem statusByte_attn (s : State) : s.statusByte.getLsbD 5 = s.irq := by
  unfold State.statusByte
  simp only [BitVec.getLsbD_append]
  simp

theorem statusByte_zero (s : State) : s.statusByte.getLsbD 4 = false := by
  unfold State.statusByte
  simp only [BitVec.getLsbD_append]
  simp

theorem append_toNat_mod {n m : Nat} (x : BitVec n) (y : BitVec m) : (x ++ y).toNat % 2 ^ m = y.toNat := by
  rw [BitVec.toNat_append, ← Nat.shiftLeft_add_eq_or_of_lt y.isLt, Nat.shiftLeft_eq, Nat.mul_add_mod_self_right,
    Nat.mod_eq_of_lt y.isLt]

/-- LAST is the lower nibble of the status byte. -/
theorem statusByte_last (s : State) : s.statusByte.toNat % 16 = s.cp.last.toNat :=
  (append_toNat_mod (m := 4) ..).trans (Nat.mod_eq_of_lt (code_toNat_lt _))

/-- Settles O5: the status byte item by item. -/
theorem transactionStartLatchesStatus : Obligations.TransactionStartLatchesStatus := by
  intro s hr idle
  refine ⟨_, s.statusByte, ?_, rfl, statusByte_busy s, statusByte_resp s, statusByte_attn s, statusByte_zero s,
    statusByte_last s⟩
  simp [exec, execTransactionStart, hr, idle]

/-! ### The bytes of a transaction (12.2) -/

/-- A byte with the value of a code of 12.2 is that code. -/
theorem mem_commandCodes {code : Byte} (h : code.toNat ∈ commandCodes.map BitVec.toNat) : code ∈ commandCodes := by
  obtain ⟨b, hb, e⟩ := List.mem_map.1 h
  exact BitVec.eq_of_toNat_eq e ▸ hb

theorem decodeTransaction_unknown {code : Byte} (h : code ∉ commandCodes) :
    decodeTransaction (code :: ps) = .unknownCommand code ps := by
  have other (n : Nat) (hn : n ∈ commandCodes.map BitVec.toNat) : code.toNat ≠ n := by
    rintro rfl
    exact h (mem_commandCodes hn)
  unfold decodeTransaction
  dsimp only
  split
  case h_44 => rfl
  all_goals
    rename_i e
    exact absurd e (other _ (by decide))

/-- Each code of 12.2 is read as the command whose bytes begin with it. -/
theorem transactionBytes_decode_code {code : Byte} (h : code ∈ commandCodes) :
    transactionBytes (decodeTransaction (code :: ps)) = some (code :: ps) := by
  have table : commandCodes.map (fun code => transactionBytes (decodeTransaction (code :: ps))) =
      commandCodes.map fun code => some (code :: ps) := rfl
  exact List.map_inj_left.1 table code h

theorem transactionBytes_unknown {code : Byte} (h : code ∉ commandCodes) :
    transactionBytes (.unknownCommand code ps) = some (code :: ps) := by
  simp [transactionBytes, h]

theorem transactionBytes_decode (bs : List Byte) : transactionBytes (decodeTransaction bs) = some bs := by
  cases bs with
  | nil => rfl
  | cons code ps =>
    by_cases h : code ∈ commandCodes
    · exact transactionBytes_decode_code h
    · rw [decodeTransaction_unknown h, transactionBytes_unknown h]

theorem decode_transactionBytes {c : Instr} {bs : List Byte} (h : transactionBytes c = some bs) : decodeTransaction bs = c := by
  cases c with
  | unknownCommand code ps =>
    by_cases hc : code ∈ commandCodes
    · simp [transactionBytes, hc] at h
    · rw [transactionBytes_unknown hc] at h
      cases h
      exact decodeTransaction_unknown hc
  | _ => cases h <;> rfl

/-! ### NOP and UNKNOWN (R164, R165) -/

theorem exec_nop (h : Runs s) : exec (.nop []) s = .next (ran [] (fun s => (.ok, s)) s) :=
  congrArg Host.Outcome.next (transact_exempt h)

theorem exec_unknownCommand (h : Runs s) {code : Byte} (hc : code ∉ commandCodes) :
    exec (.unknownCommand code ps) s = .next (refused ps .unknown s) := by
  simp [exec, execUnknownCommand, refused, hc, executes_of_runs h]

/-- Settles O6: the two commands by what they leave, the bytes by reading and writing them back. -/
theorem nopEmptyAndUnknown : Obligations.NopEmptyAndUnknown :=
  ⟨fun _ h => ⟨_, exec_nop h, rfl, rfl⟩, fun _ => rfl, fun _ _ _ h hc => ⟨_, exec_unknownCommand h hc, rfl, rfl⟩,
    fun _ _ => decode_transactionBytes, transactionBytes_decode, fun _ _ => rfl⟩

/-! ### FETCH (R167) -/

/-- The state after a FETCH that is executed. -/
def State.fetched (s : State) (n : Nat) : State :=
  { s with cp := ⟨(fetchOutcome s.cp.response n).1, (fetchOutcome s.cp.response n).2, .idle,
    fetchBytes s.latched s.cp.response n⟩ }

theorem exec_fetch (h : Runs s) (ps : List Byte) : exec (.fetch ps) s = .next (s.fetched ps.length) :=
  congrArg Host.Outcome.next (if_pos (executes_of_runs h))

theorem exec_fetch_released (h : ¬ Runs s) (ps : List Byte) : exec (.fetch ps) s = .next s.release :=
  congrArg Host.Outcome.next (if_neg (mt executes_iff_runs.1 h))

theorem fetchOutcome_whole {r : List Byte} {n : Nat} (h : r.length ≤ n) : fetchOutcome (some r) n = (.ok, none) := if_pos h

theorem fetchOutcome_part {r : List Byte} {n : Nat} (h : n < r.length) : fetchOutcome (some r) n = (.length, some r) :=
  if_neg (Nat.not_le.2 h)

theorem fetchBytes_none (b : Byte) (n : Nat) : fetchBytes b none n = b :: List.replicate n 0 := by simp [fetchBytes]

theorem fetchBytes_whole (b : Byte) {r : List Byte} {n : Nat} (h : r.length ≤ n) :
    fetchBytes b (some r) n = b :: (r ++ List.replicate (n - r.length) 0) := by
  simp [fetchBytes, List.take_of_length_le h]

theorem fetchBytes_part (b : Byte) {r : List Byte} {n : Nat} (h : n < r.length) :
    fetchBytes b (some r) n = b :: r.take n := by
  simp [fetchBytes, Nat.min_eq_left h.le]

/-- Settles O7: the outcome and the bytes of FETCH, for no response, a whole one and a part of one. -/
theorem fetchShiftsAndConsumes : Obligations.FetchShiftsAndConsumes := by
  refine fun s ps hs => ⟨_, exec_fetch hs ps, rfl, rfl, fun none => ?_, fun r some whole => ?_, fun r some part => ?_⟩
  · rw [State.fetched, none, fetchBytes_none]
    exact ⟨rfl, rfl, rfl⟩
  · rw [State.fetched, some, fetchOutcome_whole whole, fetchBytes_whole _ whole]
    exact ⟨rfl, rfl, rfl⟩
  · rw [State.fetched, some, fetchOutcome_part part, fetchBytes_part _ part]
    exact ⟨rfl, rfl, rfl⟩

/-! ### HARDWARE RESET (R162, R169) -/

/-- A transaction that rises while RESET is asserted is not executed (R162, log 25). -/
theorem transact_inReset (h : s.inReset = true) (exempt responds : Bool) (own : Option (State → Code × State)) :
    transact ps exempt responds own s = s.release := transact_released (by simp [State.executes, h]) own

/-- Settles O13: the reset values as they are written, and `exec_serial` for a transaction in reset. -/
theorem hardwareResetAndRelease : Obligations.HardwareResetAndRelease := by
  refine ⟨fun s => ⟨_, rfl, rfl, rfl, rfl, fun busy => if_neg busy, rfl, fun n => mapVec_get ..⟩, fun s => rfl,
    fun s c hr hc => ?_⟩
  obtain ⟨ps, params⟩ := Option.isSome_iff_exists.1 hc
  rw [exec_serial params, transact_inReset hr]
  rfl

end Sys2Proof.Machine
end

section
/-! What a command's own work can come to, command by command: it is taken, refused with nothing changed, or refused with
CONFLICT; the queue of waiting commands stays (R164, log 1). -/

namespace Sys2Proof.Machine

variable {s t : State} {v : Code × State} {ps : List Byte} {c : Instr}

/-! ### The waiting commands through the operations that these works call -/

theorem stuReact_pending (s : State) : s.stuReact.pending = s.pending := by rw [(stuReact_only s).eq]

theorem changeTrib_pending (s : State) (n : Idx8) (p : Trib) : (s.changeTrib n p).pending = s.pending := by
  rw [changeTrib_eq]

theorem trunkSettle_pending (s old : State) : (s.trunkSettle old).pending = s.pending := by
  rw [(trunkSettle_settled old s).eq]

theorem configureTrunks_pending (s : State) (ea eb : Bool) (skew : Nat) (code : Byte) :
    (s.configureTrunks ea eb skew code).pending = s.pending := by
  rw [configureTrunks_eq, trunkSettle_pending, rewired_path.pending]

/-! ### One work in one state -/

/-- What the work of a command leaves in the state `s`: the waiting commands as they are, and with another outcome than OK and
CONFLICT everything. -/
structure WorkLeaves (s : State) (v : Code × State) : Prop where
  pending : v.2.pending = s.pending
  outcome : v.1 = .conflict ∨ OkOrRefused s v

theorem WorkLeaves.refusal (c : Code) : WorkLeaves s (c, s) := ⟨rfl, .inr (.inr rfl)⟩

theorem WorkLeaves.taken (h : t.pending = s.pending) : WorkLeaves s (.ok, t) := ⟨h, .inr (.inl rfl)⟩

theorem WorkLeaves.okOrRefused (h : v.2.pending = s.pending) (k : OkOrRefused s v) : WorkLeaves s v := ⟨h, .inr k⟩

/-- The same in every state. -/
abbrev WorkSound (f : State → Code × State) : Prop := ∀ s, WorkLeaves s (f s)

theorem ranged_sound {α : Type} (a : Option α) {f : α → State → Code × State} (h : ∀ v, WorkSound (f v)) :
    WorkSound (ranged a f) := by
  intro s
  unfold ranged
  split
  · exact .refusal _
  · exact h _ s

/-- A command without a check but that of its operand. -/
theorem ranged_taken {α : Type} (a : Option α) {g : α → State → State} (h : ∀ v s, (g v s).pending = s.pending) :
    WorkLeaves s (ranged a (fun v s => (.ok, g v s)) s) := ranged_sound a (fun v s => .taken (h v s)) s

theorem answering_sound (r : State → List Byte) : WorkSound (answering r) := fun _ => .taken rfl

/-! ### The command port, the attention unit and the lines -/

theorem softResetBody_sound : WorkSound softResetBody := fun _ => .taken (stuReact_pending _)

theorem nextAttentionBody_sound : WorkSound nextAttentionBody := by
  intro s
  unfold nextAttentionBody
  split
  · exact .refusal _
  · exact .taken rfl

theorem setMaskBody_sound (hi lo qe : Byte) : WorkSound (setMaskBody hi lo qe) := by
  intro s
  unfold setMaskBody
  split
  · exact .taken rfl
  · exact .refusal _

/-- The six kinds of CLEAR COUNTERS, and the others (R174). -/
theorem clearCountersBody_sound (kind index : Byte) : WorkSound (clearCountersBody kind index) := by
  intro s
  unfold clearCountersBody
  split
  · exact ranged_taken _ fun _ _ => rfl
  · exact ranged_taken _ fun _ _ => rfl
  · exact .taken rfl
  · exact ranged_taken _ fun _ _ => rfl
  · exact ranged_taken _ fun _ _ => rfl
  · split
    · exact .taken rfl
    · exact .refusal _
  · exact .refusal _

theorem lineConfigBody_sound (nb fb pb ub : Byte) : WorkSound (lineConfigBody nb fb pb ub) := by
  intro s
  unfold lineConfigBody
  split
  · split
    · exact .refusal _
    · refine .taken ?_
      split
      · rfl
      · rfl
  · exact .refusal _

theorem alarmMaskBody_sound (b : Byte) : WorkSound (alarmMaskBody b) := fun _ => ranged_taken _ fun _ _ => rfl

/-! ### The circuit table and its maps -/

theorem openBody_sound (id cls : Byte) : WorkSound (openBody id cls) := by
  intro s
  unfold openBody
  dsimp only
  split
  · exact .refusal _
  · exact ranged_taken _ fun _ _ => rfl

theorem discardBody_sound (id : Byte) : WorkSound (discardBody id) := by
  intro s
  unfold discardBody
  dsimp only
  split
  · exact .refusal _
  · exact .taken rfl

theorem setEndBody_sound (id eb port : Byte) (entries : List Byte) : WorkSound (setEndBody id eb port entries) := by
  refine fun s => .okOrRefused ?_ setEndBody_okOrRefused
  unfold setEndBody
  dsimp only
  split
  · rfl
  split
  · split
    · rfl
    split
    · rfl
    split
    · rfl
    · rfl
  · rfl

theorem setFieldBody_sound (id code hi lo : Byte) : WorkSound (setFieldBody id code hi lo) := by
  refine fun s => .okOrRefused ?_ setFieldBody_okOrRefused
  unfold setFieldBody
  dsimp only
  split
  · rfl
  split
  · rfl
  split
  · split
    · rfl
    split
    · rfl
    split
    · rfl
    · rfl
  · split
    · rfl
    · rfl

theorem activateBody_sound (id : Byte) : WorkSound (activateBody id) := by
  refine fun s => .okOrRefused ?_ activateBody_okOrRefused
  unfold activateBody
  dsimp only
  split
  · rfl
  split
  · rfl
  split
  · rfl
  split
  · rfl
  · rfl

theorem stageBody_sound (op : StagedOp) (allowed : RecState → Bool) (id : Byte) : WorkSound (stageBody op allowed id) := by
  refine fun s => .okOrRefused ?_ stageBody_okOrRefused
  unfold stageBody
  dsimp only
  split
  · rfl
  split
  · rfl
  · rfl

theorem revokeBody_sound (id : Byte) : WorkSound (revokeBody id) := by
  intro s
  unfold revokeBody
  dsimp only
  split
  · exact .refusal _
  split
  · exact .refusal _
  · exact .taken rfl

theorem nextRecordBody_sound : WorkSound nextRecordBody := by
  intro s
  unfold nextRecordBody
  dsimp only
  split
  · exact .taken rfl
  split
  · exact .taken rfl
  · exact .taken rfl
  · exact .taken rfl

/-- COMMIT alone is refused with CONFLICT, and answers then too (R34, R35). -/
theorem commitBody_sound : WorkSound commitBody := by
  intro s
  unfold commitBody
  split
  · exact .refusal _
  split
  · exact ⟨rfl, .inl rfl⟩
  · exact .taken rfl

theorem abortBody_sound : WorkSound abortBody := by
  intro s
  unfold abortBody
  split
  · exact .taken rfl
  · exact .refusal _

theorem mapQueryBody_sound (port slot : Byte) : WorkSound (mapQueryBody port slot) := by
  intro s
  unfold mapQueryBody
  split
  · exact .refusal _
  split
  · exact answering_sound _ s
  · exact .refusal _

/-! ### Ports and station timing -/

theorem tribConfigBody_sound (n : Byte) (cfg : Option TribConfig) : WorkSound (tribConfigBody n cfg) := by
  intro s
  unfold tribConfigBody
  split
  · split
    · exact .refusal _
    split
    · exact .refusal _
    · exact .taken (changeTrib_pending ..)
  · exact .refusal _

theorem tribConfigShape_sound : ∀ f, tribConfigShape ps = some f → WorkSound f := by
  unfold tribConfigShape
  split
  · rintro _ ⟨⟩
    exact tribConfigBody_sound _ _
  · nofun

theorem timingConfigure_sound (rev wtr : Byte) (codes : List Byte) : WorkSound (timingConfigure rev wtr codes) := by
  intro s
  unfold timingConfigure
  split
  · split
    · exact .refusal _
    · exact .taken (stuReact_pending _)
  · exact .refusal _

theorem trunkConfigBody_sound (ea eb skew code : Byte) : WorkSound (trunkConfigBody ea eb skew code) := by
  intro s
  unfold trunkConfigBody
  split
  · split
    · exact .refusal _
    · exact .taken (configureTrunks_pending ..)
  · exact .refusal _

theorem recentreBody_sound (b : Byte) : WorkSound (recentreBody b) := ranged_sound _ fun k s => by
  split
  · exact .refusal _
  · exact .taken ((trunkSettle_pending ..).trans (recentred_work s k).pending)

/-! ### Detectors and keyers -/

theorem detBindBody_sound (db idb dirb : Byte) : WorkSound (detBindBody db idb dirb) := by
  refine fun s => .okOrRefused ?_ detBindBody_okOrRefused
  unfold detBindBody
  split
  · dsimp only
    split
    · rfl
    · rfl
  · rfl

theorem detUnbindBody_sound (db : Byte) : WorkSound (detUnbindBody db) := ranged_sound _ fun d s => by
  split
  · exact .refusal _
  · exact .refusal _
  · exact .taken rfl
  · exact .taken rfl

theorem detConfigBody_sound (db : Byte) (cfg : Option DetConfig) : WorkSound (detConfigBody db cfg) := by
  intro s
  unfold detConfigBody
  split
  · split
    · exact .refusal _
    · exact .refusal _
    · exact .refusal _
    · exact .taken rfl
  · exact .refusal _

theorem detConfigShape_sound : ∀ f, detConfigShape ps = some f → WorkSound f := by
  unfold detConfigShape
  split
  · rintro _ ⟨⟩
    exact detConfigBody_sound _ _
  · nofun

theorem keyBindBody_sound (kb idb dirb : Byte) : WorkSound (keyBindBody kb idb dirb) := by
  refine fun s => .okOrRefused ?_ keyBindBody_okOrRefused
  unfold keyBindBody
  split
  · dsimp only
    split
    · rfl
    · rfl
  · rfl

theorem keyUnbindBody_sound (kb : Byte) : WorkSound (keyUnbindBody kb) := ranged_sound _ fun k s => by
  split
  · exact .refusal _
  · exact .refusal _
  · exact .taken rfl
  · exact .taken rfl

theorem keyConfigBody_sound (kb : Byte) (cfg : Option KeyConfig) : WorkSound (keyConfigBody kb cfg) := by
  intro s
  unfold keyConfigBody
  split
  · split
    · exact .refusal _
    · exact .refusal _
    · exact .taken rfl
  · exact .refusal _

theorem keyConfigShape_sound : ∀ f, keyConfigShape ps = some f → WorkSound f := by
  unfold keyConfigShape
  split
  · rintro _ ⟨⟩
    exact keyConfigBody_sound _ _
  · nofun

theorem keyTestBody_sound (kb hi lo : Byte) : WorkSound (keyTestBody kb hi lo) := ranged_sound _ fun k s => by
  dsimp only
  split
  · exact .refusal _
  split
  · exact .refusal _
  split
  · exact .refusal _
  · exact .taken rfl

/-! ### Every command of 12.2 but FETCH -/

theorem serialWork_sound (c : Instr) : ∀ f, serialWork c = some f → WorkSound f := by
  cases c with
  | nop ps => exact noParam_all fun _ => .taken rfl
  | softReset ps => exact noParam_all softResetBody_sound
  | readFlags ps => exact noParam_all fun _ => .taken rfl
  | nextAttention ps => exact noParam_all nextAttentionBody_sound
  | setMask ps => exact threeParams_all setMaskBody_sound
  | clearCounters ps => exact twoParams_all clearCountersBody_sound
  | openRecord ps => exact twoParams_all openBody_sound
  | discard ps => exact oneParam_all discardBody_sound
  | setEnd ps =>
    intro f hf
    obtain ⟨x, -, rfl⟩ := Option.map_eq_some_iff.1 hf
    exact setEndBody_sound _ _ _ _
  | setField ps => exact fourParams_all setFieldBody_sound
  | activate ps => exact oneParam_all activateBody_sound
  | suspend ps => exact oneParam_all (stageBody_sound _ _)
  | resume ps => exact oneParam_all (stageBody_sound _ _)
  | retire ps => exact oneParam_all (stageBody_sound _ _)
  | revoke ps => exact oneParam_all revokeBody_sound
  | query ps => exact oneParam_all fun _ => answering_sound _
  | queryStaged ps => exact oneParam_all fun _ => answering_sound _
  | cursor ps => exact oneParam_all fun _ _ => .taken rfl
  | nextRecord ps => exact noParam_all nextRecordBody_sound
  | commit ps => exact noParam_all commitBody_sound
  | abortCommit ps => exact noParam_all abortBody_sound
  | mapQuery ps => exact twoParams_all mapQueryBody_sound
  | tribConfig ps => exact tribConfigShape_sound
  | tribStatus ps => exact oneParam_all fun _ => ranged_sound _ fun _ => answering_sound _
  | timingConfig ps =>
    intro f hf
    obtain ⟨x, -, rfl⟩ := Option.map_eq_some_iff.1 hf
    exact timingConfigure_sound _ _ _
  | timingStatus ps => exact noParam_all (answering_sound _)
  | trunkConfig ps => exact fourParams_all trunkConfigBody_sound
  | trunkStatus ps => exact oneParam_all fun _ => ranged_sound _ fun _ => answering_sound _
  | recentre ps => exact oneParam_all recentreBody_sound
  | detBind ps => exact threeParams_all detBindBody_sound
  | detUnbind ps => exact oneParam_all detUnbindBody_sound
  | detConfig ps => exact detConfigShape_sound
  | detStatus ps => exact oneParam_all fun _ => ranged_sound _ fun _ => answering_sound _
  | keyBind ps => exact threeParams_all keyBindBody_sound
  | keyUnbind ps => exact oneParam_all keyUnbindBody_sound
  | keyConfig ps => exact keyConfigShape_sound
  | keyTest ps => exact threeParams_all keyTestBody_sound
  | keyStatus ps => exact oneParam_all fun _ => ranged_sound _ fun _ => answering_sound _
  | lineConfig ps => exact fourParams_all lineConfigBody_sound
  | lineWrite ps => exact oneParam_all fun _ _ => .taken rfl
  | lineRead ps => exact noParam_all (answering_sound _)
  | alarmMask ps => exact oneParam_all alarmMaskBody_sound
  | _ => nofun

/-! ### The transactions (R164) -/

section
variable {exempt responds : Bool} {own : Option (State → Code × State)} (h : ∀ f, own = some f → WorkSound f)
include h

theorem transact_pending : (transact ps exempt responds own s).pending = s.pending := by
  obtain e | ⟨c, e⟩ | ⟨f, hf, e⟩ := transact_cases ps exempt responds own s
  · rw [e]
    rfl
  · rw [e]
    rfl
  · rw [e]
    exact (h f hf s).pending

/-- With another outcome than OK and CONFLICT a transaction leaves all but the command port, and the response, alone. -/
theorem transact_refuses (ht : t = transact ps exempt responds own s) (ok : t.cp.last ≠ .ok)
    (conflict : t.cp.last ≠ .conflict) : t.cp.response = s.cp.response ∧ t = { s with cp := t.cp } := by
  obtain e | ⟨c, e⟩ | ⟨f, hf, e⟩ := transact_cases ps exempt responds own s
  · rw [ht, e]
    exact ⟨rfl, rfl⟩
  · rw [ht, e]
    exact ⟨rfl, rfl⟩
  · rw [e] at ht
    subst ht
    obtain ⟨ended, frame⟩ := ran_of_not_ok ((h f hf s).outcome.resolve_left conflict) ok
    exact ⟨(congrArg CommandPort.response ended :), frame⟩

end

/-- A FETCH with another outcome than OK leaves all but the command port, and the response, alone (R167). -/
theorem fetched_refuses {n : Nat} (ok : (s.fetched n).cp.last ≠ .ok) : (s.fetched n).cp.response = s.cp.response := by
  have outcome : (fetchOutcome s.cp.response n).1 ≠ .ok := ok
  change (fetchOutcome s.cp.response n).2 = s.cp.response
  cases hr : s.cp.response with
  | none => rfl
  | some r =>
    by_cases whole : r.length ≤ n
    · rw [hr, fetchOutcome_whole whole] at outcome
      exact absurd rfl outcome
    · rw [fetchOutcome_part (Nat.lt_of_not_le whole)]

/-- The ways of an unknown code: it is none, it is refused, or it is not executed (R162, R164). -/
theorem exec_unknownCommand_cases (code : Byte) (ps : List Byte) (s : State) : exec (.unknownCommand code ps) s = .next s ∨
    exec (.unknownCommand code ps) s = .next (refused ps .unknown s) ∨ exec (.unknownCommand code ps) s = .next s.release := by
  by_cases known : code ∈ commandCodes
  · exact .inl (congrArg Host.Outcome.next (if_pos (by simpa using known)))
  by_cases runs : Runs s
  · exact .inr (.inl (exec_unknownCommand runs known))
  · exact .inr (.inr (by simp [exec, execUnknownCommand, known, executes_iff_runs, runs]))

/-- Settles O4: a command's own work by `serialWork_sound`, FETCH and an unknown code by the ways they can end. -/
theorem refusedCommandChangesOnlyLast : Obligations.RefusedCommandChangesOnlyLast := by
  intro c s t hc ht ok conflict
  obtain serial | ⟨ps, rfl⟩ | ⟨code, ps, rfl⟩ := hc
  · obtain ⟨ps, params⟩ := Option.isSome_iff_exists.1 serial
    rw [exec_serial params] at ht
    exact transact_refuses (serialWork_sound c) (Host.Outcome.next.inj ht).symm ok conflict
  · by_cases runs : Runs s
    · rw [exec_fetch runs] at ht
      cases ht
      exact ⟨fetched_refuses ok, rfl⟩
    · rw [exec_fetch_released runs] at ht
      cases ht
      exact ⟨rfl, rfl⟩
  · obtain e | e | e := exec_unknownCommand_cases code ps s
    all_goals
      rw [e] at ht
      cases ht
      exact ⟨rfl, rfl⟩

end Sys2Proof.Machine
end

section
/-! Every command answers, and leaves the queue of waiting commands alone (log 1, log 22): the works of the events one after
another, then one arm for each command that is no transaction. -/

namespace Sys2Proof.Machine

variable {s t u : State}

/-- An event that is due or changes nothing. -/
theorem pending_due {b : Prop} [Decidable b] (h : t.pending = s.pending) : (if b then t else s).pending = s.pending := by
  split
  · exact h
  · rfl

theorem pending_ite {b : Prop} [Decidable b] (h : t.pending = s.pending) (k : u.pending = s.pending) :
    (if b then t else u).pending = s.pending := by
  split
  · exact h
  · exact k

/-! ### Ports, trunks and timing -/

theorem stuStart_pending (s : State) : s.stuStart.pending = s.pending := by rw [(stuStart_started s).eq]

theorem refSilent_pending (s : State) : s.refSilent.pending = s.pending :=
  (congrArg State.pending (judgeRef_work s false).eq :)

theorem frameReceived_pending (s : State) (n : Idx8) (bits : List Bool) : (s.frameReceived n bits).pending = s.pending :=
  pending_ite (changeTrib_pending s n _) (changeTrib_pending s n _)

theorem changePort_pending (s : State) (k : Trunk) (p : TrunkPort) : (s.changePort k p).pending = s.pending :=
  (changePort_changed s k p).pending

theorem handOn_pending (s : State) (k : Trunk) (seq : Nat) (header payload : List Byte) (beforeRead : Bool) :
    (s.handOn k seq header payload beforeRead).pending = s.pending := by
  unfold State.handOn State.arrive
  dsimp only
  split
  · rfl
  · rfl

/-! ### The station frame (R68) -/

theorem newFrame_pending (s : State) : s.newFrame.pending = s.pending := by
  have started : (if s.stu.begun then s else s.multiframeStart).pending = s.pending :=
    pending_ite rfl (stuStart_pending s)
  have flipped (v : State) : (if v.flipDue then v.flip else v).pending = v.pending := pending_due rfl
  exact pending_ite ((flipped _).trans started) rfl

theorem opening_pending (s : State) (inp : FrameIn) : (s.opening inp).pending = s.pending := by
  rw [opening_eq, newFrame_pending, (settledFor_only s inp).eq]
  rfl

theorem traffic_pending (s : State) (inp : FrameIn) : (s.traffic inp).pending = s.pending := by
  have units : ((s.filled inp).unitWork s s.reads (s.repeatsNow inp) inp).pending = (s.filled inp).pending := by
    rw [(unitWork_only _ _ _ _ _).eq]
  have filled : (s.filled inp).pending = s.engineDone.pending := by rw [(filled_slips s inp).eq]
  have read : s.engineDone.pending = s.pending := (applyReads_path s s.reads).pending
  exact units.trans (filled.trans read)

theorem judge_pending (s : State) (inp : FrameIn) : (s.judge inp).pending = s.pending := by
  have tribs : (s.judgeTribs inp).pending = s.pending :=
    (congrArg State.pending (foldl_changeTrib (fun n p => p.judgeClock (inp.tribClock.getLsbD n.val)) allUnits
      (List.nodup_finRange 8) s (s.judgeTribs inp) rfl).1.eq :)
  have port (v : State) (k : Trunk) (present : Bool) : (v.judgePort k present).pending = v.pending := changePort_pending v k _
  have ref (v : State) : (v.judgeRef inp.refEdges).pending = v.pending :=
    (congrArg State.pending (judgeRef_work v inp.refEdges).eq :)
  rw [judge_eq, ref, port, port, tribs]

theorem stationFrame_pending (s : State) (inp : FrameIn) : (((s.opening inp).traffic inp).judge inp).pending = s.pending := by
  rw [judge_pending, traffic_pending, opening_pending]

/-! ### Every command -/

/-- A command that is no transaction of 12.2, and FETCH. -/
theorem event_pending (c : Instr) (hc : serialParams c = none) (s : State) :
    ∃ t, exec c s = .next t ∧ t.pending = s.pending := by
  cases c with
  | transactionStart =>
    refine ⟨_, rfl, ?_⟩
    split
    · exact pending_ite rfl rfl
    · rfl
  | emptyTransaction => exact ⟨_, rfl, rfl⟩
  | unknownCommand code ps => exact ⟨_, rfl, pending_ite rfl (pending_ite rfl rfl)⟩
  | fetch ps => exact ⟨_, rfl, pending_ite rfl rfl⟩
  | hardwareReset => exact ⟨_, rfl, rfl⟩
  | resetRelease => exact ⟨_, rfl, rfl⟩
  | stationFrame inp => exact ⟨_, rfl, pending_ite rfl (stationFrame_pending s inp)⟩
  | stationMultiframeStart => exact ⟨_, rfl, pending_due (stuStart_pending s)⟩
  | mapFlip => exact ⟨_, rfl, pending_due rfl⟩
  | retireHoldExpiry id => exact ⟨_, rfl, pending_due rfl⟩
  | tribClockLoss n => exact ⟨_, rfl, pending_due (changeTrib_pending s n _)⟩
  | tribCandidateFound n bits =>
    refine ⟨_, rfl, ?_⟩
    split
    · exact pending_due (changeTrib_pending s n _)
    · rfl
  | tribAlignmentConfirmed n bits => exact ⟨_, rfl, pending_due (changeTrib_pending s n _)⟩
  | tribConfirmationFailed n bits => exact ⟨_, rfl, pending_due (changeTrib_pending s n _)⟩
  | tribFrameReceived n bits => exact ⟨_, rfl, pending_due (frameReceived_pending s n bits)⟩
  | tribAlignmentLoss n bits => exact ⟨_, rfl, pending_due (changeTrib_pending s n _)⟩
  | aisWindowEnd n bits => exact ⟨_, rfl, pending_due (changeTrib_pending s n _)⟩
  | tribRemoteAlarmChange n bits => exact ⟨_, rfl, pending_due (frameReceived_pending s n bits)⟩
  | mfAlignmentLoss n bits => exact ⟨_, rfl, pending_due (frameReceived_pending s n bits)⟩
  | tribTransmitFrame n => exact ⟨_, rfl, pending_due rfl⟩
  | refActivityLoss => exact ⟨_, rfl, pending_due (refSilent_pending s)⟩
  | acquisitionComplete => exact ⟨_, rfl, pending_due (stuStart_pending s)⟩
  | holdoverExpiry => exact ⟨_, rfl, pending_due (stuStart_pending s)⟩
  | wtrExpiry => exact ⟨_, rfl, pending_due (stuStart_pending s)⟩
  | trunkClockLoss k => exact ⟨_, rfl, pending_due (changePort_pending s k _)⟩
  | trunkCandidateFound k bits =>
    refine ⟨_, rfl, ?_⟩
    split
    · exact pending_due (changePort_pending s k _)
    · rfl
  | trunkAlignmentConfirmed k bits overhead =>
    exact ⟨_, rfl, pending_due ((trunkSettle_pending ..).trans (deskewEnter_path _ k).pending)⟩
  | trunkConfirmationFailed k bits => exact ⟨_, rfl, pending_due (changePort_pending s k _)⟩
  | trunkFrameJudged k header => exact ⟨_, rfl, pending_due (changePort_pending s k _)⟩
  | trunkAlignmentLoss k word seq => exact ⟨_, rfl, pending_due (changePort_pending s k _)⟩
  | trunkFrameHandedOn k payload beforeRead =>
    refine ⟨_, rfl, ?_⟩
    split
    · exact pending_due (handOn_pending s k _ _ _ _)
    · rfl
  | windowLoss k => exact ⟨_, rfl, pending_due (loseWindow_path s k).pending⟩
  | windowReturn k => exact ⟨_, rfl, pending_due rfl⟩
  | anchorFrameArrival k payload beforeRead =>
    refine ⟨_, rfl, ?_⟩
    split
    · exact pending_due (handOn_pending s k _ _ _ _)
    · rfl
  | detectorUnblock d => exact ⟨_, rfl, pending_due rfl⟩
  | detectorCommandRecognised d => exact ⟨_, rfl, pending_due rfl⟩
  | detectorRelease d => exact ⟨_, rfl, pending_due rfl⟩
  | trailExpiry d => exact ⟨_, rfl, pending_due rfl⟩
  | detectorUnavailable d => exact ⟨_, rfl, pending_due rfl⟩
  | lineRequestQualified k => exact ⟨_, rfl, pending_due rfl⟩
  | keyerCommandEnd k => exact ⟨_, rfl, pending_due rfl⟩
  | lockoutExpiry k => exact ⟨_, rfl, pending_due rfl⟩
  | testRemainderExpiry k => exact ⟨_, rfl, pending_due rfl⟩
  | lineLevelChange n w => exact ⟨_, exec_lineLevelChange s n w, (congrArg State.pending (levelChange_eq s n w) :)⟩
  | _ => cases hc

/-- Settles O2: the commands of 12.2 as transactions, all others arm by arm. -/
theorem everyCommandAnswersAndKeepsQueue : Obligations.EveryCommandAnswersAndKeepsQueue := by
  intro c s
  cases hc : serialParams c with
  | some ps => exact ⟨_, exec_serial hc s, transact_pending (serialWork_sound c)⟩
  | none => exact event_pending c hc s

end Sys2Proof.Machine
end

section
/-! READ FLAGS, NEXT ATTENTION, SET MASK and the IRQ condition (R171 to R173). -/

namespace Sys2Proof.Machine

variable {s : State} {hi lo qe : Byte}

/-! ### READ FLAGS (R172) and NEXT ATTENTION (R171) -/

theorem exec_readFlags (h : Free s) : exec (.readFlags []) s = .next (ran [] readFlagsBody s) :=
  congrArg Host.Outcome.next (transact_free0 h _)

/-- Settles O8: the items of the response in their order, and the flags cleared. -/
theorem readFlagsReportsAndClears : Obligations.ReadFlagsReportsAndClears :=
  fun _ hs => ⟨_, exec_readFlags hs, rfl, rfl, rfl⟩

theorem exec_nextAttention (h : Free s) : exec (.nextAttention []) s = .next (ran [] nextAttentionBody s) :=
  congrArg Host.Outcome.next (transact_free0 h _)

theorem nextAttentionBody_empty (h : s.au.queue = []) : nextAttentionBody s = (.empty, s) := by
  unfold nextAttentionBody
  rw [h]

theorem nextAttentionBody_head {id : RecId} {rest : List RecId} (h : s.au.queue = id :: rest) : nextAttentionBody s =
    (.ok, { s.answer (s.attentionResponse id rest.length) with au := { s.au with queue := rest } }) := by
  unfold nextAttentionBody
  rw [h]
  rfl

/-- Settles O9: the queue with a head, and without one. -/
theorem nextAttentionTakesHead : Obligations.NextAttentionTakesHead := by
  refine ⟨fun s id rest hs head => ⟨_, s.attentionResponse id rest.length, exec_nextAttention hs, ?head⟩,
    fun s hs empty => ⟨_, exec_nextAttention hs, ?empty⟩⟩
  case head =>
    rw [ran_of (nextAttentionBody_head head)]
    exact ⟨rfl, rfl, rfl, rfl, rfl⟩
  case empty =>
    rw [← hs.2]
    exact ran_refusal (nextAttentionBody_empty empty)

/-! ### SET MASK (R173) -/

theorem exec_setMask (h : Clear s) (hi lo qe : Byte) :
    exec (.setMask [hi, lo, qe]) s = .next (ran [hi, lo, qe] (setMaskBody hi lo qe) s) :=
  congrArg Host.Outcome.next (transact_clear3 h ..)

/-- Two bytes fit in the 13 flags exactly when the high one is below 32. -/
theorem word16_lt_flags : word16 hi lo < 2 ^ 13 ↔ hi.toNat < 32 := by
  unfold word16
  omega

theorem setMaskBody_ok (hm : hi.toNat < 32) (hq : qe.toNat ≤ 1) : setMaskBody hi lo qe s = (.ok, { s with au := { s.au with
    mask := BitVec.ofNat 13 (hi.toNat * 256 + lo.toNat), queueEnable := decide (qe = 1) } }) := by
  unfold setMaskBody
  rw [readWidth_of_lt (word16_lt_flags.2 hm), readFlag_of_le hq]
  rfl

theorem setMaskBody_range (h : 32 ≤ hi.toNat ∨ 1 < qe.toNat) : setMaskBody hi lo qe s = (.range, s) := by
  unfold setMaskBody
  obtain h | h := h
  · rw [readWidth_of_le (Nat.le_of_not_lt (mt word16_lt_flags.1 (Nat.not_lt.2 h)))]
  · rw [readFlag_eq_none h]
    cases readWidth 13 (word16 hi lo) <;> rfl

/-! ### The IRQ condition (R173) -/

/-- A flag is set and unmasked. -/
theorem unmasked_iff {x y : BitVec 13} :
    x &&& y ≠ 0 ↔ ∃ i, i < 13 ∧ x.getLsbD i = true ∧ y.getLsbD i = true := by
  have bit (i : Nat) : (x &&& y).getLsbD i = true ↔ i < 13 ∧ x.getLsbD i = true ∧ y.getLsbD i = true := by
    rw [BitVec.getLsbD_and, Bool.and_eq_true]
    exact ⟨fun h => ⟨BitVec.lt_of_getLsbD h.1, h⟩, And.right⟩
  have some_bit : x &&& y ≠ 0 ↔ ¬ ∀ i, (x &&& y).getLsbD i = false := not_congr BitVec.zero_iff_eq_false
  simp only [some_bit, not_forall, Bool.not_eq_false, bit]

theorem irq_iff : s.irq = true ↔ (s.au.queue ≠ [] ∧ s.au.queueEnable = true) ∨
    ∃ i, i < 13 ∧ s.au.flags.getLsbD i = true ∧ s.au.mask.getLsbD i = true := by
  rw [← unmasked_iff, State.irq, Bool.or_eq_true, Bool.and_eq_true, decide_eq_true_eq, and_comm]
  simp

/-- Settles O10: the two outcomes of SET MASK, and the IRQ condition by its two terms. -/
theorem setMaskAndIrq : Obligations.SetMaskAndIrq := by
  refine ⟨fun s hi lo qe hs => ⟨_, exec_setMask hs hi lo qe, fun ⟨hm, hq⟩ => ?_,
    fun h => ran_refusal (setMaskBody_range h)⟩, fun s => irq_iff⟩
  rw [ran_of (setMaskBody_ok hm hq)]
  exact ⟨rfl, rfl, rfl⟩

end Sys2Proof.Machine
end

section
/-! CLEAR COUNTERS (R174). -/

namespace Sys2Proof.Machine

variable {s : State} {kind index : Byte}

theorem exec_clearCounters (h : Clear s) (kind index : Byte) :
    exec (.clearCounters [kind, index]) s = .next (ran [kind, index] (clearCountersBody kind index) s) :=
  congrArg Host.Outcome.next (transact_clear2 h ..)

/-- A taken command that writes one tributary port. -/
theorem ran_setTrib {f : State → Code × State} {ps : List Byte} {n : Idx8} {p : Trib} (h : f s = (.ok, s.setTrib n p)) :
    Ended s (ran ps f s) ps.length .ok s.cp.response ∧ (ran ps f s).trib n = p ∧
      (∀ m, m ≠ n → (ran ps f s).trib m = s.trib m) ∧
      ran ps f s = { s with cp := (ran ps f s).cp, tribs := (ran ps f s).tribs } := by
  rw [ran_of h]
  exact ⟨rfl, trib_setTrib_self .., fun m hm => (trib_setTrib ..).trans (if_neg hm.symm), rfl⟩

/-! ### The kinds with their index in range -/

theorem clearCountersBody_trib (n : Idx8) :
    clearCountersBody 0 (byte n.val) s = (.ok, s.setTrib n (s.trib n).clearCounters) :=
  congrArg (ranged · (fun n s => (Code.ok, s.setTrib n (s.trib n).clearCounters)) s) (readUnit_byte n)

theorem clearCountersBody_trunk (k : Trunk) :
    clearCountersBody 1 (byte (trunkCode k)) s = (.ok, s.setPort k (s.port k).clearCounters) :=
  congrArg (ranged · (fun k s => (Code.ok, s.setPort k (s.port k).clearCounters)) s) (readTrunk_byte k)

theorem clearCountersBody_record (id : Byte) :
    clearCountersBody 2 id s = (.ok, s.setRecord (readId id) (s.record (readId id)).clearCounters) := rfl

theorem clearCountersBody_det (n : Idx8) :
    clearCountersBody 3 (byte n.val) s = (.ok, { s with dets := setAt s.dets n (s.det n).clearCounters }) :=
  congrArg (ranged · (fun n s => (Code.ok, { s with dets := setAt s.dets n (s.det n).clearCounters })) s) (readUnit_byte n)

theorem clearCountersBody_keyer (n : Idx8) :
    clearCountersBody 4 (byte n.val) s = (.ok, s.setKeyer n (s.keyer n).clearCounters) :=
  congrArg (ranged · (fun n s => (Code.ok, s.setKeyer n (s.keyer n).clearCounters)) s) (readUnit_byte n)

theorem clearCountersBody_all : clearCountersBody 5 0 s = (.ok, s.clearAll) := rfl

/-! ### A kind or an index out of range -/

theorem clearCountersBody_range (h : 5 < kind.toNat ∨ (kind.toNat = 0 ∧ 7 < index.toNat) ∨
    (kind.toNat = 1 ∧ 1 < index.toNat) ∨ (kind.toNat = 3 ∧ 7 < index.toNat) ∨ (kind.toNat = 4 ∧ 7 < index.toNat) ∨
    (kind.toNat = 5 ∧ index ≠ 0)) : clearCountersBody kind index s = (.range, s) := by
  unfold clearCountersBody
  split
  · exact ranged_refuses (readUnit_of_gt (by omega)) _
  · exact ranged_refuses (readTrunk_eq_none (by omega)) _
  · omega
  · exact ranged_refuses (readUnit_of_gt (by omega)) _
  · exact ranged_refuses (readUnit_of_gt (by omega)) _
  · exact if_neg (by simp_all)
  · rfl

/-! ### Every counter of the part (kind 5) -/

theorem clearAll_trib (n : Idx8) : s.clearAll.trib n = (s.trib n).clearCounters := mapVec_get ..

theorem clearAll_port (k : Trunk) : s.clearAll.port k = (s.port k).clearCounters := by cases k <;> rfl

theorem clearAll_record (id : RecId) : s.clearAll.record id = (s.record id).clearCounters :=
  record_mapRecords s (fun _ r => r.clearCounters) id

theorem clearAll_det (n : Idx8) : s.clearAll.det n = (s.det n).clearCounters := mapVec_get ..

theorem clearAll_keyer (n : Idx8) : s.clearAll.keyer n = (s.keyer n).clearCounters := mapVec_get ..

/-- Settles O11: each kind writes the one item with its counters at 0, and kind 5 all of them. -/
theorem clearCountersScopes : Obligations.ClearCountersScopes := by
  refine fun s hs => ⟨fun n => ⟨_, exec_clearCounters hs .., ?trib⟩, fun k => ⟨_, exec_clearCounters hs .., ?trunk⟩,
    fun id => ⟨_, exec_clearCounters hs .., ?record⟩, fun n => ⟨_, exec_clearCounters hs .., ?det⟩,
    fun n => ⟨_, exec_clearCounters hs .., ?keyer⟩, ⟨_, exec_clearCounters hs .., ?all⟩,
    fun kind index h => ⟨_, exec_clearCounters hs .., ran_refusal (clearCountersBody_range h)⟩⟩
  case trib =>
    obtain ⟨ended, self, other, frame⟩ := ran_setTrib (ps := [0, byte n.val]) (clearCountersBody_trib (s := s) n)
    rw [self]
    exact ⟨ended, rfl, rfl, other, frame⟩
  case trunk =>
    rw [ran_of (clearCountersBody_trunk k)]
    exact ⟨rfl, port_setPort_self .., port_setPort_other .., rfl⟩
  case record => exact ran_setRecord (clearCountersBody_record id)
  case det =>
    rw [ran_of (clearCountersBody_det n)]
    exact ⟨rfl, setAt_get_self .., fun m hm => setAt_get_ne _ _ hm.symm, rfl⟩
  case keyer =>
    rw [ran_of (clearCountersBody_keyer n)]
    exact ⟨rfl, keyer_setKeyer_self .., fun m hm => (keyer_setKeyer ..).trans (if_neg hm.symm), rfl⟩
  case all =>
    rw [ran_of clearCountersBody_all]
    exact ⟨rfl, clearAll_trib, clearAll_port, clearAll_record, clearAll_det, clearAll_keyer, rfl⟩

end Sys2Proof.Machine
end
